-- ==== Sys2Proof/Word.lean ====
section
/-! DEFINITION. The words of the Nujeta 2240's edges (bytes of the control link, the pad bus and the
song image; 16-bit audio samples) and the two fixed-size tables its blocks are made of: four of a
thing (channels, lanes, row slots) and eight of a thing (registry records, bands, palette entries). -/

namespace Sys2Proof

/-- One byte as it crosses the part's edge (Chapter 11). -/
abbrev Byte := BitVec 8
/-- A two-byte field, an audio sample, or the frame check (Chapter 11). -/
abbrev Half := BitVec 16
/-- A four-byte field (Chapter 11). -/
abbrev Word := BitVec 32

/-- Four of a thing, numbered 0..3: channels and scoring lanes (numbered 1..4 by the manual), row
slots (numbered 0..3). -/
structure Quad (α : Type) where
  q0 : α
  q1 : α
  q2 : α
  q3 : α
  deriving DecidableEq, Repr

/-- Eight of a thing, numbered 0..7: registry records (addresses 1..8), bands, palette entries. -/
structure Oct (α : Type) where
  o0 : α
  o1 : α
  o2 : α
  o3 : α
  o4 : α
  o5 : α
  o6 : α
  o7 : α
  deriving DecidableEq, Repr

/-- The same value in all four places. -/
def Quad.const {α : Type} (x : α) : Quad α := ⟨x, x, x, x⟩

/-- The value in place `i`. -/
def Quad.get {α : Type} (q : Quad α) : Fin 4 → α
  | 0 => q.q0
  | 1 => q.q1
  | 2 => q.q2
  | 3 => q.q3

/-- The table with `x` in place `i`. -/
def Quad.set {α : Type} (q : Quad α) (i : Fin 4) (x : α) : Quad α :=
  match i with
  | 0 => { q with q0 := x }
  | 1 => { q with q1 := x }
  | 2 => { q with q2 := x }
  | 3 => { q with q3 := x }

/-- The table made place by place from the place's number and its old value. -/
def Quad.mapIdx {α β : Type} (f : Fin 4 → α → β) (q : Quad α) : Quad β :=
  ⟨f 0 q.q0, f 1 q.q1, f 2 q.q2, f 3 q.q3⟩

/-- The table made place by place. -/
def Quad.map {α β : Type} (f : α → β) (q : Quad α) : Quad β :=
  ⟨f q.q0, f q.q1, f q.q2, f q.q3⟩

/-- The four values in place order. -/
def Quad.toList {α : Type} (q : Quad α) : List α := [q.q0, q.q1, q.q2, q.q3]

/-- The same value in all eight places. -/
def Oct.const {α : Type} (x : α) : Oct α := ⟨x, x, x, x, x, x, x, x⟩

/-- The value in place `i`. -/
def Oct.get {α : Type} (o : Oct α) : Fin 8 → α
  | 0 => o.o0
  | 1 => o.o1
  | 2 => o.o2
  | 3 => o.o3
  | 4 => o.o4
  | 5 => o.o5
  | 6 => o.o6
  | 7 => o.o7

/-- The table with `x` in place `i`. -/
def Oct.set {α : Type} (o : Oct α) (i : Fin 8) (x : α) : Oct α :=
  match i with
  | 0 => { o with o0 := x }
  | 1 => { o with o1 := x }
  | 2 => { o with o2 := x }
  | 3 => { o with o3 := x }
  | 4 => { o with o4 := x }
  | 5 => { o with o5 := x }
  | 6 => { o with o6 := x }
  | 7 => { o with o7 := x }

/-- The table made place by place from the place's number and its old value. -/
def Oct.mapIdx {α β : Type} (f : Fin 8 → α → β) (o : Oct α) : Oct β :=
  ⟨f 0 o.o0, f 1 o.o1, f 2 o.o2, f 3 o.o3, f 4 o.o4, f 5 o.o5, f 6 o.o6, f 7 o.o7⟩

/-- The table made place by place. -/
def Oct.map {α β : Type} (f : α → β) (o : Oct α) : Oct β :=
  ⟨f o.o0, f o.o1, f o.o2, f o.o3, f o.o4, f o.o5, f o.o6, f o.o7⟩

/-- The eight values in place order. -/
def Oct.toList {α : Type} (o : Oct α) : List α := [o.o0, o.o1, o.o2, o.o3, o.o4, o.o5, o.o6, o.o7]

end Sys2Proof
end

