-- ==== Sys2Proof/Syntax.lean ====
section
/-! DEFINITION. The commands of the Nujeta 2240: one constructor of `Instr` for each row of
spec/opcode_table.json. A command is a message of the host with its tag and the fields of its payload
(R212), a character, frame or record on one of the two serial lines, a completion, or an event on a
pin. Fields stand as they are received, at their width on the line. -/

namespace Sys2Proof

/-- One pixel's colour (8.0): red, green and blue, 0..255 each. -/
structure RGB where
  red : Byte
  green : Byte
  blue : Byte
  deriving DecidableEq, Repr

/-- A received input frame: its active lines, each with its pixels (R178). It is valid when it has
exactly 1,080 lines of exactly 1,920 pixels. -/
abbrev InputFrame := List (List RGB)

/-- What one channel's pins bring at a block completion: the 480 new samples of the audio input and the
level of the receiver link line (R102, R104). -/
structure ChannelInput where
  samples : Vector Half 480
  linkHigh : Bool
  deriving DecidableEq, Repr

/-- What the four channels bring at a block completion. -/
abbrev BlockInput := Quad ChannelInput

/-- The two song slots (R50). -/
inductive SlotName where
  | a
  | b
  deriving DecidableEq, Repr

/-- How the exchange completes whose strike silences a pad (R33, R34): by the reply timeout, by a
character gap, or by an uplink frame received whole. -/
inductive FaultyCompletion where
  | timeout
  | characterGap
  | frame (bytes : List Byte)
  deriving DecidableEq, Repr

/-- The commands, one constructor for each row of spec/opcode_table.json, in the table's order. -/
inductive Instr where
  /-- POWER_UP (R218): the supplies come up. -/
  | powerUp
  /-- RESET_ASSERT (R218): the reset line is pulled low. -/
  | resetAssert
  /-- RESET_RELEASE (R218): the reset line, low for at least 10 µs, is released. -/
  | resetRelease
  /-- FRAME_RECEIVED (R188): the character `byte` arrives and is the last of a control-link frame;
  `faulted` when its stop bit was low (R186). -/
  | frameReceived (byte : Byte) (faulted : Bool)
  /-- WRONG_LEAD_BYTE (R187): the character arrives in HUNT and is no fault-free 0x5A. -/
  | wrongLeadByte (byte : Byte) (faulted : Bool)
  /-- PAYLOAD_LENGTH_ABOVE_LIMIT (R188): the second length byte arrives and declares more than 1,100. -/
  | payloadLengthAboveLimit (byte : Byte) (faulted : Bool)
  /-- GAP_TIMER_EXPIRY (R189): 5 ms of silence on the control link. -/
  | gapTimerExpiry
  /-- UNKNOWN_KIND (R192): a good message of a kind outside the kind table. -/
  | unknownKind (kind tag : Byte) (payload : List Byte)
  /-- REPLY_END (R196): the last byte of the reply being sent has left. -/
  | replyEnd
  /-- ATTENTION_NOTICE (R205): the free transmitter begins the pending notice. -/
  | attentionNotice
  /-- NOTICE_END (R196): the last byte of the notice being sent has left. -/
  | noticeEnd
  /-- ECHO (R197). -/
  | echo (tag : Byte) (bytes : List Byte)
  /-- SOFT_RESET (R198). -/
  | softReset (tag : Byte)
  /-- ATTENTION_READ (R206). -/
  | attentionRead (tag : Byte)
  /-- ATTENTION_ACK (R207). -/
  | attentionAck (tag : Byte) (named : Half)
  /-- ATTENTION_MASK (R208). -/
  | attentionMask (tag : Byte) (mask : Half)
  /-- RESOLVE with verdict FOUND (R13). -/
  | resolveFound (tag entryId parts : Byte) (title : List Half)
  /-- RESOLVE with verdict ABSENT (R14); it carries a parts count and a title too (R213). -/
  | resolveAbsent (tag entryId parts : Byte) (title : List Half)
  /-- QUEUE_ADD (R15). -/
  | queueAdd (tag : Byte) (song : Word) (lane lanePos : Byte)
  /-- QUEUE_MOVE (R16). -/
  | queueMove (tag entryId lane lanePos : Byte)
  /-- QUEUE_CANCEL (R17). -/
  | queueCancel (tag entryId : Byte)
  /-- QUEUE_READ (R18). -/
  | queueRead (tag first count : Byte)
  /-- HISTORY_READ (R19). -/
  | historyRead (tag index : Byte)
  /-- POLICY (R20). -/
  | policy (tag rush limit : Byte)
  /-- PAD_ADMIT (R43). -/
  | padAdmit (tag address : Byte)
  /-- PAD_RELEASE (R44). -/
  | padRelease (tag address : Byte)
  /-- PAD_READ (R46). -/
  | padRead (tag address : Byte)
  /-- PAD_BUS (R47). -/
  | padBus (tag enable : Byte)
  /-- SLOT_OPEN (R53). -/
  | slotOpen (tag slot entryId : Byte) (size : Word)
  /-- SLOT_DATA (R54). -/
  | slotData (tag slot : Byte) (offset : Word) (data : List Byte)
  /-- SLOT_SEAL (R55, R56). -/
  | slotSeal (tag slot : Byte)
  /-- SLOT_DISCARD (R66). -/
  | slotDiscard (tag slot : Byte)
  /-- SLOT_READ (R67). -/
  | slotRead (tag slot : Byte)
  /-- VALIDATION_COMPLETION (R64): the validation in flight in the slot ends. -/
  | validationCompletion (slot : SlotName)
  /-- START (R75). -/
  | start (tag entryId : Byte)
  /-- SYNC (R82). -/
  | sync (tag : Byte) (position : Word)
  /-- PAUSE (R89). -/
  | pause (tag : Byte)
  /-- RESUME (R90). -/
  | resume (tag : Byte)
  /-- RATE (R91). -/
  | rate (tag : Byte) (rate : Half)
  /-- KEY (R91). -/
  | key (tag shift : Byte)
  /-- STOP (R93). -/
  | stop (tag showResult : Byte)
  /-- TRANSPORT_SET (R97). -/
  | transportSet (tag auto : Byte) (syncTimeout settle holdLimit resultInterval : Half)
  /-- TRANSPORT_READ (R98). -/
  | transportRead (tag : Byte)
  /-- MIC_SET (R115). -/
  | micSet (tag mode count : Byte) (voicing clarity : Half)
  /-- MIC_READ (R116). -/
  | micRead (tag channel : Byte)
  /-- BIND (R120). -/
  | bind (tag channel mode part : Byte)
  /-- SCORE_SET (R137). -/
  | scoreSet (tag level fold : Byte) (latency : Half)
  /-- LANE_READ (R138). -/
  | laneRead (tag channel : Byte)
  /-- LAYOUT_SET (R162). -/
  | layoutSet (tag : Byte) (leadIn linger : Half)
  /-- LAYOUT_READ (R163). -/
  | layoutRead (tag : Byte)
  /-- BAND_MAP (R180). -/
  | bandMap (tag : Byte) (codes : Oct Byte)
  /-- ROW_PLACE (R180). -/
  | rowPlace (tag slot band offset : Byte)
  /-- PALETTE (R181). -/
  | palette (tag entry : Byte) (colour : RGB)
  /-- BANNER_SET (R181). -/
  | bannerSet (tag : Byte) (window digitBase : Half)
  /-- GLYPH_LOAD (R175). -/
  | glyphLoad (tag : Byte) (code : Half) (width : Byte) (coverage : List Byte)
  /-- GLYPH_DROP (R176). -/
  | glyphDrop (tag : Byte) (code : Half)
  /-- GLYPH_CLEAR (R177). -/
  | glyphClear (tag : Byte)
  /-- COMPOSITOR_READ (R182). -/
  | compositorRead (tag : Byte) (code : Half)
  /-- BLOCK_COMPLETION (R102): a block completion, whatever it brings. -/
  | blockCompletion (input : BlockInput)
  /-- PRESENCE_CHANGE (R104): the block completion at which a channel's presence changes. -/
  | presenceChange (input : BlockInput)
  /-- SONG_END (R78): the block completion at which the clock reaches the song's duration. -/
  | songEnd (input : BlockInput)
  /-- SYNC_TIMEOUT (R86): the block completion at which the sync timer reaches its timeout. -/
  | syncTimeout (input : BlockInput)
  /-- HOLD_LIMIT (R87): the block completion at which the hold count reaches its limit. -/
  | holdLimit (input : BlockInput)
  /-- SETTLE_SPENT (R88): the block completion in RECOVER that finds the settle count at 0. -/
  | settleSpent (input : BlockInput)
  /-- CUE_STALL (R77): the block completion at which the cue stall count reaches 1,000. -/
  | cueStall (input : BlockInput)
  /-- RESULT_COUNTDOWN_SPENT (R95): the block completion at which the result countdown reaches 0. -/
  | resultCountdownSpent (input : BlockInput)
  /-- POLLING_ROUND (R30): the block completion at which a polling round begins. -/
  | pollingRound (input : BlockInput)
  /-- PAD_REPLY_TIMEOUT (R33, R38): 1 ms after the downlink frame with no uplink frame begun. -/
  | padReplyTimeout
  /-- UPLINK_CHARACTER_GAP (R216): more than 60 µs inside an uplink frame. -/
  | uplinkCharacterGap
  /-- UPLINK_FAULTY_FRAME (R33): an uplink frame, given byte by byte, is received whole. -/
  | uplinkFaultyFrame (bytes : List Byte)
  /-- PAD_SILENCING (R34): the faulty completion that brings the strike count to 8. -/
  | padSilencing (completion : FaultyCompletion)
  /-- IDLE record of the pad at `address` (R35), received whole with a correct check. -/
  | idleRecord (address : Byte)
  /-- REQUEST record of the pad at `address` (R9), received whole with a correct check. -/
  | request (address : Byte) (toggle : Bool) (song : Word) (part : Byte) (rush : Bool)
  /-- WITHDRAW record of the pad at `address` (R11), received whole with a correct check. -/
  | withdraw (address : Byte) (toggle : Bool) (song : Word)
  /-- JOIN record carrying `serial` (R39), received whole with a correct check. -/
  | join (address : Byte) (serial : Word)
  /-- ASSIGN_SENT (R38): the ASSIGN's last bit has left. -/
  | assignSent
  /-- VIDEO_FRAME_START (R167): an output frame starts. -/
  | videoFrameStart
  /-- VIDEO_LOSS (R178): the output frame start at which the stale count reaches 3. -/
  | videoLoss
  /-- VIDEO_RESTORE (R178): the output frame start at which the fresh run reaches 2. -/
  | videoRestore
  /-- INPUT_FRAME_COMPLETION (R178): an input frame has been received whole. -/
  | inputFrameCompletion (frame : InputFrame)
  /-- CHARACTER_RECEIVED (R187): a character arrives on the control link. -/
  | characterReceived (byte : Byte) (faulted : Bool)
  /-- UPLINK_CHARACTER_RECEIVED (R216): a character arrives on the pad bus. -/
  | uplinkCharacterReceived (byte : Byte)
  deriving DecidableEq, Repr

end Sys2Proof
end

