-- ==== Sys2Proof/Machine/State.lean ====
section
/-! DEFINITION. Every piece of state the manual gives the Nujeta 2240, block by block, as plain data;
the reasons a command can stop; and the state right after power-on reset. -/

namespace Sys2Proof.Machine

/-! ## Request Queue (Chapter 1) -/

/-- The queue's two sections of waiting entries (R1). -/
inductive QueueLane where
  | normal
  | rush
  deriving DecidableEq, Repr

/-- The states of an entry (R2). -/
inductive EntryState where
  | pending
  | ready
  | loading
  | staged
  | playing
  deriving DecidableEq, Repr

/-- Who made an entry (R1). -/
inductive Origin where
  | pad
  | operator
  deriving DecidableEq, Repr

/-- One item of a requester list: a pad address 1..8 with a part choice 0..4 (R1). -/
structure Requester where
  pad : Nat
  part : Nat
  deriving DecidableEq, Repr

/-- The catalogue fields, which are set together by RESOLVE with verdict FOUND (R1, R13). -/
structure Catalogue where
  parts : Nat
  title : List Nat
  deriving DecidableEq, Repr

/-- One requested song (R1). -/
structure Entry where
  id : Nat
  song : Nat
  lane : QueueLane
  state : EntryState
  origin : Origin
  requesters : List Requester
  catalogue : Option Catalogue
  arrival : Nat
  deriving DecidableEq, Repr

/-- How a song finished (R23). -/
inductive FinishKind where
  | completed
  | aborted
  | skipped
  deriving DecidableEq, Repr

/-- One lane's result in a history record (R23, R135). -/
structure LaneResult where
  part : Option Nat
  score : Option Nat
  scored : Nat
  empty : Nat
  void : Nat
  deriving DecidableEq, Repr

/-- One finished entry (R23). -/
structure HistoryRecord where
  id : Nat
  song : Nat
  requesters : List Requester
  finish : FinishKind
  lanes : Quad LaneResult
  deriving DecidableEq, Repr

/-- The Request Queue's state: the ordered list of entries, the history (newest first), the id and
arrival allocators and the policy (R3, R6, R7, R20, R24). -/
structure RequestQueue where
  entries : List Entry
  history : List HistoryRecord
  nextId : Nat
  arrivals : Nat
  rushEnabled : Bool
  padLimit : Nat
  deriving DecidableEq, Repr

/-! ## Pad Bus Controller (Chapter 2) -/

/-- The states of a registry record (R29). -/
inductive PadState where
  | free
  | enrolled
  | silenced
  deriving DecidableEq, Repr

/-- The pad outcome codes (R28, section 1.5). -/
inductive OutcomeCode where
  | none
  | accepted
  | demoted
  | merged
  | duplicate
  | mergeFull
  | limit
  | queueFull
  | badNumber
  | withdrawn
  | notWaiting
  deriving DecidableEq, Repr

/-- The outcome RQ hands back for a pad record (section 1.5). -/
structure PadOutcome where
  code : OutcomeCode
  id : Nat
  position : Nat
  deriving DecidableEq, Repr

/-- A record's last outcome: the toggle of the record it answers, and the outcome (R28). -/
structure LastOutcome where
  toggle : Bool
  outcome : PadOutcome
  deriving DecidableEq, Repr

/-- The reasons of a DROPPED news item (R28). -/
inductive DropReason where
  | notInCatalogue
  | cancelled
  deriving DecidableEq, Repr

/-- What became of a song (R28, R41). -/
inductive NewsKind where
  | started
  | finished (score : Option Nat)
  | dropped (reason : DropReason)
  deriving DecidableEq, Repr

/-- A news item (R28). -/
structure NewsItem where
  kind : NewsKind
  song : Nat
  deriving DecidableEq, Repr

/-- One registry record (R28). -/
structure PadRecord where
  state : PadState
  serial : Option Word
  strikes : Nat
  expectedToggle : Bool
  lastOutcome : LastOutcome
  news : Option NewsItem
  newsCounter : Nat
  deriving DecidableEq, Repr

/-- The content of a POLL's feedback record (R32). -/
structure Feedback where
  lastOutcome : LastOutcome
  news : Option NewsItem
  newsCounter : Nat
  playingSong : Nat
  firstPosition : Nat
  deriving DecidableEq, Repr

/-- A downlink frame (R215). -/
inductive DownFrame where
  | poll (address : Nat) (feedback : Feedback)
  | invite
  | assign (serial : Word) (address : Nat)
  deriving DecidableEq, Repr

/-- With whom an exchange is run: the enrolled address `i + 1`, or the join window (R33, R38). -/
inductive Target where
  | pad (i : Fin 8)
  | joinWindow
  deriving DecidableEq, Repr

/-- How far an exchange has come: its POLL or INVITE being sent; that frame's last bit sent and no uplink
frame begun; the characters of the uplink frame received so far; or the ASSIGN being sent (R33, R38, R216). -/
inductive Stage where
  | sending
  | awaiting
  | receiving (bytes : List Byte)
  | assigning
  deriving DecidableEq, Repr

/-- The exchange in flight: its target, the last frame the part sent in it, how far it has come, and
whether SOFT_RESET has made its completion one to be discarded (R49). -/
structure Exchange where
  target : Target
  sent : DownFrame
  stage : Stage
  discarded : Bool
  deriving DecidableEq, Repr

/-- The Pad Bus Controller's state (R28, R30, R47). `lastPolled` is the greatest address polled in the
round in flight (R31), `roundEnding` that the round ends at its exchange's completion (R47, R49), and
`pacingMark` the number of the block completion at which the latest round began (R30). -/
structure PadBus where
  registry : Oct PadRecord
  roundCounter : Nat
  roundInFlight : Bool
  roundEnding : Bool
  lastPolled : Nat
  pacingMark : Option Nat
  enabled : Bool
  exchange : Option Exchange
  deriving DecidableEq, Repr

/-! ## Song Store (Chapter 3) -/

/-- The states of a slot (R50). -/
inductive SlotState where
  | empty
  | filling
  | sealing
  | staged
  | active
  deriving DecidableEq, Repr

/-- The fault codes of a fault record (R58). -/
inductive FaultCode where
  | none
  | incomplete
  | format
  | songMismatch
  | count
  | range
  | order
  | glyph
  deriving DecidableEq, Repr

/-- The locus of a fault: the first offending record (R58). -/
inductive Locus where
  | none
  | header
  | line (index : Nat)
  | syllable (index : Nat)
  | note (part index : Nat)
  deriving DecidableEq, Repr

/-- A slot's fault record (R50, R58). -/
structure FaultRecord where
  code : FaultCode
  locus : Locus
  value : Nat
  deriving DecidableEq, Repr

/-- What a slot that is not EMPTY holds: the queue entry's id and the declared size (R50). -/
structure Held where
  entryId : Nat
  size : Nat
  deriving DecidableEq, Repr

/-- A slot's image memory: the bytes that are not zero, by strictly rising address; every other address
of 0..262,143 reads as zero, the value the memory holds after power-on (R50, R70). -/
abbrev ImageMemory := List Host.Cell

/-- One song slot (R50). Bit g of `coverage` is the mark of granule g. -/
structure Slot where
  state : SlotState
  held : Option Held
  coverage : BitVec 1024
  image : ImageMemory
  fault : FaultRecord
  deriving DecidableEq, Repr

/-! ## Transport (Chapter 4) -/

/-- The transport states (R72). -/
inductive TransportState where
  | idle
  | cued
  | play
  | hold
  | recover
  | paused
  | result
  deriving DecidableEq, Repr

/-- The Transport's state (R71), with its five settings (R97). The clock `t` is in sub-ticks. -/
structure Transport where
  state : TransportState
  t : Nat
  duration : Nat
  rate : Nat
  key : Int
  slew : Int
  syncTimer : Nat
  settleCount : Nat
  holdCount : Nat
  cueStallCount : Nat
  resultCountdown : Nat
  finish : Option FinishKind
  epoch : Nat
  jumpCount : Nat
  autoAdvance : Bool
  syncTimeout : Nat
  settle : Nat
  holdLimit : Nat
  resultInterval : Nat
  deriving DecidableEq, Repr

/-- The block stamp (R80). -/
structure Stamp where
  state : TransportState
  position : Nat
  key : Int
  epoch : Nat
  deriving DecidableEq, Repr

/-! ## Microphone Front End (Chapter 5) -/

/-- The debounced state of a receiver link line (R101). -/
inductive Presence where
  | absent
  | present
  deriving DecidableEq, Repr

/-- The qualifier modes (R101). -/
inductive QualifierMode where
  | debounce
  | blank
  deriving DecidableEq, Repr

/-- The overload states (R114). -/
inductive OverloadState where
  | clear
  | pending
  | sustained
  deriving DecidableEq, Repr

/-- A block record (R103); its channel is the place it stands in. -/
structure BlockRecord where
  presence : Presence
  level : Int
  clarity : Nat
  period : Nat
  pitch : Option Nat
  candidate : Bool
  voiced : Bool
  overload : Bool
  mode : QualifierMode
  count : Nat
  stamp : Stamp
  deriving DecidableEq, Repr

/-- A channel record (R101). `window` is the channel's last 1,920 samples, oldest first. -/
structure Channel where
  presence : Presence
  changeCount : Nat
  window : List Half
  candidateRun : Nat
  overload : OverloadState
  episodes : Nat
  latest : BlockRecord
  deriving DecidableEq, Repr

/-- The Microphone Front End's state: four channel records and the shared settings (R101, R115). -/
structure MicFrontEnd where
  channels : Quad Channel
  mode : QualifierMode
  count : Nat
  voicing : Int
  clarity : Nat
  deriving DecidableEq, Repr

/-! ## Scoring Unit (Chapter 6) -/

/-- A channel's binding (R119). -/
inductive Binding where
  | off
  | fixed (part : Nat)
  | auto
  deriving DecidableEq, Repr

/-- The states of a scoring lane (R123). -/
inductive LaneState where
  | idle
  | armed
  | scoring
  | suspended
  | closed
  deriving DecidableEq, Repr

/-- The outcomes of a note (R130). -/
inductive NoteOutcome where
  | pending
  | opened
  | scored
  | empty
  | void
  deriving DecidableEq, Repr

/-- The note now OPEN (R122). -/
structure OpenNote where
  index : Nat
  counted : Nat
  points : Nat
  windowBlocks : Nat
  deriving DecidableEq, Repr

/-- The last closed note (R122). -/
structure LastClosed where
  index : Nat
  outcome : NoteOutcome
  accuracy : Option Nat
  deriving DecidableEq, Repr

/-- A scoring lane (R122). -/
structure Lane where
  state : LaneState
  part : Option Nat
  noteCount : Nat
  tolerance : Nat
  fold : Bool
  latency : Nat
  cursor : Nat
  openNote : Option OpenNote
  lastEpoch : Nat
  outcomes : List NoteOutcome
  sumAw : Nat
  sumW : Nat
  scored : Nat
  empty : Nat
  void : Nat
  lastClosed : Option LastClosed
  deriving DecidableEq, Repr

/-- The scoring levels (R137). -/
inductive Level where
  | easy
  | normal
  | strict
  deriving DecidableEq, Repr

/-- The Scoring Unit's state (R119, R122, R137). -/
structure ScoringUnit where
  bindings : Quad Binding
  lanes : Quad Lane
  level : Level
  fold : Bool
  latency : Nat
  deriving DecidableEq, Repr

/-! ## Lyric Layout Unit (Chapter 7) -/

/-- The modes of the Lyric Layout Unit (R141). -/
inductive LayoutMode where
  | none
  | lyrics
  | results
  deriving DecidableEq, Repr

/-- A glyph as laid out: its code, left edge, width, whether it is drawn or clipped, and the place in
its line of the syllable it belongs to (R155 to R157). -/
structure PlacedGlyph where
  code : Nat
  left : Nat
  width : Nat
  drawn : Bool
  syllable : Nat
  deriving DecidableEq, Repr

/-- A syllable's left edge and width as laid out (R155, R156). -/
structure PlacedSyllable where
  left : Nat
  width : Nat
  deriving DecidableEq, Repr

/-- A shown line with its layout (R141, R155). -/
structure ShownLine where
  index : Nat
  x0 : Nat
  width : Nat
  glyphs : List PlacedGlyph
  syllables : List PlacedSyllable
  deriving DecidableEq, Repr

/-- A row slot (R141). -/
structure RowSlot where
  shown : Option ShownLine
  deferred : Option Nat
  next : Option Nat
  late : Nat
  deriving DecidableEq, Repr

/-- The Lyric Layout Unit's state (R141). -/
structure LayoutUnit where
  leadIn : Nat
  linger : Nat
  songLeadIn : Nat
  songLinger : Nat
  mode : LayoutMode
  rows : Quad RowSlot
  deriving DecidableEq, Repr

/-- A syllable as handed to the Compositor: its edges, wipe column and sung colour entry (R161). -/
structure WipedSyllable where
  left : Nat
  width : Nat
  wipe : Nat
  colour : Nat
  deriving DecidableEq, Repr

/-- A CLOSED lane's result as handed to the Compositor: its part and its song score, or absent (R136). -/
structure ShownResult where
  part : Nat
  score : Option Nat
  deriving DecidableEq, Repr

/-- The record handed to the Compositor for a row slot (R161); a RESULT record stands with the lane's
result that R136 gives at the same frame start. -/
inductive RowRecord where
  | empty
  | line (glyphs : List PlacedGlyph) (syllables : List WipedSyllable)
  | result (shown : Option ShownResult)
  deriving DecidableEq, Repr

/-! ## Compositor (Chapter 8) -/

/-- The band codes (R168). -/
inductive BandCode where
  | pass
  | lyric
  | dim
  | banner
  | blank
  deriving DecidableEq, Repr

/-- Where a row slot's 48-line row stands (R169). -/
structure Placement where
  band : Nat
  offset : Nat
  deriving DecidableEq, Repr

/-- A glyph: its width, and its 48 × width coverage values row by row (R174, R213). -/
structure Glyph where
  width : Nat
  coverage : List (BitVec 2)
  deriving DecidableEq, Repr

/-- The glyph store: glyphs by strictly rising code, each code at most once (R174). -/
abbrev GlyphStore := List (Nat × Glyph)

/-- The video states (R178). -/
inductive VideoState where
  | unlocked
  | locked
  deriving DecidableEq, Repr

/-- The content an output frame is drawn from, fixed at its frame start (R167). `video` is the held
frame when the frame shows it; `banner` the title when the banner is drawn (R172). -/
structure FrameContent where
  bands : Oct BandCode
  placement : Quad Placement
  palette : Oct RGB
  digitBase : Nat
  glyphs : GlyphStore
  video : Option InputFrame
  rows : Quad RowRecord
  banner : Option (List Nat)
  deriving DecidableEq, Repr

/-- The Compositor's state (R166). `freshInput` tells whether a valid input frame has completed since
the latest frame start (R178); `frame` is the content of the frame being drawn (R167). -/
structure Compositor where
  bands : Oct BandCode
  placement : Quad Placement
  palette : Oct RGB
  glyphs : GlyphStore
  bannerWindow : Nat
  digitBase : Nat
  video : VideoState
  heldFrame : Option InputFrame
  staleCount : Nat
  freshRun : Nat
  freshInput : Bool
  bannerShown : Bool
  frame : Option FrameContent
  deriving DecidableEq, Repr

/-! ## Attention Unit (Chapter 10) -/

/-- The attention members in the order of their bits (R200, R211). -/
inductive Member where
  | newRequest
  | queueChanged
  | slotDone
  | songStarted
  | songEnded
  | syncLost
  | cueStall
  | padJoined
  | padSilenced
  | padRefused
  | micOverload
  | micAbsent
  | videoLost
  | linkError
  deriving DecidableEq, Repr

/-- A set of attention members, one bit per member (R211). -/
abbrev AttentionSet := BitVec 14

/-- The Attention Unit's state (R201). Attention pending is no field: it is set exactly when `latched`
is not empty (`Attention.pending`). -/
structure Attention where
  latched : AttentionSet
  mask : AttentionSet
  micAbsentHolds : Bool
  videoLostHolds : Bool
  noticePending : Bool
  deriving DecidableEq, Repr

/-! ## Control Link (Chapter 9) -/

/-- The receiver's states; FRAME holds the frame in progress: the bytes received after the lead byte and
the character fault mark (R185). -/
inductive Receiver where
  | hunt
  | frame (bytes : List Byte) (faulted : Bool)
  | discard
  deriving DecidableEq, Repr

/-- A good message (R191). -/
structure Message where
  kind : Byte
  tag : Byte
  payload : List Byte
  deriving DecidableEq, Repr

/-- The result codes (R194). -/
inductive ResultCode where
  | ok
  | busy
  | badKind
  | badLength
  | badValue
  | badState
  | notFound
  | full
  | exists
  | incomplete
  deriving DecidableEq, Repr

/-- A formed reply (R193): its kind and tag, the summary byte, the result code and the reply data. -/
structure Reply where
  kind : Byte
  tag : Byte
  summary : Byte
  code : ResultCode
  data : List Byte
  deriving DecidableEq, Repr

/-- An attention notice's content (R205, R211). -/
structure Notice where
  summary : Byte
  latched : AttentionSet
  mask : AttentionSet
  deriving DecidableEq, Repr

/-- The transmitter's states; NOTICE holds the notice being sent (R185, R196). The reply being sent in
REPLY is the formed reply. -/
inductive Transmitter where
  | idle
  | reply
  | notice (content : Notice)
  deriving DecidableEq, Repr

/-- The Control Link's state (R185). -/
structure ControlLink where
  receiver : Receiver
  gapRunning : Bool
  queue : List Message
  transmitter : Transmitter
  formed : Option Reply
  linkError : Bool
  deriving DecidableEq, Repr

/-! ## The whole part -/

/-- The state of the part: its ten blocks, the reset pin, the commands waiting (first in, first out),
and two counts of the model's own: `blocks`, the block completions taken since power-on, by which the
pacing mark of R30 names one, and `draws`, the choices already taken from `Config.pollAfterTransport` and `Config.downlinkSent`. -/
structure State where
  pending : List Instr
  resetLow : Bool
  blocks : Nat
  draws : Nat
  rq : RequestQueue
  pbc : PadBus
  slotA : Slot
  slotB : Slot
  tr : Transport
  mfe : MicFrontEnd
  su : ScoringUnit
  llu : LayoutUnit
  cmp : Compositor
  att : Attention
  link : ControlLink
  deriving DecidableEq, Repr

/-- Reasons the part stops with a fault. There is none: the manual gives the part no stop, and answers
every error with a result code, an outcome, a strike, a drop or an attention member. -/
inductive Fault where
  deriving DecidableEq, Repr

/-- Reasons a command is refused. -/
inductive Refusal where
  /-- Would be raised by `exec` for a command that has no meaning; every command has one, so none raises it.
  Safe: nothing is claimed of such a command. -/
  | notModelled (mnemonic : String)
  deriving DecidableEq, Repr

/-! ## The values after power-on reset -/

/-- The cleared outcome {1, NONE, 0, 0} (R28). -/
def clearedOutcome : LastOutcome := ⟨true, ⟨.none, 0, 0⟩⟩

/-- A FREE registry record (R44, R48). -/
def freeRecord : PadRecord := ⟨.free, none, 0, false, clearedOutcome, none, 0⟩

/-- The Request Queue after power-on reset (R26). -/
def RequestQueue.reset : RequestQueue := ⟨[], [], 1, 0, true, 3⟩

/-- The Pad Bus Controller after power-on reset (R48). -/
def PadBus.reset : PadBus := ⟨Oct.const freeRecord, 0, false, false, 0, none, true, none⟩

/-- A slot after power-on reset (R70). -/
def Slot.reset : Slot := ⟨.empty, none, 0, [], ⟨.none, .none, 0⟩⟩

/-- The Transport after power-on reset (R99). -/
def Transport.reset : Transport where
  state := .idle
  t := 0
  duration := 0
  rate := 512
  key := 0
  slew := 0
  syncTimer := 0
  settleCount := 0
  holdCount := 0
  cueStallCount := 0
  resultCountdown := 0
  finish := none
  epoch := 0
  jumpCount := 0
  autoAdvance := true
  syncTimeout := 50
  settle := 20
  holdLimit := 3000
  resultInterval := 800

/-- The reset record of a channel (R117). -/
def BlockRecord.reset : BlockRecord where
  presence := .absent
  level := -192
  clarity := 0
  period := 0
  pitch := none
  candidate := false
  voiced := false
  overload := false
  mode := .debounce
  count := 2
  stamp := ⟨.idle, 0, 0, 0⟩

/-- A channel record after power-on reset (R117). -/
def Channel.reset : Channel := ⟨.absent, 0, List.replicate 1920 0, 0, .clear, 0, BlockRecord.reset⟩

/-- The Microphone Front End after power-on reset (R115, R117). -/
def MicFrontEnd.reset : MicFrontEnd := ⟨Quad.const Channel.reset, .debounce, 2, -80, 140⟩

/-- A lane after power-on reset, and after a finish or SOFT_RESET (R135, R139, R140). -/
def Lane.reset : Lane :=
  ⟨.idle, none, 0, 16, true, 60, 0, none, 0, [], 0, 0, 0, 0, 0, none⟩

/-- The Scoring Unit after power-on reset (R139). -/
def ScoringUnit.reset : ScoringUnit := ⟨Quad.const .auto, Quad.const Lane.reset, .normal, true, 60⟩

/-- A row slot that shows nothing and awaits nothing (R164). -/
def RowSlot.reset : RowSlot := ⟨none, none, none, 0⟩

/-- The Lyric Layout Unit after power-on reset (R164). -/
def LayoutUnit.reset : LayoutUnit := ⟨3000, 500, 3000, 500, .none, Quad.const RowSlot.reset⟩

/-- The Compositor after power-on reset (R183). -/
def Compositor.reset : Compositor where
  bands := ⟨.pass, .pass, .pass, .pass, .pass, .pass, .lyric, .lyric⟩
  placement := ⟨⟨6, 40⟩, ⟨7, 40⟩, ⟨6, 0⟩, ⟨7, 0⟩⟩
  palette :=
    ⟨⟨255, 255, 255⟩, ⟨64, 128, 255⟩, ⟨255, 96, 160⟩, ⟨96, 224, 96⟩, ⟨255, 200, 64⟩, ⟨200, 120, 255⟩,
      ⟨255, 255, 255⟩, ⟨255, 230, 120⟩⟩
  glyphs := []
  bannerWindow := 20000
  digitBase := 0
  video := .unlocked
  heldFrame := none
  staleCount := 0
  freshRun := 0
  freshInput := false
  bannerShown := false
  frame := none

/-- The Attention Unit after power-on reset (R209): the VIDEO_LOST condition holds, and the MIC_ABSENT
condition is first given at the first block completion (log entry 3). -/
def Attention.reset : Attention := ⟨0, 0, false, true, false⟩

/-- The Control Link after power-on reset (R199). -/
def ControlLink.reset : ControlLink := ⟨.hunt, false, [], .idle, none, false⟩

/-- The part right after power-on reset, no command waiting. -/
def State.reset : State where
  pending := []
  resetLow := false
  blocks := 0
  draws := 0
  rq := RequestQueue.reset
  pbc := PadBus.reset
  slotA := Slot.reset
  slotB := Slot.reset
  tr := Transport.reset
  mfe := MicFrontEnd.reset
  su := ScoringUnit.reset
  llu := LayoutUnit.reset
  cmp := Compositor.reset
  att := Attention.reset
  link := ControlLink.reset

end Sys2Proof.Machine
end

