-- ==== Sys2Proof/Machine/Ops.lean ====
section
/-! DEFINITION. The operations every block shares: replacing one block of the state, the bytes of a
multi-byte field (Chapter 11), the frame check (R210), the image memory (R50, R54), and searching. -/

namespace Sys2Proof.Machine

/-! ## Replacing one block of the state -/

def State.setRq (s : State) (r : RequestQueue) : State := { s with rq := r }
def State.setPbc (s : State) (p : PadBus) : State := { s with pbc := p }
def State.setTr (s : State) (t : Transport) : State := { s with tr := t }
def State.setMfe (s : State) (m : MicFrontEnd) : State := { s with mfe := m }
def State.setSu (s : State) (u : ScoringUnit) : State := { s with su := u }
def State.setLlu (s : State) (l : LayoutUnit) : State := { s with llu := l }
def State.setCmp (s : State) (c : Compositor) : State := { s with cmp := c }
def State.setAtt (s : State) (a : Attention) : State := { s with att := a }
def State.setLink (s : State) (l : ControlLink) : State := { s with link := l }
def State.setCounts (s : State) (blocks draws : Nat) : State := { s with blocks := blocks, draws := draws }

/-- The slot of a name (R50). -/
def State.slot (s : State) : SlotName → Slot
  | .a => s.slotA
  | .b => s.slotB

/-- The state with one slot replaced. -/
def State.setSlot (s : State) (n : SlotName) (x : Slot) : State :=
  match n with
  | .a => { s with slotA := x }
  | .b => { s with slotB := x }

/-! ## What a block answers to a message -/

/-- A message taken by its owning block: the state it leaves, its result code and its reply data (R192,
R193). -/
structure Answer where
  state : State
  code : ResultCode
  data : List Byte
  deriving DecidableEq, Repr

/-- A message taken with OK and its reply data. -/
def accept (s : State) (data : List Byte) : Answer := ⟨s, .ok, data⟩

/-- A refusal that leaves the state as it was and carries no data (R194, R214). -/
def refuse (s : State) (code : ResultCode) : Answer := ⟨s, code, []⟩

/-! ## Numbers -/

/-- `n` clamped into `lo..hi` (0.8). -/
def clamp (lo hi n : Nat) : Nat := max lo (min hi n)

/-- A signed number clamped into `lo..hi` (0.8). -/
def clampInt (lo hi n : Int) : Int := max lo (min hi n)

/-- The greatest number at most `n` that passes the test, or 0 when none from 1 on does. -/
def greatestUpTo (p : Nat → Bool) : Nat → Nat
  | 0 => 0
  | n + 1 => if p (n + 1) then n + 1 else greatestUpTo p n

/-- The least number at or after `start` that passes the test, among `fuel` candidates; the number after
them when none does. -/
def leastFrom (p : Nat → Bool) : Nat → Nat → Nat
  | 0, start => start
  | fuel + 1, start => if p start then start else leastFrom p fuel (start + 1)

/-! ## Bytes: little-endian fields (0.8, Chapter 11) -/

/-- A two-byte field's bytes, the least significant first. -/
def le16 (h : Half) : List Byte := [h.setWidth 8, (h >>> 8).setWidth 8]

/-- A four-byte field's bytes, the least significant first. -/
def le32 (w : Word) : List Byte :=
  [w.setWidth 8, (w >>> 8).setWidth 8, (w >>> 16).setWidth 8, (w >>> 24).setWidth 8]

/-- The byte at an offset. -/
def u8 (p : List Byte) (i : Nat) : Byte := p.getD i 0

/-- The two-byte field at an offset. -/
def u16 (p : List Byte) (i : Nat) : Half := u8 p (i + 1) ++ u8 p i

/-- The four-byte field at an offset. -/
def u32 (p : List Byte) (i : Nat) : Word := u8 p (i + 3) ++ u8 p (i + 2) ++ u8 p (i + 1) ++ u8 p i

/-- A number sent in one byte. -/
def n8 (n : Nat) : List Byte := [BitVec.ofNat 8 n]

/-- A number sent in two bytes. -/
def n16 (n : Nat) : List Byte := le16 (BitVec.ofNat 16 n)

/-- A number sent in four bytes. -/
def n32 (n : Nat) : List Byte := le32 (BitVec.ofNat 32 n)

/-- A signed number sent in one byte, in two's complement. -/
def i8 (n : Int) : List Byte := [BitVec.ofInt 8 n]

/-- A signed number sent in two bytes, in two's complement. -/
def i16 (n : Int) : List Byte := le16 (BitVec.ofInt 16 n)

/-- A signed number sent in four bytes, in two's complement. -/
def i32 (n : Int) : List Byte := le32 (BitVec.ofInt 32 n)

/-- A flag sent in one byte: no 0, yes 1 (R214). -/
def flag8 (b : Bool) : List Byte := [if b then 1 else 0]

/-- A list cut or filled with zero bytes to a length (the unused places of R214's records). -/
def padTo (n : Nat) (l : List Byte) : List Byte := (l ++ List.replicate (n - l.length) 0).take n

/-! ## The frame check (R210) -/

/-- One bit of the CRC-16 with polynomial 0x1021: the register shifted by one place. -/
def crcShift (r : Half) : Half := if r.msb then (r <<< 1) ^^^ 0x1021 else r <<< 1

/-- One byte fed to the register, most significant bit first. -/
def crcByte (r : Half) (b : Byte) : Half :=
  Nat.repeat crcShift 8 (r ^^^ (b.setWidth 16 <<< 8))

/-- The frame check over a run of bytes, from the initial register value 0xFFFF (R210). -/
def crc (bytes : List Byte) : Half := bytes.foldl crcByte 0xFFFF

/-! ## The image memory (R50, R53, R54) -/

/-- The bytes of a slot's image memory. -/
def imageBytes : Nat := 262144

/-- The byte at an address; an address not listed reads as zero (R70). -/
def memRead : ImageMemory → Nat → Byte
  | [], _ => 0
  | (k, v) :: rest, a => if k = a then v else memRead rest a

/-- One byte written; a byte of zero is not listed. -/
def memWrite : ImageMemory → Nat → Byte → ImageMemory
  | [], a, v => if v = 0 then [] else [(a, v)]
  | (k, w) :: rest, a, v =>
    if a < k then (if v = 0 then (k, w) :: rest else (a, v) :: (k, w) :: rest)
    else if a = k then (if v = 0 then rest else (a, v) :: rest)
    else (k, w) :: memWrite rest a v

/-- A run of bytes written from an address onward. -/
def memWriteList (m : ImageMemory) (a : Nat) : List Byte → ImageMemory
  | [] => m
  | b :: rest => memWriteList (memWrite m a b) (a + 1) rest

/-- The bytes below `n` set to zero (R53). -/
def memClearBelow (m : ImageMemory) (n : Nat) : ImageMemory := m.filter fun c => decide (n ≤ c.1)

/-- The canonical form of the image memory above a bound: addresses strictly rising, within the 262,144
bytes, and no byte of zero listed. -/
def memWfAbove : Nat → ImageMemory → Bool
  | _, [] => true
  | lo, (k, v) :: rest => decide (lo ≤ k) && decide (k < imageBytes) && v != 0 && memWfAbove (k + 1) rest

/-- The canonical form of the image memory. -/
def Memory.wf (m : ImageMemory) : Bool := memWfAbove 0 m

/-- The two-byte field at an address of the image, as a number. -/
def memRead16 (m : ImageMemory) (a : Nat) : Nat := (memRead m a).toNat + 256 * (memRead m (a + 1)).toNat

/-- The four-byte field at an address of the image, as a number. -/
def memRead32 (m : ImageMemory) (a : Nat) : Nat := memRead16 m a + 65536 * memRead16 m (a + 2)

end Sys2Proof.Machine
end

