-- ==== Sys2Proof/Machine/Operands.lean ====
section
/-! DEFINITION. The host's messages (R212, R213): each kind's fields, the payload that carries them, and
reading them back from a kind and a payload, with the length rule of each kind. -/

namespace Sys2Proof.Machine

/-- A message of a known kind whose payload keeps the kind's length rule, with its fields as received
(R212). -/
inductive Request where
  | echo (bytes : List Byte)
  | softReset
  | attentionRead
  | attentionAck (named : Half)
  | attentionMask (mask : Half)
  | resolve (entryId verdict parts : Byte) (title : List Half)
  | queueAdd (song : Word) (lane lanePos : Byte)
  | queueMove (entryId lane lanePos : Byte)
  | queueCancel (entryId : Byte)
  | queueRead (first count : Byte)
  | historyRead (index : Byte)
  | policy (rush limit : Byte)
  | padAdmit (address : Byte)
  | padRelease (address : Byte)
  | padRead (address : Byte)
  | padBus (enable : Byte)
  | slotOpen (slot entryId : Byte) (size : Word)
  | slotData (slot : Byte) (offset : Word) (data : List Byte)
  | slotSeal (slot : Byte)
  | slotDiscard (slot : Byte)
  | slotRead (slot : Byte)
  | start (entryId : Byte)
  | sync (position : Word)
  | pause
  | resume
  | rate (rate : Half)
  | key (shift : Byte)
  | stop (showResult : Byte)
  | transportSet (auto : Byte) (syncTimeout settle holdLimit resultInterval : Half)
  | transportRead
  | micSet (mode count : Byte) (voicing clarity : Half)
  | micRead (channel : Byte)
  | bind (channel mode part : Byte)
  | scoreSet (level fold : Byte) (latency : Half)
  | laneRead (channel : Byte)
  | layoutSet (leadIn linger : Half)
  | layoutRead
  | bandMap (codes : Oct Byte)
  | rowPlace (slot band offset : Byte)
  | palette (entry : Byte) (colour : RGB)
  | bannerSet (window digitBase : Half)
  | glyphLoad (code : Half) (width : Byte) (coverage : List Byte)
  | glyphDrop (code : Half)
  | glyphClear
  | compositorRead (code : Half)
  deriving DecidableEq, Repr

/-- A request's kind (R212). -/
def Request.kind : Request → Byte
  | .echo _ => 0x01
  | .softReset => 0x02
  | .attentionRead => 0x08
  | .attentionAck _ => 0x09
  | .attentionMask _ => 0x0A
  | .resolve _ _ _ _ => 0x10
  | .queueAdd _ _ _ => 0x11
  | .queueMove _ _ _ => 0x12
  | .queueCancel _ => 0x13
  | .queueRead _ _ => 0x14
  | .historyRead _ => 0x15
  | .policy _ _ => 0x16
  | .padAdmit _ => 0x18
  | .padRelease _ => 0x19
  | .padRead _ => 0x1A
  | .padBus _ => 0x1B
  | .slotOpen _ _ _ => 0x20
  | .slotData _ _ _ => 0x21
  | .slotSeal _ => 0x22
  | .slotDiscard _ => 0x23
  | .slotRead _ => 0x24
  | .start _ => 0x28
  | .sync _ => 0x29
  | .pause => 0x2A
  | .resume => 0x2B
  | .rate _ => 0x2C
  | .key _ => 0x2D
  | .stop _ => 0x2E
  | .transportSet _ _ _ _ _ => 0x2F
  | .transportRead => 0x30
  | .micSet _ _ _ _ => 0x38
  | .micRead _ => 0x39
  | .bind _ _ _ => 0x40
  | .scoreSet _ _ _ => 0x41
  | .laneRead _ => 0x42
  | .layoutSet _ _ => 0x48
  | .layoutRead => 0x49
  | .bandMap _ => 0x50
  | .rowPlace _ _ _ => 0x51
  | .palette _ _ => 0x52
  | .bannerSet _ _ => 0x53
  | .glyphLoad _ _ _ => 0x54
  | .glyphDrop _ => 0x55
  | .glyphClear => 0x56
  | .compositorRead _ => 0x57

/-- A request's payload (R212). -/
def Request.payload : Request → List Byte
  | .echo b => b
  | .softReset => []
  | .attentionRead => []
  | .attentionAck x => le16 x
  | .attentionMask x => le16 x
  | .resolve i v p t => [i, v, p, BitVec.ofNat 8 t.length] ++ t.flatMap le16
  | .queueAdd n l p => le32 n ++ [l, p]
  | .queueMove i l p => [i, l, p]
  | .queueCancel i => [i]
  | .queueRead f c => [f, c]
  | .historyRead i => [i]
  | .policy r l => [r, l]
  | .padAdmit a => [a]
  | .padRelease a => [a]
  | .padRead a => [a]
  | .padBus e => [e]
  | .slotOpen n i z => [n, i] ++ le32 z
  | .slotData n o d => [n] ++ le32 o ++ le16 (BitVec.ofNat 16 d.length) ++ d
  | .slotSeal n => [n]
  | .slotDiscard n => [n]
  | .slotRead n => [n]
  | .start i => [i]
  | .sync p => le32 p
  | .pause => []
  | .resume => []
  | .rate r => le16 r
  | .key k => [k]
  | .stop f => [f]
  | .transportSet a y e h r => [a] ++ le16 y ++ le16 e ++ le16 h ++ le16 r
  | .transportRead => []
  | .micSet m q v c => [m, q] ++ le16 v ++ le16 c
  | .micRead c => [c]
  | .bind c m p => [c, m, p]
  | .scoreSet l f x => [l, f] ++ le16 x
  | .laneRead c => [c]
  | .layoutSet a b => le16 a ++ le16 b
  | .layoutRead => []
  | .bandMap c => c.toList
  | .rowPlace k b o => [k, b, o]
  | .palette e c => [e, c.red, c.green, c.blue]
  | .bannerSet w b => le16 w ++ le16 b
  | .glyphLoad c w v => le16 c ++ [w] ++ v
  | .glyphDrop c => le16 c
  | .glyphClear => []
  | .compositorRead c => le16 c

/-- What taking a message finds of its kind and length (R192). -/
inductive Reading where
  | badKind
  | badLength
  | request (r : Request)
  deriving DecidableEq, Repr

/-- A request when the payload keeps the length rule. -/
def ifLength (ok : Bool) (r : Request) : Reading := if ok then .request r else .badLength

/-- `n` two-byte fields from an offset on. -/
def halves (p : List Byte) (offset : Nat) : Nat → List Half
  | 0 => []
  | n + 1 => u16 p offset :: halves p (offset + 2) n

/-- A kind and a payload read (R192, R212, R213): the kind against the kind table, then the length against
the kind's rule, computed from the field as received where it depends on one. -/
def readMessage (kind : Byte) (p : List Byte) : Reading :=
  let n := p.length
  match kind.toNat with
  | 0x01 => ifLength (n ≤ 1098) (.echo p)
  | 0x02 => ifLength (n == 0) .softReset
  | 0x08 => ifLength (n == 0) .attentionRead
  | 0x09 => ifLength (n == 2) (.attentionAck (u16 p 0))
  | 0x0A => ifLength (n == 2) (.attentionMask (u16 p 0))
  | 0x10 =>
    ifLength (4 ≤ n && n == 4 + 2 * (u8 p 3).toNat)
      (.resolve (u8 p 0) (u8 p 1) (u8 p 2) (halves p 4 (u8 p 3).toNat))
  | 0x11 => ifLength (n == 6) (.queueAdd (u32 p 0) (u8 p 4) (u8 p 5))
  | 0x12 => ifLength (n == 3) (.queueMove (u8 p 0) (u8 p 1) (u8 p 2))
  | 0x13 => ifLength (n == 1) (.queueCancel (u8 p 0))
  | 0x14 => ifLength (n == 2) (.queueRead (u8 p 0) (u8 p 1))
  | 0x15 => ifLength (n == 1) (.historyRead (u8 p 0))
  | 0x16 => ifLength (n == 2) (.policy (u8 p 0) (u8 p 1))
  | 0x18 => ifLength (n == 1) (.padAdmit (u8 p 0))
  | 0x19 => ifLength (n == 1) (.padRelease (u8 p 0))
  | 0x1A => ifLength (n == 1) (.padRead (u8 p 0))
  | 0x1B => ifLength (n == 1) (.padBus (u8 p 0))
  | 0x20 => ifLength (n == 6) (.slotOpen (u8 p 0) (u8 p 1) (u32 p 2))
  | 0x21 =>
    let c := (u16 p 5).toNat
    ifLength (7 ≤ n && n == 7 + c && 1 ≤ c && c ≤ 1024) (.slotData (u8 p 0) (u32 p 1) (p.drop 7))
  | 0x22 => ifLength (n == 1) (.slotSeal (u8 p 0))
  | 0x23 => ifLength (n == 1) (.slotDiscard (u8 p 0))
  | 0x24 => ifLength (n == 1) (.slotRead (u8 p 0))
  | 0x28 => ifLength (n == 1) (.start (u8 p 0))
  | 0x29 => ifLength (n == 4) (.sync (u32 p 0))
  | 0x2A => ifLength (n == 0) .pause
  | 0x2B => ifLength (n == 0) .resume
  | 0x2C => ifLength (n == 2) (.rate (u16 p 0))
  | 0x2D => ifLength (n == 1) (.key (u8 p 0))
  | 0x2E => ifLength (n == 1) (.stop (u8 p 0))
  | 0x2F => ifLength (n == 9) (.transportSet (u8 p 0) (u16 p 1) (u16 p 3) (u16 p 5) (u16 p 7))
  | 0x30 => ifLength (n == 0) .transportRead
  | 0x38 => ifLength (n == 6) (.micSet (u8 p 0) (u8 p 1) (u16 p 2) (u16 p 4))
  | 0x39 => ifLength (n == 1) (.micRead (u8 p 0))
  | 0x40 => ifLength (n == 3) (.bind (u8 p 0) (u8 p 1) (u8 p 2))
  | 0x41 => ifLength (n == 4) (.scoreSet (u8 p 0) (u8 p 1) (u16 p 2))
  | 0x42 => ifLength (n == 1) (.laneRead (u8 p 0))
  | 0x48 => ifLength (n == 4) (.layoutSet (u16 p 0) (u16 p 2))
  | 0x49 => ifLength (n == 0) .layoutRead
  | 0x50 =>
    ifLength (n == 8)
      (.bandMap ⟨u8 p 0, u8 p 1, u8 p 2, u8 p 3, u8 p 4, u8 p 5, u8 p 6, u8 p 7⟩)
  | 0x51 => ifLength (n == 3) (.rowPlace (u8 p 0) (u8 p 1) (u8 p 2))
  | 0x52 => ifLength (n == 4) (.palette (u8 p 0) ⟨u8 p 1, u8 p 2, u8 p 3⟩)
  | 0x53 => ifLength (n == 4) (.bannerSet (u16 p 0) (u16 p 2))
  | 0x54 => ifLength (3 ≤ n && n == 3 + 12 * (u8 p 2).toNat) (.glyphLoad (u16 p 0) (u8 p 2) (p.drop 3))
  | 0x55 => ifLength (n == 2) (.glyphDrop (u16 p 0))
  | 0x56 => ifLength (n == 0) .glyphClear
  | 0x57 => ifLength (n == 2) (.compositorRead (u16 p 0))
  | _ => .badKind

/-- A request keeps the length rule of its kind (R197, R212, R213). -/
def Request.keepsLength : Request → Bool
  | .echo b => b.length ≤ 1098
  | .resolve _ _ _ t => t.length ≤ 255
  | .slotData _ _ d => 1 ≤ d.length && d.length ≤ 1024
  | .glyphLoad _ w v => v.length == 12 * w.toNat
  | _ => true

end Sys2Proof.Machine
end

