-- ==== Sys2Proof/Config.lean ====
section
/-! DEFINITION. The choices the manual leaves open, as constants without a body: nothing in Lean can
evaluate them or prove a value of them. -/

namespace Sys2Proof.Config

/-- Whether the POLL that opens a polling round is formed after (`true`) or before (`false`) the
Transport's steps of the same block completion. R32 forms the POLL from the registry and the queue "as
they stand at that moment" and no rule orders that moment against R78, R95 and R96. The argument is the
model's count of such choices already made (`State.draws`). Log entry 1. -/
opaque pollAfterTransport : Nat → Bool

/-- Whether the last bit of the POLL or INVITE in flight has left (`true`) or not (`false`) when an uplink character
arrives or a block completes. R216 receives a character after that moment and ignores one before it, and no row of the
table brings the moment. The argument is the model's count of choices already made (`State.draws`). Log entry 26. -/
opaque downlinkSent : Nat → Bool

end Sys2Proof.Config
end

