-- ==== Sys2Proof/Machine/Image.lean ====
section
/-! DEFINITION. The song image (R59, R217): reading its header and records from a slot's image memory,
and the six checks of validation (R58, R60 to R63). -/

namespace Sys2Proof.Machine

/-! ## Reading the image (R217) -/

/-- The header's format version. -/
def imgVersion (m : ImageMemory) : Nat := (memRead m 4).toNat
/-- The header's parts count. -/
def imgParts (m : ImageMemory) : Nat := (memRead m 5).toNat
/-- The header's line count. -/
def imgLines (m : ImageMemory) : Nat := memRead16 m 6
/-- The header's syllable count. -/
def imgSyllables (m : ImageMemory) : Nat := memRead16 m 8
/-- The header's note count of part `p`, 1..4. -/
def imgNotes (m : ImageMemory) (p : Nat) : Nat := memRead16 m (8 + 2 * p)
/-- The header's song number. -/
def imgSong (m : ImageMemory) : Nat := memRead32 m 18
/-- The header's duration, in ticks. -/
def imgDuration (m : ImageMemory) : Nat := memRead32 m 22

/-- The notes of all the parts before part `p`. -/
def imgNotesBefore (m : ImageMemory) (p : Nat) : Nat :=
  ((List.range (p - 1)).map fun k => imgNotes m (k + 1)).sum

/-- The length in bytes that the counts imply (R217). -/
def imgLength (m : ImageMemory) : Nat :=
  26 + 5 * imgLines m + 40 * imgSyllables m + 8 * imgNotesBefore m 5

/-- A line record (R59, R217). -/
structure LineRec where
  hint : Nat
  mask : Nat
  first : Nat
  count : Nat
  deriving DecidableEq, Repr

/-- A syllable record (R59, R217); `codes` are its 16 glyph code places. -/
structure SyllableRec where
  start : Nat
  duration : Nat
  mask : Nat
  runLength : Nat
  codes : List Nat
  deriving DecidableEq, Repr

/-- A note record (R59, R217). -/
structure NoteRec where
  start : Nat
  duration : Nat
  code : Nat
  unscored : Nat
  deriving DecidableEq, Repr

/-- The line record of an index. -/
def lineAt (m : ImageMemory) (i : Nat) : LineRec :=
  let a := 26 + 5 * i
  ⟨(memRead m a).toNat, (memRead m (a + 1)).toNat, memRead16 m (a + 2), (memRead m (a + 4)).toNat⟩

/-- The syllable record of an index. -/
def syllableAt (m : ImageMemory) (j : Nat) : SyllableRec :=
  let a := 26 + 5 * imgLines m + 40 * j
  ⟨memRead32 m a, memRead16 m (a + 4), (memRead m (a + 6)).toNat, (memRead m (a + 7)).toNat,
    (List.range 16).map fun k => memRead16 m (a + 8 + 2 * k)⟩

/-- The note record of a part's index. -/
def noteAt (m : ImageMemory) (p i : Nat) : NoteRec :=
  let a := 26 + 5 * imgLines m + 40 * imgSyllables m + 8 * (imgNotesBefore m p + i)
  ⟨memRead32 m a, memRead16 m (a + 4), (memRead m (a + 6)).toNat, (memRead m (a + 7)).toNat⟩

/-- A syllable's glyph run: the first g of its code places (R217). -/
def SyllableRec.run (y : SyllableRec) : List Nat := y.codes.take y.runLength
/-- A syllable's end (R59). -/
def SyllableRec.stop (y : SyllableRec) : Nat := y.start + y.duration
/-- A note's end (R59). -/
def NoteRec.stop (n : NoteRec) : Nat := n.start + n.duration

/-- A line's start: the start of its first syllable (R59, R143). -/
def lineStart (m : ImageMemory) (i : Nat) : Nat := (syllableAt m (lineAt m i).first).start

/-- A line's end E: the end of its last syllable (R59, R143). -/
def lineEnd (m : ImageMemory) (i : Nat) : Nat :=
  (syllableAt m ((lineAt m i).first + (lineAt m i).count - 1)).stop

/-- The indices of a line's syllables. -/
def lineSyllables (m : ImageMemory) (i : Nat) : List Nat :=
  (List.range (lineAt m i).count).map ((lineAt m i).first + ·)

/-- A slot references a code when some syllable's glyph run in its image holds it (R174). -/
def imgReferences (m : ImageMemory) (code : Nat) : Bool :=
  (List.range (imgSyllables m)).any fun j => (syllableAt m j).run.contains code

/-! ## The checks of validation -/

/-- The value of the first field that fails its test, each field given with its test and value (R61). -/
def firstFailing (fields : List (Bool × Nat)) : Option Nat :=
  (fields.find? fun f => !f.1).map (·.2)

/-- A part mask names at least one part and no part above the parts count (R61, R217). -/
def maskOk (parts mask : Nat) : Bool := decide (0 < mask) && decide (mask < 2 ^ parts)

/-- The four part numbers. -/
def partNumbers : List Nat := [1, 2, 3, 4]

/-- Check 1 of R60: the magic and the format version. -/
def checkFormat (m : ImageMemory) : Option FaultRecord :=
  if memRead m 0 = 0x4E ∧ memRead m 1 = 0x4A ∧ memRead m 2 = 0x53 ∧ memRead m 3 = 0x47 ∧ imgVersion m = 1
  then none else some ⟨.format, .header, imgVersion m⟩

/-- Check 2 of R60: the song number of the entry the slot holds. -/
def checkSong (m : ImageMemory) (song : Nat) : Option FaultRecord :=
  if imgSong m = song then none else some ⟨.songMismatch, .header, imgSong m⟩

/-- Check 3 of R60: the length the counts imply against the declared size. -/
def checkCount (m : ImageMemory) (size : Nat) : Option FaultRecord :=
  if imgLength m ≤ size then none else some ⟨.count, .header, imgLength m⟩

/-- The header's fields in byte order, with the ranges of R59 and R61; then the total of the four note
counts. -/
def headerRange (m : ImageMemory) : Option Nat :=
  firstFailing
    ([(decide (1 ≤ imgParts m ∧ imgParts m ≤ 4), imgParts m),
      (decide (1 ≤ imgLines m ∧ imgLines m ≤ 512), imgLines m),
      (decide (1 ≤ imgSyllables m ∧ imgSyllables m ≤ 4096), imgSyllables m)] ++
     partNumbers.map (fun p =>
      (decide (imgNotes m p ≤ 2048 ∧ (imgParts m < p → imgNotes m p = 0)), imgNotes m p)) ++
     [(decide (1 ≤ imgSong m ∧ imgSong m ≤ 999999), imgSong m),
      (decide (1000 ≤ imgDuration m ∧ imgDuration m ≤ 1200000), imgDuration m),
      (decide (imgNotesBefore m 5 ≤ 4096), imgNotesBefore m 5)])

/-- A line record's fields in byte order, then its first syllable index plus its syllable count (R61). -/
def lineRange (m : ImageMemory) (i : Nat) : Option Nat :=
  let l := lineAt m i
  firstFailing
    [(decide (l.hint ≤ 3), l.hint), (maskOk (imgParts m) l.mask, l.mask),
     (decide (l.first < imgSyllables m), l.first), (decide (1 ≤ l.count ∧ l.count ≤ 32), l.count),
     (decide (l.first + l.count ≤ imgSyllables m), l.first + l.count)]

/-- A syllable record's fields in byte order; only the first g code places are tested (R61). -/
def syllableRange (m : ImageMemory) (j : Nat) : Option Nat :=
  let y := syllableAt m j
  firstFailing
    ([(decide (y.start ≤ 1200000), y.start), (decide (1 ≤ y.duration ∧ y.duration ≤ 60000), y.duration),
      (maskOk (imgParts m) y.mask, y.mask), (decide (1 ≤ y.runLength ∧ y.runLength ≤ 16), y.runLength)] ++
     y.run.map fun c => (decide (1 ≤ c ∧ c ≤ 4095), c))

/-- A note record's fields in byte order (R61). -/
def noteRange (m : ImageMemory) (p i : Nat) : Option Nat :=
  let n := noteAt m p i
  firstFailing
    [(decide (n.start ≤ 1200000), n.start), (decide (1 ≤ n.duration ∧ n.duration ≤ 60000), n.duration),
     (decide (n.code ≤ 63), n.code), (decide (n.unscored ≤ 1), n.unscored)]

/-- The first fault over the line records, then the syllable records, then the notes of parts 1 to 4,
each by index (R58); a test gives a record's fault value. -/
def firstRecordFault (m : ImageMemory) (code : FaultCode) (onLine onSyllable : Nat → Option Nat)
    (onNote : Nat → Nat → Option Nat) : Option FaultRecord :=
  ((List.range (imgLines m)).findSome? fun i => (onLine i).map fun v => ⟨code, .line i, v⟩) <|>
  ((List.range (imgSyllables m)).findSome? fun j => (onSyllable j).map fun v => ⟨code, .syllable j, v⟩) <|>
  (partNumbers.findSome? fun p =>
    (List.range (imgNotes m p)).findSome? fun i => (onNote p i).map fun v => ⟨code, .note p i, v⟩)

/-- Check 4: the field ranges (R61). -/
def checkRange (m : ImageMemory) : Option FaultRecord :=
  ((headerRange m).map fun v => ⟨.range, .header, v⟩) <|>
  firstRecordFault m .range (lineRange m) (syllableRange m) (noteRange m)

/-- Whether a line keeps the conditions of R62: it takes its syllables in turn, and starts at or after
the line before it. -/
def lineOrdered (m : ImageMemory) (i : Nat) : Bool :=
  let l := lineAt m i
  (if i = 0 then decide (l.first = 0)
   else decide (l.first = (lineAt m (i - 1)).first + (lineAt m (i - 1)).count) &&
     decide (lineStart m (i - 1) ≤ lineStart m i)) &&
  (decide (i + 1 < imgLines m) || decide (l.first + l.count = imgSyllables m))

/-- Whether a syllable is the first of some line. -/
def startsLine (m : ImageMemory) (j : Nat) : Bool :=
  (List.range (imgLines m)).any fun i => decide ((lineAt m i).first = j)

/-- Whether a syllable keeps the conditions of R62: after the one before it in its line, and ended by the
song's end. -/
def syllableOrdered (m : ImageMemory) (j : Nat) : Bool :=
  (startsLine m j || decide ((syllableAt m (j - 1)).stop ≤ (syllableAt m j).start)) &&
  decide ((syllableAt m j).stop ≤ imgDuration m)

/-- Whether a note keeps the conditions of R62: after the one before it in its part, and ended by the
song's end. -/
def noteOrdered (m : ImageMemory) (p i : Nat) : Bool :=
  (decide (i = 0) || decide ((noteAt m p (i - 1)).stop ≤ (noteAt m p i).start)) &&
  decide ((noteAt m p i).stop ≤ imgDuration m)

/-- Check 5: order and timing (R62). The fault value is the offending record's start tick. -/
def checkOrder (m : ImageMemory) : Option FaultRecord :=
  firstRecordFault m .order
    (fun i => if lineOrdered m i then none else some (lineStart m i))
    (fun j => if syllableOrdered m j then none else some (syllableAt m j).start)
    (fun p i => if noteOrdered m p i then none else some (noteAt m p i).start)

/-- The glyph a store holds for a code (R174). -/
def glyphOf (g : GlyphStore) (code : Nat) : Option Glyph := (g.find? fun e => e.1 == code).map (·.2)

/-- Check 6: every glyph code present in the store (R63). -/
def checkGlyphs (m : ImageMemory) (g : GlyphStore) : Option FaultRecord :=
  (List.range (imgSyllables m)).findSome? fun j =>
    ((syllableAt m j).run.find? fun c => (glyphOf g c).isNone).map fun c => ⟨.glyph, .syllable j, c⟩

/-- The six checks in order; the first fault decides (R58). -/
def validationFault (m : ImageMemory) (size song : Nat) (g : GlyphStore) : Option FaultRecord :=
  checkFormat m <|> checkSong m song <|> checkCount m size <|> checkRange m <|> checkOrder m <|>
    checkGlyphs m g

end Sys2Proof.Machine
end

