-- ==== Sys2Proof/Machine/Flags.lean ====
section
/-! DEFINITION. The flags the part shows the host: the attention members and how they latch, are
acknowledged and kept (Chapter 10), and the summary byte (R193, R204). -/

namespace Sys2Proof.Machine

/-- The bit of a member in a set (R200, R211). -/
def Member.bit : Member → Nat
  | .newRequest => 0
  | .queueChanged => 1
  | .slotDone => 2
  | .songStarted => 3
  | .songEnded => 4
  | .syncLost => 5
  | .cueStall => 6
  | .padJoined => 7
  | .padSilenced => 8
  | .padRefused => 9
  | .micOverload => 10
  | .micAbsent => 11
  | .videoLost => 12
  | .linkError => 13

/-- The set holding one member alone. -/
def Member.single (m : Member) : AttentionSet := 1#14 <<< m.bit

/-- Whether a set holds a member. -/
def AttentionSet.has (x : AttentionSet) (m : Member) : Bool := x.getLsbD m.bit

/-- Attention pending: set exactly when the latched set is not empty (R201, R204). -/
def Attention.pending (a : Attention) : Bool := a.latched != 0

/-- The Attention Unit after a raise of a member (R202). -/
def Attention.raise (a : Attention) (m : Member) : Attention :=
  if AttentionSet.has a.mask m then a
  else if AttentionSet.has a.latched m then a
  else { a with latched := a.latched ||| m.single, noticePending := true }

/-- A block raises a member (R202). -/
def State.raise (s : State) (m : Member) : State := s.setAtt (s.att.raise m)

/-- A block raises a member when a condition holds. -/
def State.raiseIf (s : State) (c : Bool) (m : Member) : State := if c then s.raise m else s

/-- The static members whose condition holds, which neither an acknowledgement nor SOFT_RESET clears
(R203). -/
def Attention.kept (a : Attention) : AttentionSet :=
  (if a.micAbsentHolds then Member.micAbsent.single else 0) |||
    (if a.videoLostHolds then Member.videoLost.single else 0)

/-- The Attention Unit with a new latched set; an emptied set cancels the pending notice (R205). -/
def Attention.withLatched (a : Attention) (x : AttentionSet) : Attention :=
  { a with latched := x, noticePending := a.noticePending && x != 0 }

/-- The Attention Unit after an acknowledgement of a named set (R207). -/
def Attention.acknowledge (a : Attention) (named : AttentionSet) : Attention :=
  a.withLatched (a.latched &&& ~~~(named &&& ~~~a.kept))

/-- The Attention Unit after SOFT_RESET (R209). -/
def Attention.softReset (a : Attention) : Attention :=
  { a with latched := a.latched &&& a.kept, noticePending := false }

/-- The summary byte (R193, R204, R211): attention pending in bit 0, the PLAYING indicator in bit 1 and
the link error flag in bit 2. -/
def State.summary (s : State) : Byte :=
  (if s.att.pending then 1 else 0) ||| (if s.tr.state = .idle then 0 else 2) |||
    (if s.link.linkError then 4 else 0)

end Sys2Proof.Machine
end

