-- ==== Sys2Proof/Machine/Queue.lean ====
section
/-! DEFINITION. The Request Queue's entries (Chapter 1): order, lanes and positions (R3 to R5), ids and
arrival numbers (R6, R7), news to the pads (R41), emptying a slot (R50), cancellation (R12), and the
history (R23, R24). -/

namespace Sys2Proof.Machine

/-! ## Positions and counts (R4) -/

/-- Whether an entry waits: it is in any state but PLAYING (R2). -/
def Entry.waits (e : Entry) : Bool := e.state != .playing

/-- Whether an entry's requester list holds a pad address. -/
def Entry.lists (e : Entry) (pad : Nat) : Bool := e.requesters.any fun r => r.pad == pad

/-- The waiting entries in list order. -/
def waiting (q : List Entry) : List Entry := q.filter Entry.waits

/-- The waiting entries of one lane in list order. -/
def laneEntries (q : List Entry) (l : QueueLane) : List Entry := (waiting q).filter fun e => e.lane == l

/-- The PLAYING entry. -/
def playingEntry (q : List Entry) : Option Entry := q.find? fun e => e.state == .playing

/-- The entry of an id. -/
def findEntry (q : List Entry) (id : Nat) : Option Entry := q.find? fun e => e.id == id

/-- The waiting entry that holds a song number. -/
def waitingSong (q : List Entry) (song : Nat) : Option Entry := (waiting q).find? fun e => e.song == song

/-- The 1-based index of the first entry that passes a test, or 0. -/
def placeOf (l : List Entry) (p : Entry → Bool) : Nat := ((l.findIdx? p).map (· + 1)).getD 0

/-- The position of the waiting entry of an id, or 0 (R4). -/
def positionOf (q : List Entry) (id : Nat) : Nat := placeOf (waiting q) fun e => e.id == id

/-- The rush count (R4). -/
def rushCount (q : List Entry) : Nat := (laneEntries q .rush).length

/-- A pad's waiting count (R4). -/
def padWaitingCount (q : List Entry) (pad : Nat) : Nat := ((waiting q).filter fun e => e.lists pad).length

/-- A pad's first position, or 0 (R4). -/
def padFirstPosition (q : List Entry) (pad : Nat) : Nat := placeOf (waiting q) fun e => e.lists pad

/-! ## Placing entries (R3, R5) -/

/-- The lane position applied for a given one, `m` other entries standing in the lane (R5). -/
def appliedLanePos (m given : Nat) : Nat := clamp 1 (m + 1) given

/-- A list with an item inserted so that it takes a 1-based place. -/
def insertAt (l : List Entry) (place : Nat) (e : Entry) : List Entry :=
  l.take (place - 1) ++ e :: l.drop (place - 1)

/-- The queue with an entry, which it does not hold, inserted in the entry's own lane at an applied lane
position: the PLAYING entry first, then the RUSH lane, then the NORMAL lane (R3, R5). -/
def insertEntry (q : List Entry) (e : Entry) (lanePos : Nat) : List Entry :=
  let put (l : QueueLane) := if e.lane = l then insertAt (laneEntries q l) lanePos e else laneEntries q l
  (q.filter fun x => !x.waits) ++ put .rush ++ put .normal

/-- The queue without the entry of an id. -/
def removeEntry (q : List Entry) (id : Nat) : List Entry := q.filter fun e => e.id != id

/-- The queue with the entry of an id changed in place. -/
def updateEntry (q : List Entry) (id : Nat) (f : Entry → Entry) : List Entry :=
  q.map fun e => if e.id = id then f e else e

/-! ## Ids and arrival numbers (R6, R7) -/

/-- Whether an id is held by an entry of the queue or a record of the history (R6). -/
def RequestQueue.holdsId (r : RequestQueue) (id : Nat) : Bool :=
  r.entries.any (fun e => e.id == id) || r.history.any (fun h => h.id == id)

/-- The id the next entry takes: the first at or after next-id, wrapping from 255 to 1, that is not held
(R6). -/
def RequestQueue.freeId (r : RequestQueue) : Nat :=
  (((List.range 255).map fun k => (r.nextId - 1 + k) % 255 + 1).find? fun id => !r.holdsId id).getD r.nextId

/-- The Request Queue with a new PENDING entry made and placed (R6, R7, R10, R15). -/
def RequestQueue.make (r : RequestQueue) (song : Nat) (lane : QueueLane) (origin : Origin)
    (requesters : List Requester) (lanePos : Nat) : RequestQueue :=
  let id := r.freeId
  let arrival := (r.arrivals + 1) % 4294967296
  { r with
    entries := insertEntry r.entries ⟨id, song, lane, .pending, origin, requesters, none, arrival⟩ lanePos
    nextId := id % 255 + 1
    arrivals := arrival }

/-- The state with the queue's entries replaced. -/
def State.setEntries (s : State) (q : List Entry) : State := s.setRq { s.rq with entries := q }

/-! ## News (R41) -/

/-- A registry record with a news item written (R41). -/
def PadRecord.tell (p : PadRecord) (n : NewsItem) : PadRecord :=
  { p with news := some n, newsCounter := (p.newsCounter + 1) % 16 }

/-- A news item written into the record of each pad on a requester list (R41). -/
def State.tellPads (s : State) (list : List Requester) (n : NewsItem) : State :=
  s.setPbc { s.pbc with
    registry := s.pbc.registry.mapIdx fun i p => if list.any (fun r => r.pad == i.val + 1) then p.tell n else p }

/-! ## Slots seen from the queue -/

/-- Whether a slot holds the entry of an id (R52). -/
def Slot.holds (x : Slot) (id : Nat) : Bool := (x.held.map (·.entryId)) == some id

/-- The slot that holds the entry of an id (R52). -/
def State.slotHolding (s : State) (id : Nat) : Option SlotName :=
  if s.slotA.holds id then some .a else if s.slotB.holds id then some .b else none

/-- A slot that enters EMPTY: it holds no entry and no size, and its coverage is cleared; the image
memory and the fault record are kept (R50). -/
def Slot.emptied (x : Slot) : Slot := { x with state := .empty, held := none, coverage := 0 }

/-- The state with the slot that holds an entry, if any, emptied (R12). -/
def State.emptySlotOf (s : State) (id : Nat) : State :=
  match s.slotHolding id with
  | some n => s.setSlot n (s.slot n).emptied
  | none => s

/-! ## Cancellation and the history -/

/-- Cancellation of a waiting entry (R12): it leaves the queue, a slot that holds it is emptied (its
validation abandoned), the pads left on its list are told, and QUEUE_CHANGED is raised. -/
def State.cancelEntry (s : State) (e : Entry) (reason : DropReason) : State :=
  (((s.setEntries (removeEntry s.rq.entries e.id)).emptySlotOf e.id).tellPads e.requesters
    ⟨.dropped reason, e.song⟩).raise .queueChanged

/-- The greatest lane song score among four lane results that carry one, or none (R42). -/
def bestScore (lanes : Quad LaneResult) : Option Nat :=
  lanes.toList.foldl (fun best l => match best, l.score with
    | none, x => x
    | some b, some x => some (max b x)
    | some b, none => some b) none

/-- The PLAYING entry moved into the history with its finish kind and lane results, the oldest of 8
pushed out; its pads are told and QUEUE_CHANGED is raised (R23, R24, R41, R42). -/
def State.placeInHistory (s : State) (e : Entry) (kind : FinishKind) (lanes : Quad LaneResult) : State :=
  let record : HistoryRecord := ⟨e.id, e.song, e.requesters, kind, lanes⟩
  ((s.setRq { s.rq with
    entries := removeEntry s.rq.entries e.id
    history := (record :: s.rq.history).take 8 }).tellPads e.requesters
      ⟨.finished (bestScore lanes), e.song⟩).raise .queueChanged

end Sys2Proof.Machine
end

