-- ==== Sys2Proof/Machine/Scoring.lean ====
section
/-! DEFINITION. The Scoring Unit (Chapter 6): resolving the bindings and arming the lanes (R121, R124),
the per-block procedure (R125 to R132), the song score (R133), closing and finishing (R134, R135). -/

namespace Sys2Proof.Machine

/-! ## The song being played -/

/-- The slot in state ACTIVE (R52, R68). -/
def State.activeSlot (s : State) : Option SlotName :=
  if s.slotA.state = .active then some .a else if s.slotB.state = .active then some .b else none

/-- The ACTIVE slot's image memory, from which the Scoring Unit and the Lyric Layout Unit read (R68). -/
def State.songImage (s : State) : ImageMemory :=
  match s.activeSlot with
  | some n => (s.slot n).image
  | none => []

/-! ## Arming (R121, R124) -/

/-- The tolerance of a level, in pitch units (R137). -/
def Level.tolerance : Level → Nat
  | .easy => 24
  | .normal => 16
  | .strict => 8

/-- The part lane `k` (0..3) resolves from its channel's binding, the image's parts count and the
requester list (R121). -/
def resolvePart (b : Binding) (parts : Nat) (list : List Requester) (k : Nat) : Option Nat :=
  match b with
  | .off => none
  | .fixed q => if q ≤ parts then some q else none
  | .auto =>
    match list[k]? with
    | some r => if 1 ≤ r.part ∧ r.part ≤ parts then some r.part else some (k % parts + 1)
    | none => some (k % parts + 1)

/-- A lane armed at cueing (R124). A lane whose part is none stays IDLE, with T, fold and L latched as R124 says for each
lane; `Lane.shown` is what LANE_READ reads of it (log entry 28). -/
def armLane (u : ScoringUnit) (m : ImageMemory) (list : List Requester) (channels : Quad Channel)
    (k : Fin 4) : Lane :=
  let part := resolvePart (u.bindings.get k) (imgParts m) list k.val
  let notes := match part with
    | some p => imgNotes m p
    | none => 0
  let state : LaneState := match part with
    | none => .idle
    | some _ => if (channels.get k).latest.presence = .present then .armed else .suspended
  { state := state, part := part, noteCount := notes, tolerance := u.level.tolerance, fold := u.fold
    latency := u.latency, cursor := 0, openNote := none, lastEpoch := 0
    outcomes := List.replicate notes .pending, sumAw := 0, sumW := 0, scored := 0, empty := 0, void := 0
    lastClosed := none }

/-- A lane as LANE_READ shows it: in IDLE its song figures read as their cleared values (R138, R139), whatever it latched at
cueing (R124; log entry 28). -/
def Lane.shown (l : Lane) : Lane := if l.state = .idle then Lane.reset else l

/-- The Scoring Unit at cueing: every lane armed for the song (R124). -/
def ScoringUnit.arm (u : ScoringUnit) (m : ImageMemory) (list : List Requester) (channels : Quad Channel) :
    ScoringUnit :=
  { u with lanes := u.lanes.mapIdx fun k _ => armLane u m list channels k }

/-! ## Points (R131) -/

/-- The deviation folded into −96..+95 (R131). -/
def foldDeviation (d : Int) : Int := (d + 96) % 192 - 96

/-- The points of a deviation at a tolerance (R131). -/
def pointsOf (tolerance : Nat) (deviation : Int) : Nat :=
  if deviation.natAbs ≤ tolerance then 4
  else if deviation.natAbs ≤ 2 * tolerance then 2
  else if deviation.natAbs ≤ 3 * tolerance then 1
  else 0

/-- The points a counted block earns on a note (R131). -/
def blockPoints (lane : Lane) (note : NoteRec) (r : BlockRecord) : Nat :=
  match r.voiced, r.pitch with
  | true, some p =>
    let d : Int := (p : Int) - 16 * ((note.code : Int) + r.stamp.key)
    pointsOf lane.tolerance (if lane.fold then foldDeviation d else d)
  | _, _ => 0

/-! ## Giving outcomes (R126 to R132) -/

/-- The outcome of the note of an index. -/
def Lane.outcomeAt (l : Lane) (i : Nat) : NoteOutcome := l.outcomes.getD i .pending

/-- The note of an index given VOID, counted, and made the last closed note; no note stays open. -/
def Lane.voidNote (l : Lane) (i : Nat) : Lane :=
  { l with outcomes := l.outcomes.set i .void, void := l.void + 1, openNote := none
           lastClosed := some ⟨i, .void, none⟩ }

/-- The note of an index given EMPTY, counted, and made the last closed note; no note stays open. -/
def Lane.emptyNote (l : Lane) (i : Nat) : Lane :=
  { l with outcomes := l.outcomes.set i .empty, empty := l.empty + 1, openNote := none
           lastClosed := some ⟨i, .empty, none⟩ }

/-- The open note closed (R132): SCORED with its accuracy and weight when it counted a block, else
EMPTY. -/
def Lane.closeNote (l : Lane) (o : OpenNote) (note : NoteRec) : Lane :=
  if o.counted = 0 then l.emptyNote o.index
  else
    let accuracy := 100 * o.points / (4 * o.counted)
    let weight := min note.duration 2000
    { l with
      outcomes := l.outcomes.set o.index .scored
      sumAw := l.sumAw + accuracy * weight
      sumW := l.sumW + weight
      scored := l.scored + 1
      openNote := none
      lastClosed := some ⟨o.index, .scored, some accuracy⟩ }

/-- Step 2 (R126): whether a block interrupts scoring. -/
def interrupts (l : Lane) (st : Stamp) : Bool :=
  st.state != .play || l.state == .suspended || st.epoch != l.lastEpoch

/-- Step 2 (R126): an interrupting block makes the open note VOID; the last epoch follows the stamp. -/
def Lane.interrupt (l : Lane) (st : Stamp) : Lane :=
  let l1 := if interrupts l st then
      match l.openNote with
      | some o => l.voidNote o.index
      | none => l
    else l
  { l1 with lastEpoch := st.epoch }

/-- Step 3 (R127) for the cursor's note: its final outcome is given and the cursor moves on. -/
def Lane.passNote (l : Lane) (note : NoteRec) (live : Bool) : Lane :=
  let i := l.cursor
  let l1 := match l.outcomeAt i with
    | .opened => match l.openNote with
      | some o => l.closeNote o note
      | none => l
    | .pending => if note.unscored ≠ 0 then l.voidNote i else if live then l.emptyNote i else l.voidNote i
    | .void => { l with lastClosed := some ⟨i, .void, none⟩ }
    | .scored => l
    | .empty => l
  { l1 with cursor := i + 1 }

/-- Step 3 (R127): notes are passed while the cursor's note ends at or before the compensated position
`c`; `fuel` is the number of notes the cursor may pass. -/
def Lane.passNotes (m : ImageMemory) (p : Nat) (c : Int) (live : Bool) : Nat → Lane → Lane
  | 0, l => l
  | fuel + 1, l =>
    if l.cursor < l.noteCount ∧ ((noteAt m p l.cursor).stop : Int) ≤ c then
      Lane.passNotes m p c live fuel (l.passNote (noteAt m p l.cursor) live)
    else l

/-- Step 4 (R128): the cursor's note is decided when the compensated position lies in its window. -/
def Lane.reachNote (l : Lane) (m : ImageMemory) (p : Nat) (c : Int) (live : Bool) : Lane :=
  let note := noteAt m p l.cursor
  if l.cursor < l.noteCount ∧ (note.start : Int) ≤ c ∧ c < (note.stop : Int) ∧
      l.outcomeAt l.cursor = .pending then
    if note.unscored = 0 ∧ live then
      { l with outcomes := l.outcomes.set l.cursor .opened, openNote := some ⟨l.cursor, 0, 0, 0⟩ }
    else l.voidNote l.cursor
  else l

/-- Step 5 (R129): the block is counted toward the open note, unless it is an overload block or one that
BLANK mode leaves uncounted. -/
def Lane.countBlock (l : Lane) (m : ImageMemory) (p : Nat) (r : BlockRecord) : Lane :=
  match l.openNote with
  | none => l
  | some o =>
    let w := o.windowBlocks + 1
    if r.overload ∨ (r.mode = .blank ∧ w ≤ r.count) then
      { l with openNote := some { o with windowBlocks := w } }
    else
      { l with openNote := some { o with
          windowBlocks := w, counted := o.counted + 1
          points := o.points + blockPoints l (noteAt m p o.index) r } }

/-- The lane's state after a record's presence and stamp (R125). -/
def Lane.follow (l : Lane) (r : BlockRecord) : LaneState :=
  match l.state, r.presence with
  | .armed, .absent => .suspended
  | .scoring, .absent => .suspended
  | .suspended, .present => if r.stamp.state = .cued then .armed else .scoring
  | .armed, .present => if r.stamp.state = .play then .scoring else .armed
  | st, _ => st

/-- What a lane makes of its channel's block record (R125 to R129). A lane left ARMED runs no procedure, so its last epoch
stays as cueing set it, although it took the record (R122, R126; log entry 27). -/
def Lane.block (l : Lane) (m : ImageMemory) (r : BlockRecord) : Lane :=
  let l1 := { l with state := l.follow r }
  match l1.state, l1.part with
  | .idle, _ => l1
  | .closed, _ => l1
  | .armed, _ => l1
  | _, none => l1
  | _, some p =>
    let c : Int := (r.stamp.position : Int) - l1.latency
    let live := r.stamp.state == .play && l1.state == .scoring
    let l2 := l1.interrupt r.stamp
    let l3 := Lane.passNotes m p c live (l2.noteCount - l2.cursor) l2
    (l3.reachNote m p c live).countBlock m p r

/-- The Scoring Unit's part of a block completion: the four lanes take the channels' latest records
(R125). -/
def scoringBlock (s : State) : State :=
  s.setSu { s.su with
    lanes := s.su.lanes.mapIdx fun k l => l.block s.songImage (s.mfe.channels.get k).latest }

/-! ## Scores and results (R133 to R135) -/

/-- A lane's song score, absent when it has no SCORED note (R133). -/
def Lane.score (l : Lane) : Option Nat := if l.sumW = 0 then none else some (100 * l.sumAw / l.sumW)

/-- The pending count: the note count less the other four outcomes (R138). -/
def Lane.pendingCount (l : Lane) : Nat :=
  l.noteCount - (l.scored + l.empty + l.void + (if l.openNote.isSome then 1 else 0))

/-- Whether the lane takes part in the song: it is ARMED, SCORING or SUSPENDED. -/
def Lane.live (l : Lane) : Bool := l.state == .armed || l.state == .scoring || l.state == .suspended

/-- The remaining notes given their final outcomes at the close, in index order (R134): the open note by
R132 for COMPLETED and VOID else, every PENDING note VOID. -/
def Lane.closeRest (m : ImageMemory) (p : Nat) (kind : FinishKind) (l : Lane) (i : Nat) : Lane :=
  match l.outcomeAt i with
  | .opened => match l.openNote, kind with
    | some o, .completed => l.closeNote o (noteAt m p i)
    | _, _ => l.voidNote i
  | .pending => l.voidNote i
  | _ => l

/-- A lane closed with a finish kind (R134); an IDLE or CLOSED lane stays as it is. -/
def Lane.close (l : Lane) (m : ImageMemory) (kind : FinishKind) : Lane :=
  if l.live then
    let rest := (List.range (l.noteCount - l.cursor)).map (l.cursor + ·)
    let l1 := rest.foldl (Lane.closeRest m (l.part.getD 0) kind) l
    { l1 with state := .closed, cursor := l.noteCount, openNote := none }
  else l

/-- The lanes closed with a finish kind (R134). -/
def State.closeLanes (s : State) (kind : FinishKind) : State :=
  s.setSu { s.su with lanes := s.su.lanes.map fun l => l.close s.songImage kind }

/-- The lane result a lane hands to the Transport at the finish (R135). -/
def Lane.result (l : Lane) : LaneResult := ⟨l.part, l.score, l.scored, l.empty, l.void⟩

/-- The lanes made IDLE with their song fields cleared (R135, R140). -/
def ScoringUnit.cleared (u : ScoringUnit) : ScoringUnit := { u with lanes := Quad.const Lane.reset }

end Sys2Proof.Machine
end

