-- ==== Sys2Proof/Machine/Layout.lean ====
section
/-! DEFINITION. The Lyric Layout Unit (Chapter 7): the lines of a row slot and their times (R142, R143),
opening (R144), the frame steps (R145 to R150), rebuild (R151), results and finish (R153, R154), layout
(R155 to R157), the wipe and the colours (R159, R160) and the row records (R161). -/

namespace Sys2Proof.Machine

/-- The four row slots' numbers. -/
def rowNumbers : List (Fin 4) := [0, 1, 2, 3]

/-! ## A song's lines (R142, R143) -/

/-- What the line steps of one song read: its image, the latched lead-in and linger, the glyph store and
the song clock t. -/
structure LineView where
  image : ImageMemory
  leadIn : Nat
  linger : Nat
  glyphs : GlyphStore
  t : Nat
  deriving DecidableEq, Repr

/-- The view the state gives. -/
def State.lineView (s : State) : LineView :=
  ⟨s.songImage, s.llu.songLeadIn, s.llu.songLinger, s.cmp.glyphs, s.tr.t⟩

/-- The clock has reached a tick figure (R143). -/
def LineView.reached (v : LineView) (tick : Nat) : Bool := decide (256 * tick ≤ v.t)

/-- A line's show tick: max(0, start − song lead-in) (R143). -/
def LineView.showTick (v : LineView) (i : Nat) : Nat := lineStart v.image i - v.leadIn

/-- A line's hide tick: E + song linger (R143). -/
def LineView.hideTick (v : LineView) (i : Nat) : Nat := lineEnd v.image i + v.linger

/-- The indices of the lines that name a row slot, rising (R142). -/
def slotLines (m : ImageMemory) (k : Nat) : List Nat :=
  (List.range (imgLines m)).filter fun i => decide ((lineAt m i).hint = k)

/-- The line of next higher index that names a row slot (R148). -/
def lineAfter (m : ImageMemory) (k i : Nat) : Option Nat := (slotLines m k).find? fun j => decide (i < j)

/-! ## Layout (R155 to R157) -/

/-- A glyph code's width in the store; a code with no glyph has width 0. -/
def glyphWidth (g : GlyphStore) (code : Nat) : Nat := ((glyphOf g code).map (·.width)).getD 0

/-- The left edge of a run of width `w`: centred within the 1,800 columns from column 60 when it fits,
and 60 otherwise (R156, R172). -/
def runLeft (w : Nat) : Nat := if w ≤ 1800 then 60 + (1800 - w) / 2 else 60

/-- A run of glyph codes of one syllable placed edge to edge from a left edge; a glyph is drawn when its
right edge is at most 1,860 (R156, R157). -/
def placeRun (g : GlyphStore) (syllable : Nat) : Nat → List Nat → List PlacedGlyph
  | _, [] => []
  | left, c :: rest =>
    let w := glyphWidth g c
    ⟨c, left, w, decide (left + w ≤ 1860), syllable⟩ :: placeRun g syllable (left + w) rest

/-- The width of a run of glyph codes. -/
def runWidth (g : GlyphStore) (run : List Nat) : Nat := (run.map (glyphWidth g)).sum

/-- A line's syllables placed from a left edge, numbered from `n` (R156). -/
def placeSyllables (g : GlyphStore) : Nat → Nat → List (List Nat) → List PlacedGlyph × List PlacedSyllable
  | _, _, [] => ([], [])
  | n, left, run :: rest =>
    let w := runWidth g run
    let others := placeSyllables g (n + 1) (left + w) rest
    (placeRun g n left run ++ others.1, ⟨left, w⟩ :: others.2)

/-- A line laid out from the glyph widths in the store as it stands (R155, R156). -/
def layLine (m : ImageMemory) (g : GlyphStore) (i : Nat) : ShownLine :=
  let runs := (lineSyllables m i).map fun j => (syllableAt m j).run
  let w := (runs.map (runWidth g)).sum
  let placed := placeSyllables g 0 (runLeft w) runs
  ⟨i, runLeft w, w, placed.1, placed.2⟩

/-! ## The frame steps (R146 to R150) -/

/-- A row slot that takes a line as its shown line by promotion or by the next-line step: the line is
laid out and tested for lateness (R149, R155). -/
def RowSlot.take (r : RowSlot) (v : LineView) (i : Nat) : RowSlot :=
  { r with
    shown := some (layLine v.image v.glyphs i)
    late := if 256 * lineStart v.image i < v.t then min 65535 (r.late + 1) else r.late }

/-- Promotion (R146). -/
def promote (v : LineView) (r : RowSlot) : Option RowSlot :=
  match r.shown, r.deferred with
  | some l, some d => if v.reached (lineEnd v.image l.index) then some ({ r with deferred := none }.take v d) else none
  | _, _ => none

/-- Removal (R147). -/
def remove (v : LineView) (r : RowSlot) : Option RowSlot :=
  match r.shown, r.deferred with
  | some l, none => if v.reached (v.hideTick l.index) then some { r with shown := none } else none
  | _, _ => none

/-- Next line reached (R148). -/
def reachNext (v : LineView) (k : Nat) (r : RowSlot) : Option RowSlot :=
  match r.next, r.deferred with
  | some n, none =>
    if v.reached (v.showTick n) then
      let r1 := { r with next := lineAfter v.image k n }
      match r.shown with
      | none => some (r1.take v n)
      | some l => if v.reached (lineEnd v.image l.index) then some (r1.take v n) else some { r1 with deferred := some n }
    else none
  | _, _ => none

/-- The three steps in their order, once; none when none applies (R145). -/
def rowPass (v : LineView) (k : Nat) (r : RowSlot) : Option RowSlot :=
  let a := promote v r
  let ra := a.getD r
  let b := remove v ra
  let rb := b.getD ra
  let c := reachNext v k rb
  if a.isSome || b.isSome || c.isSome then some (c.getD rb) else none

/-- The three steps repeated until none applies (R145). A slot holds at most 512 lines and each step that
applies moves one forward through UPCOMING, DEFERRED, SHOWN and GONE, so `fuel` 1,536 is enough. -/
def settleRow (v : LineView) (k : Nat) : Nat → RowSlot → RowSlot
  | 0, r => r
  | fuel + 1, r =>
    match rowPass v k r with
    | some r' => settleRow v k fuel r'
    | none => r

/-! ## Opening, rebuild, results, finish -/

/-- The row slots opened at cueing (R144). -/
def LayoutUnit.opened (l : LayoutUnit) (m : ImageMemory) : LayoutUnit :=
  { l with
    songLeadIn := l.leadIn, songLinger := l.linger, mode := .lyrics
    rows := l.rows.mapIdx fun k _ => ⟨none, none, (slotLines m k.val).head?, 0⟩ }

/-- One row slot rebuilt from the clock (R151). -/
def rebuildRow (v : LineView) (k : Nat) (r : RowSlot) : RowSlot :=
  let lines := slotLines v.image k
  { r with
    shown := ((lines.filter fun i => v.reached (v.showTick i) && !v.reached (v.hideTick i)).getLast?).map
      (layLine v.image v.glyphs)
    deferred := none
    next := lines.find? fun i => !v.reached (v.showTick i) }

/-- A rebuild, made from t as the Transport holds it (R151); it changes nothing outside mode LYRICS. -/
def State.rebuild (s : State) : State :=
  if s.llu.mode = .lyrics then
    s.setLlu { s.llu with rows := s.llu.rows.mapIdx fun k r => rebuildRow s.lineView k.val r }
  else s

/-- The row slots emptied, with a new mode; late counts and latched settings are kept (R153, R154). -/
def LayoutUnit.emptied (l : LayoutUnit) (mode : LayoutMode) : LayoutUnit :=
  { l with mode := mode, rows := l.rows.map fun r => ⟨none, none, none, r.late⟩ }

/-- The Lyric Layout Unit after SOFT_RESET (R165). -/
def LayoutUnit.softReset (l : LayoutUnit) : LayoutUnit :=
  { l with mode := .none, rows := Quad.const RowSlot.reset }

/-! ## The frame start (R145, R159 to R161) -/

/-- The Lyric Layout Unit's row slots brought up to date at a frame start (R145). -/
def State.settleRows (s : State) : State :=
  if s.llu.mode = .lyrics then
    s.setLlu { s.llu with rows := s.llu.rows.mapIdx fun k r => settleRow s.lineView k.val 1536 r }
  else s

/-- A syllable's wipe column (R159). -/
def wipeColumn (t : Nat) (y : SyllableRec) (p : PlacedSyllable) : Nat :=
  if t < 256 * y.start then p.left
  else if 256 * y.stop ≤ t then p.left + p.width
  else p.left + p.width * (t - 256 * y.start) / (256 * y.duration)

/-- The palette entry of a syllable's sung colour: p for a mask naming the one part p, 5 for a mask
naming two or more (R160). -/
def sungColour (mask : Nat) : Nat :=
  match mask with
  | 1 => 1
  | 2 => 2
  | 4 => 3
  | 8 => 4
  | _ => 5

/-- The syllables of a shown line with their wipe columns and sung colours (R159, R160). -/
def wipedSyllables (m : ImageMemory) (t : Nat) (l : ShownLine) : List WipedSyllable :=
  List.zipWith (fun j p =>
    let y := syllableAt m j
    ⟨p.left, p.width, wipeColumn t y p, sungColour y.mask⟩) (lineSyllables m l.index) l.syllables

/-- A CLOSED lane's part and song score, or absent, as the Scoring Unit gives them during RESULT; absent as a whole for
any other lane (R136). -/
def Lane.shownResult (l : Lane) : Option ShownResult :=
  match l.state, l.part with
  | .closed, some p => some ⟨p, l.score⟩
  | _, _ => none

/-- The record handed to the Compositor for row slot `k` (R153, R154, R161). -/
def State.rowRecord (s : State) (k : Fin 4) : RowRecord :=
  match s.llu.mode with
  | .none => .empty
  | .results => .result (s.su.lanes.get k).shownResult
  | .lyrics =>
    match (s.llu.rows.get k).shown with
    | none => .empty
    | some l => .line l.glyphs (wipedSyllables s.songImage s.tr.t l)

end Sys2Proof.Machine
end

