-- ==== Sys2Proof/Machine/Compositor.lean ====
section
/-! DEFINITION. The Compositor (Chapter 8): the glyph store (R174 to R177), the video input (R178), the
banner decision (R172), the content of an output frame (R167) and the pixels drawn from it (R168 to R173). -/

namespace Sys2Proof.Machine

/-! ## The glyph store (R174) -/

/-- The bytes used: 12 for each column of each glyph held (R174). -/
def glyphBytes (g : GlyphStore) : Nat := (g.map fun e => 12 * e.2.width).sum

/-- The capacity of the glyph store in bytes (R174). -/
def glyphCapacity : Nat := 1048576

/-- The store without a code's glyph. -/
def glyphRemove (g : GlyphStore) (code : Nat) : GlyphStore := g.filter fun e => e.1 != code

/-- The store with a code's glyph added or replaced, codes strictly rising. -/
def glyphPut (g : GlyphStore) (code : Nat) (x : Glyph) : GlyphStore :=
  (g.filter fun e => decide (e.1 < code)) ++ (code, x) :: (g.filter fun e => decide (code < e.1))

/-- The coverage values of a glyph from its packed bytes, four pixels in a byte, the first in bits 1..0
(R213). -/
def unpackCoverage (bytes : List Byte) : List (BitVec 2) :=
  bytes.flatMap fun (b : Byte) => [b.setWidth 2, (b >>> 2).setWidth 2, (b >>> 4).setWidth 2, (b >>> 6).setWidth 2]

/-- Whether a slot in STAGED or ACTIVE state references a code (R174). -/
def State.references (s : State) (code : Nat) : Bool :=
  [s.slotA, s.slotB].any fun x => (x.state == .staged || x.state == .active) && imgReferences x.image code

/-- Whether either slot is STAGED or ACTIVE (R177). -/
def State.storeInUse (s : State) : Bool :=
  [s.slotA, s.slotB].any fun x => x.state == .staged || x.state == .active

/-! ## The video input (R178) -/

/-- Whether an input frame is valid: 1,080 lines of 1,920 pixels (R178). -/
def validInput (f : InputFrame) : Bool := decide (f.length = 1080) && f.all fun l => decide (l.length = 1920)

/-- The video state after a frame start (R178). -/
def Compositor.videoStep (c : Compositor) : Compositor :=
  match c.video, c.freshInput with
  | .locked, true => { c with staleCount := 0, freshInput := false }
  | .locked, false =>
    if c.staleCount + 1 < 3 then { c with staleCount := c.staleCount + 1 }
    else { c with staleCount := 3, video := .unlocked, freshRun := 0 }
  | .unlocked, true =>
    if c.freshRun + 1 < 2 then { c with freshRun := c.freshRun + 1, freshInput := false }
    else { c with freshRun := 2, video := .locked, staleCount := 0, freshInput := false }
  | .unlocked, false => { c with freshRun := 0 }

/-- Whether a frame start loses the input video (R178, R179). -/
def Compositor.losesVideo (c : Compositor) : Bool :=
  c.video == .locked && !c.freshInput && decide (3 ≤ c.staleCount + 1)

/-- Whether a frame start restores the input video (R178). -/
def Compositor.restoresVideo (c : Compositor) : Bool :=
  c.video == .unlocked && c.freshInput && decide (2 ≤ c.freshRun + 1)

/-! ## The banner (R172) -/

/-- Whether the Transport's state and clock let the banner stand (R172). -/
def bannerTime (t : Transport) (window : Nat) : Bool :=
  match t.state with
  | .idle => true
  | .result => true
  | .play => decide (256 * (t.duration - window) ≤ t.t)
  | _ => false

/-- The title of the waiting entry at position 1 when it is resolved and its title is not empty (R172). -/
def State.bannerTitle (s : State) : Option (List Nat) :=
  match waiting s.rq.entries with
  | [] => none
  | e :: _ =>
    match e.catalogue with
    | none => none
    | some c => if c.title = [] then none else some c.title

/-- The banner drawn at a frame start, if any (R172). -/
def State.banner (s : State) : Option (List Nat) :=
  if bannerTime s.tr s.cmp.bannerWindow then s.bannerTitle else none

/-! ## The frame start (R167) -/

/-- The content a frame is drawn from, once its frame start has been taken (R167). -/
def State.frameContent (s : State) : FrameContent where
  bands := s.cmp.bands
  placement := s.cmp.placement
  palette := s.cmp.palette
  digitBase := s.cmp.digitBase
  glyphs := s.cmp.glyphs
  video := if s.cmp.video = .locked then s.cmp.heldFrame else none
  rows := ⟨s.rowRecord 0, s.rowRecord 1, s.rowRecord 2, s.rowRecord 3⟩
  banner := s.banner

/-- A video frame start (R145, R167, R172, R178, R179): the row slots are brought up to date, the video
state follows the input, VIDEO_LOST and its condition are given to the Attention Unit, and the frame's
content and the banner are fixed. -/
def frameStart (s : State) : State :=
  let s1 := s.settleRows
  let s2 := s1.setCmp s1.cmp.videoStep
  let s3 := s2.setAtt { s2.att with videoLostHolds := s2.cmp.video == .unlocked }
  let s4 := s3.raiseIf s.cmp.losesVideo .videoLost
  s4.setCmp { s4.cmp with bannerShown := s4.banner.isSome, frame := some s4.frameContent }

/-! ## Pixels (R168 to R173) -/

/-- A glyph to be drawn: its code, left edge and laid-out width, the column before which its pixels take
the sung palette entry, and that entry; pixels from that column on take entry 0. -/
structure Ink where
  code : Nat
  left : Nat
  width : Nat
  wipe : Nat
  entry : Nat
  deriving DecidableEq, Repr

/-- The glyphs of a run with their palette entries, laid out anew: codes with no glyph are left out, the
rest stand edge to edge and centred, and those that would pass column 1,859 are not drawn (R172, R173).
Every pixel is sung. -/
def layRun (g : GlyphStore) : Nat → List (Nat × Nat) → List Ink
  | _, [] => []
  | left, (c, e) :: rest =>
    let w := glyphWidth g c
    (if left + w ≤ 1860 then [⟨c, left, w, left + w, e⟩] else []) ++ layRun g (left + w) rest

/-- A run of codes with palette entries laid out in columns 60 to 1,859 (R172, R173). -/
def centredRun (g : GlyphStore) (run : List (Nat × Nat)) : List Ink :=
  let kept := run.filter fun x => (glyphOf g x.1).isSome
  layRun g (runLeft (runWidth g (kept.map (·.1)))) kept

/-- The codes of the result row of a part and a score, counted from the digit base, with their palette entries
(R173). -/
def resultRun (base part score : Nat) : List (Nat × Nat) :=
  let digits :=
    if score = 10000 then [1, 0, 0, 10, 0, 0] else [score / 1000, score / 100 % 10, 10, score / 10 % 10, score % 10]
  (base + 11, part) :: digits.map fun d => (base + d, 7)

/-- The glyphs of a row record as they are drawn; an absent score draws an empty row (R170, R173). -/
def rowInk (f : FrameContent) : RowRecord → List Ink
  | .empty => []
  | .line glyphs syllables =>
    (glyphs.filter (·.drawn)).map fun p =>
      let y := syllables.getD p.syllable ⟨0, 0, 0, 0⟩
      ⟨p.code, p.left, p.width, y.wipe, y.colour⟩
  | .result none => []
  | .result (some ⟨_, none⟩) => []
  | .result (some ⟨part, some score⟩) =>
    if f.digitBase = 0 then [] else centredRun f.glyphs (resultRun f.digitBase part score)

/-- The banner's glyphs: the title in palette entry 6 (R172). -/
def bannerInk (f : FrameContent) : List Ink :=
  match f.banner with
  | none => []
  | some title => centredRun f.glyphs (title.map fun c => (c, 6))

/-- One component blended by a 2-bit coverage value (R171). -/
def blend (c v : Byte) (cover : BitVec 2) : Byte :=
  let a := 85 * cover.toNat
  BitVec.ofNat 8 ((c.toNat * a + v.toNat * (255 - a) + 127) / 255)

/-- A colour blended over another by a 2-bit coverage value (R171). -/
def blendRGB (c v : RGB) (cover : BitVec 2) : RGB :=
  ⟨blend c.red v.red cover, blend c.green v.green cover, blend c.blue v.blue cover⟩

/-- A glyph's coverage at its coverage row and column, 0 outside the glyph (R170). -/
def Glyph.coverAt (g : Glyph) (row col : Nat) : BitVec 2 :=
  if col < g.width then g.coverage.getD (row * g.width + col) 0 else 0

/-- A pixel with one glyph drawn over it on coverage row `row` (R170, R171). -/
def inkOver (f : FrameContent) (row col : Nat) (under : RGB) (k : Ink) : RGB :=
  if k.left ≤ col ∧ col < k.left + k.width then
    match glyphOf f.glyphs k.code with
    | none => under
    | some g =>
      let entry := if col < k.wipe then k.entry else 0
      blendRGB (f.palette.get (Fin.ofNat 8 entry)) under (g.coverAt row (col - k.left))
  else under

/-- A pixel's background value by its band's code (R168). -/
def backgroundPixel (f : FrameContent) (col line : Nat) : RGB :=
  let video : RGB := match f.video with
    | none => ⟨0, 0, 0⟩
    | some v => (v.getD line []).getD col ⟨0, 0, 0⟩
  match f.bands.get (Fin.ofNat 8 (line / 135)) with
  | .dim => ⟨video.red >>> 1, video.green >>> 1, video.blue >>> 1⟩
  | .blank => ⟨0, 0, 0⟩
  | _ => video

/-- A pixel with row slot `k` drawn over it: the row covers 48 lines of its band from its offset, and is
drawn in a band of code LYRIC or DIM (R169). -/
def rowOver (f : FrameContent) (col line : Nat) (under : RGB) (k : Fin 4) : RGB :=
  let p := f.placement.get k
  let top := 135 * p.band + p.offset
  let code := f.bands.get (Fin.ofNat 8 p.band)
  if (code = .lyric ∨ code = .dim) ∧ top ≤ line ∧ line < top + 48 then
    (rowInk f (f.rows.get k)).foldl (inkOver f (line - top) col) under
  else under

/-- A pixel of the output frame, at a column 0..1,919 and a line 0..1,079 (R168 to R173). -/
def framePixel (f : FrameContent) (col line : Nat) : RGB :=
  let band := line / 135
  let under := backgroundPixel f col line
  if f.bands.get (Fin.ofNat 8 band) = .banner then
    if 43 ≤ line % 135 ∧ line % 135 < 91 then
      (bannerInk f).foldl (inkOver f (line % 135 - 43) col) under
    else under
  else rowNumbers.foldl (rowOver f col line) under

/-- A pixel of the video output: black while the reset line is held low (R218) and before the first frame
start, and the frame's pixel otherwise. -/
def State.outputPixel (s : State) (col line : Nat) : RGB :=
  match s.resetLow, s.cmp.frame with
  | false, some f => framePixel f col line
  | _, _ => ⟨0, 0, 0⟩

end Sys2Proof.Machine
end

