-- ==== Sys2Proof/Machine/Transport.lean ====
section
/-! DEFINITION. The Transport (Chapter 4): cueing (R76), auto-advance (R74), the block completion in each
state (R77 to R79, R86 to R88, R95), the block stamp (R80), RESULT entry and the finish (R92, R96), and its
messages (R75, R82 to R85, R89 to R91, R93, R97, R98). -/

namespace Sys2Proof.Machine

/-! ## Values sent on the link (R213, R214) -/

/-- A transport state as sent. -/
def TransportState.value : TransportState → Nat
  | .idle => 0
  | .cued => 1
  | .play => 2
  | .hold => 3
  | .recover => 4
  | .paused => 5
  | .result => 6

/-- A finish kind, or none, as sent. -/
def finishValue : Option FinishKind → Nat
  | none => 0
  | some .completed => 1
  | some .aborted => 2
  | some .skipped => 3

/-! ## Cueing (R74, R76) -/

/-- The Transport as cueing leaves it, with the song's duration (R76). -/
def Transport.cued (t : Transport) (duration : Nat) : Transport :=
  { t with
    state := .cued, t := 0, duration := duration, slew := 0, syncTimer := 0, settleCount := 0
    holdCount := 0, cueStallCount := 0, resultCountdown := 0, finish := none, epoch := 0, jumpCount := 0 }

/-- Cueing of a STAGED entry (R76): its slot becomes ACTIVE, the entry PLAYING at the head of the queue
(R22), the Transport CUED, the lanes are armed (R124), the row slots opened (R144), the pads told and
SONG_STARTED and QUEUE_CHANGED raised. A STAGED entry is always held by a slot (R52). -/
def State.cue (s : State) (e : Entry) : State :=
  match s.slotHolding e.id with
  | none => s
  | some n =>
    let x := s.slot n
    let s1 := s.setSlot n { x with state := .active }
    let s2 := s1.setEntries ({ e with state := .playing } :: removeEntry s1.rq.entries e.id)
    let s3 := s2.setTr (s2.tr.cued (imgDuration x.image))
    let s4 := s3.setSu (s3.su.arm x.image e.requesters s3.mfe.channels)
    let s5 := s4.setLlu (s4.llu.opened x.image)
    ((s5.tellPads e.requesters ⟨.started, e.song⟩).raise .songStarted).raise .queueChanged

/-- Auto-advance (R74): with the Transport IDLE, auto-advance on and the entry at position 1 STAGED, that
entry is cued in the same arrival. -/
def State.autoAdvance (s : State) : State :=
  if s.tr.state = .idle ∧ s.tr.autoAdvance then
    match waiting s.rq.entries with
    | e :: _ => if e.state = .staged then s.cue e else s
    | [] => s
  else s

/-! ## Ending a song (R92, R96) -/

/-- The ACTIVE slot released (R69). -/
def State.releaseSlot (s : State) : State :=
  match s.activeSlot with
  | some n => s.setSlot n (s.slot n).emptied
  | none => s

/-- The Transport as the finish leaves it (R79, R96). -/
def Transport.finished (t : Transport) : Transport :=
  { t with state := .idle, t := 0, duration := 0, resultCountdown := 0, finish := none, slew := 0 }

/-- The PLAYING entry moved into the history, if there is one (R96). -/
def State.shelve (s : State) (kind : FinishKind) : State :=
  match playingEntry s.rq.entries with
  | some e => s.placeInHistory e kind (s.su.lanes.map Lane.result)
  | none => s

/-- The finish of the song with its kind, the lanes having been closed (R96), up to the test of R74. -/
def State.finishSong (s : State) (kind : FinishKind) : State :=
  let s1 := s.shelve kind
  let s2 := (s1.setSu s1.su.cleared).releaseSlot
  let s3 := s2.setLlu (s2.llu.emptied .none)
  (s3.setTr s3.tr.finished).raise .songEnded

/-- The finish of the song with its kind, and the next song cued in the same arrival when R74 holds
(R96). -/
def State.finish (s : State) (kind : FinishKind) : State := (s.finishSong kind).autoAdvance

/-- The Transport as RESULT entry leaves it (R92). -/
def Transport.ended (t : Transport) (kind : FinishKind) : Transport :=
  { t with
    state := .result, slew := 0, syncTimer := 0, settleCount := 0, holdCount := 0, finish := some kind
    resultCountdown := t.resultInterval }

/-- RESULT entry with a finish kind (R92, R134, R153), up to the finish of a result interval of 0. -/
def State.resultEntry (s : State) (kind : FinishKind) : State :=
  let s1 := s.closeLanes kind
  let s2 := s1.setTr (s1.tr.ended kind)
  s2.setLlu (s2.llu.emptied .results)

/-- After RESULT entry, a result interval of 0 finishes the song in the same arrival (R92, R96). -/
def State.finishAtOnce (s : State) (kind : FinishKind) : State :=
  if s.tr.resultInterval = 0 then s.finish kind else s

/-- RESULT entry with a finish kind, whole (R92). -/
def State.enterResult (s : State) (kind : FinishKind) : State := (s.resultEntry kind).finishAtOnce kind

/-! ## The block completion (R77 to R79, R86 to R88, R95) -/

/-- The slew step (R79). -/
def slewStep (slew : Int) : Int := if 256 ≤ slew then 256 else if slew ≤ -256 then -256 else slew

/-- Steps 1 to 3 of R78: the clock advanced by 5R, the slew step taken, and the clock clamped. -/
def Transport.advance (t : Transport) : Transport :=
  { t with
    t := min (256 * t.duration) ((t.t : Int) + 5 * t.rate + slewStep t.slew).toNat
    slew := t.slew - slewStep t.slew }

/-- Whether the clock runs: the Transport is in PLAY or RECOVER (R72). -/
def Transport.runs (t : Transport) : Bool := t.state == .play || t.state == .recover

/-- Whether the next block completion ends the song (R78 step 4). -/
def Transport.endsSong (t : Transport) : Bool := t.runs && decide (t.advance.t = 256 * t.duration)

/-- Whether the next block completion brings the sync timer to its timeout (R86). -/
def Transport.losesSync (t : Transport) : Bool :=
  t.runs && !t.endsSong && decide (t.syncTimeout ≤ t.syncTimer + 1)

/-- Whether the next block completion finds the settle count spent (R88). -/
def Transport.settles (t : Transport) : Bool :=
  t.state == .recover && !t.endsSong && !t.losesSync && decide (t.settleCount = 0)

/-- Whether the next block completion reaches the hold limit (R87). -/
def Transport.givesUp (t : Transport) : Bool := t.state == .hold && decide (t.holdLimit ≤ t.holdCount + 1)

/-- Whether the next block completion brings the cue stall count to 1,000 (R77). -/
def Transport.stalls (t : Transport) : Bool := t.state == .cued && decide (t.cueStallCount + 1 = 1000)

/-- Whether the next block completion spends the result countdown (R95). -/
def Transport.resultSpent (t : Transport) : Bool := t.state == .result && decide (t.resultCountdown - 1 = 0)

/-- The Transport entering HOLD (R86). -/
def Transport.held (t : Transport) : Transport :=
  { t with state := .hold, slew := 0, holdCount := 0, settleCount := 0 }

/-- The finish kind of the RESULT entry that the next block completion makes, if it makes one (R78, R87, R92). -/
def Transport.endKind (t : Transport) : Option FinishKind :=
  if t.endsSong then some .completed else if t.givesUp then some .aborted else none

/-- The Transport's steps at a block completion that come before the stamp (R77, R78, R80, R86 to R88, R95). -/
def transportBlock (s : State) : State :=
  let t := s.tr
  match t.state with
  | .idle => s
  | .paused => s
  | .cued =>
    (s.setTr { t with cueStallCount := min 1000 (t.cueStallCount + 1) }).raiseIf t.stalls .cueStall
  | .hold =>
    let s1 := s.setTr { t with holdCount := t.holdCount + 1 }
    if t.givesUp then s1.resultEntry .aborted else s1
  | .result =>
    let s1 := s.setTr { t with resultCountdown := t.resultCountdown - 1 }
    if t.resultSpent then s1.finish (t.finish.getD .aborted) else s1
  | .play | .recover =>
    let t1 := t.advance
    if t.endsSong then (s.setTr t1).resultEntry .completed
    else
      let t2 := { t1 with syncTimer := t.syncTimer + 1 }
      if t.losesSync then (s.setTr t2.held).raise .syncLost
      else if t.state = .recover then
        if t.settles then s.setTr { t2 with state := .play }
        else s.setTr { t2 with settleCount := t.settleCount - 1 }
      else s.setTr t2

/-- What is left of R92 after the stamp of a block completion that found the Transport as `t`: where it entered RESULT with
a result interval of 0, the song finishes, in the same arrival (R96; log entry 23). -/
def Transport.finishOwed (t : Transport) (s : State) : State :=
  match t.endKind with
  | some kind => s.finishAtOnce kind
  | none => s

/-- The block stamp (R80). -/
def Transport.stamp (t : Transport) : Stamp := ⟨t.state, t.t / 256, t.key, t.epoch⟩

/-! ## Position reports (R82 to R85) -/

/-- The continuity epoch advanced (R81). -/
def nextEpoch (e : Nat) : Nat := (e + 1) % 256

/-- A SYNC's position clamped into 0..duration (R82). -/
def Transport.syncPosition (t : Transport) (p : Nat) : Nat := min p t.duration

/-- The clock error of a SYNC with applied position `p` (R82). -/
def Transport.syncError (t : Transport) (p : Nat) : Int := (p : Int) - (t.t / 256 : Nat)

/-- The reply data of a SYNC: applied P, error and action (R82, R214). -/
def syncData (p : Nat) (e : Int) (action : Nat) : List Byte := n32 p ++ i32 e ++ n8 action

/-- The state the settle setting leads to from HOLD or PAUSED (R84, R90). -/
def Transport.resettle (t : Transport) : Transport :=
  if t.settle = 0 then { t with state := .play } else { t with state := .recover, settleCount := t.settle }

/-- SYNC in PLAY or RECOVER, by the magnitude of the error (R83, R85). -/
def syncRunning (s : State) (p : Nat) (e : Int) : Answer :=
  let t := { s.tr with syncTimer := 0 }
  if e.natAbs ≤ 15 then accept (s.setTr { t with slew := 0 }) (syncData p e 1)
  else if e.natAbs ≤ 200 then accept (s.setTr { t with slew := 256 * e }) (syncData p e 2)
  else
    accept (s.setTr { t with
      t := 256 * p, slew := 0, jumpCount := min 65535 (t.jumpCount + 1), epoch := nextEpoch t.epoch }).rebuild
      (syncData p e 3)

/-- SYNC (R82 to R85). -/
def takeSync (s : State) (position : Nat) : Answer :=
  let t := s.tr
  let p := t.syncPosition position
  let e := t.syncError p
  match t.state with
  | .idle => refuse s .badState
  | .result => refuse s .badState
  | .cued =>
    let s1 := s.setTr { t with t := 256 * p, syncTimer := 0, state := .play }
    accept (if 200 < p then s1.rebuild else s1) (syncData p e 0)
  | .hold =>
    accept (s.setTr { t with
      t := 256 * p, slew := 0, syncTimer := 0, epoch := nextEpoch t.epoch }.resettle).rebuild (syncData p e 4)
  | .paused => accept s (syncData p e 5)
  | .play | .recover => syncRunning s p e

/-! ## The other messages -/

/-- The entry START names: the waiting entry at position 1 for id 0, and else the entry of the id; or the
refusal (R75). -/
def startEntry (s : State) (id : Nat) : Except ResultCode Entry :=
  if id = 0 then
    match waiting s.rq.entries with
    | e :: _ => if e.state = .staged then .ok e else .error .badState
    | [] => .error .badState
  else
    match findEntry s.rq.entries id with
    | some e => if e.state = .staged then .ok e else .error .badState
    | none => .error .notFound

/-- START (R75). -/
def takeStart (s : State) (id : Nat) : Answer :=
  if s.tr.state ≠ .idle then refuse s .badState
  else
    match startEntry s id with
    | .error c => refuse s c
    | .ok e =>
      let s1 := s.cue e
      accept s1 (n8 e.id ++ n32 s1.tr.duration)

/-- PAUSE (R89). -/
def takePause (s : State) : Answer :=
  if s.tr.runs then
    accept (s.setTr { s.tr with state := .paused, slew := 0, settleCount := 0 }) (n32 (s.tr.t / 256))
  else refuse s .badState

/-- RESUME (R90). -/
def takeResume (s : State) : Answer :=
  if s.tr.state = .paused then
    let s1 := (s.setTr { s.tr with epoch := nextEpoch s.tr.epoch }.resettle).rebuild
    accept s1 (n8 s1.tr.state.value)
  else refuse s .badState

/-- RATE (R91). -/
def takeRate (s : State) (rate : Nat) : Answer :=
  let r := clamp 384 640 rate
  accept (s.setTr { s.tr with rate := r }) (n16 r)

/-- KEY (R91). -/
def takeKey (s : State) (shift : Int) : Answer :=
  let k := clampInt (-6) 6 shift
  accept (s.setTr { s.tr with key := k }) (i8 k)

/-- STOP (R93): with the flag set the song enters RESULT as ABORTED; with it clear the lanes are closed and
the song finishes at once as SKIPPED. -/
def takeStop (s : State) (flag : Nat) : Answer :=
  if 1 < flag then refuse s .badValue
  else if s.tr.state = .idle ∨ s.tr.state = .result then refuse s .badState
  else if flag = 1 then accept (s.enterResult .aborted) (n8 (finishValue (some .aborted)))
  else accept ((s.closeLanes .skipped).finish .skipped) (n8 (finishValue (some .skipped)))

/-- TRANSPORT_SET (R97). -/
def takeTransportSet (s : State) (auto syncTimeout settle holdLimit resultInterval : Nat) : Answer :=
  if 1 < auto then refuse s .badValue
  else
    let t := { s.tr with
      autoAdvance := auto == 1
      syncTimeout := clamp 20 200 syncTimeout
      settle := clamp 0 100 settle
      holdLimit := clamp 500 6000 holdLimit
      resultInterval := clamp 0 1500 resultInterval }
    accept (s.setTr t).autoAdvance
      (flag8 t.autoAdvance ++ n16 t.syncTimeout ++ n16 t.settle ++ n16 t.holdLimit ++ n16 t.resultInterval)

/-- TRANSPORT_READ (R98, R214). -/
def takeTransportRead (s : State) : Answer :=
  let t := s.tr
  accept s
    (n8 t.state.value ++ n32 t.t ++ n32 (t.t / 256) ++ n32 t.duration ++ n16 t.rate ++ i8 t.key ++
      i32 t.slew ++ n16 t.jumpCount ++ n8 t.epoch ++ n8 (((playingEntry s.rq.entries).map (·.id)).getD 0) ++
      n8 t.syncTimer ++ n8 t.settleCount ++ n16 t.holdCount ++ n16 t.cueStallCount ++
      n16 t.resultCountdown ++ n8 (finishValue t.finish))

end Sys2Proof.Machine
end

