-- ==== Sys2Proof/Machine/Store.lean ====
section
/-! DEFINITION. The Song Store's messages (R53 to R56, R66, R67) and the validation completion (R64). -/

namespace Sys2Proof.Machine

/-- The slot a slot byte names: A = 0, B = 1 (R212). -/
def slotNamed (b : Nat) : Option SlotName :=
  match b with
  | 0 => some .a
  | 1 => some .b
  | _ => none

/-- A slot state as sent (R214). -/
def SlotState.value : SlotState → Nat
  | .empty => 0
  | .filling => 1
  | .sealing => 2
  | .staged => 3
  | .active => 4

/-- A fault code as sent (R214). -/
def FaultCode.value : FaultCode → Nat
  | .none => 0
  | .incomplete => 1
  | .format => 2
  | .songMismatch => 3
  | .count => 4
  | .range => 5
  | .order => 6
  | .glyph => 7

/-- A fault locus as sent: locus, part and index (R214). -/
def Locus.values : Locus → Nat × Nat × Nat
  | .none => (0, 0, 0)
  | .header => (1, 0, 0)
  | .line i => (2, 0, i)
  | .syllable i => (3, 0, i)
  | .note p i => (4, p, i)

/-! ## Coverage (R50) -/

/-- The required granules of a declared size: the size divided by 256 and rounded up (R50). -/
def requiredGranules (size : Nat) : Nat := (size + 255) / 256

/-- The declared size of a slot, 0 when it is EMPTY. -/
def Slot.size (x : Slot) : Nat := (x.held.map (·.size)).getD 0

/-- The required granules that are marked, and those that are missing, in rising order. -/
def Slot.covered (x : Slot) : List Nat :=
  (List.range (requiredGranules x.size)).filter fun g => x.coverage.getLsbD g
def Slot.missing (x : Slot) : List Nat :=
  (List.range (requiredGranules x.size)).filter fun g => !x.coverage.getLsbD g

/-- The coverage map with granules `first` to `first + n − 1` marked. -/
def markGranules (c : BitVec 1024) (first n : Nat) : BitVec 1024 :=
  (List.range n).foldl (fun c k => c ||| (1#1024 <<< (first + k))) c

/-! ## Messages -/

/-- The entry of an id with a new state, its other fields kept (R21). -/
def State.setEntryState (s : State) (id : Nat) (st : EntryState) : State :=
  s.setEntries (updateEntry s.rq.entries id fun e => { e with state := st })

/-- SLOT_OPEN (R53). -/
def takeSlotOpen (s : State) (slot id size : Nat) : Answer :=
  match slotNamed slot with
  | none => refuse s .badValue
  | some n =>
    if size < 64 ∨ imageBytes < size then refuse s .badValue
    else if (s.slot n).state ≠ .empty then refuse s .busy
    else
      match findEntry s.rq.entries id with
      | none => refuse s .notFound
      | some e =>
        if e.state ≠ .ready then refuse s .badState
        else
          let x : Slot := ⟨.filling, some ⟨id, size⟩, 0, memClearBelow (s.slot n).image size, ⟨.none, .none, 0⟩⟩
          accept (((s.setSlot n x).setEntryState id .loading).raise .queueChanged)
            (n16 (requiredGranules size))

/-- SLOT_DATA (R54). A declared size never passes the 262,144 bytes of the image memory (R53). -/
def takeSlotData (s : State) (slot offset : Nat) (data : List Byte) : Answer :=
  match slotNamed slot with
  | none => refuse s .badValue
  | some n =>
    let x := s.slot n
    if x.state = .sealing then refuse s .busy
    else if x.state ≠ .filling then refuse s .badState
    else if offset % 256 ≠ 0 ∨ min x.size imageBytes < offset + data.length then refuse s .badValue
    else
      let x1 : Slot := { x with
        image := memWriteList x.image offset data
        coverage := markGranules x.coverage (offset / 256) ((data.length + 255) / 256) }
      accept (s.setSlot n x1) (n16 x1.covered.length ++ n16 x1.missing.length)

/-- SLOT_SEAL (R55, R56). -/
def takeSlotSeal (s : State) (slot : Nat) : Answer :=
  match slotNamed slot with
  | none => refuse s .badValue
  | some n =>
    let x := s.slot n
    if x.state ≠ .filling then refuse s .badState
    else
      match x.missing with
      | [] => accept (s.setSlot n { x with state := .sealing }) []
      | g :: rest =>
        ⟨s.setSlot n { x with fault := ⟨.incomplete, .none, g⟩ }, .incomplete,
          n16 (rest.length + 1) ++ n16 g⟩

/-- SLOT_DISCARD (R66). -/
def takeSlotDiscard (s : State) (slot : Nat) : Answer :=
  match slotNamed slot with
  | none => refuse s .badValue
  | some n =>
    let x := s.slot n
    match x.state, x.held with
    | .active, _ => refuse s .badState
    | .empty, _ => accept s []
    | _, none => accept (s.setSlot n x.emptied) []
    | _, some h => accept (((s.setSlot n x.emptied).setEntryState h.entryId .ready).raise .queueChanged) []

/-- SLOT_READ (R67, R214). -/
def takeSlotRead (s : State) (slot : Nat) : Answer :=
  match slotNamed slot with
  | none => refuse s .badValue
  | some n =>
    let x := s.slot n
    let m := x.image
    let l := x.fault.locus.values
    let header : List Byte :=
      if x.state = .staged ∨ x.state = .active then
        n32 (imgSong m) ++ n32 (imgDuration m) ++ n8 (imgParts m) ++ n16 (imgLines m) ++
          n16 (imgSyllables m) ++ partNumbers.flatMap fun p => n16 (imgNotes m p)
      else List.replicate 21 0
    accept s
      (n8 x.state.value ++ n8 ((x.held.map (·.entryId)).getD 0) ++ n32 x.size ++
        n16 (requiredGranules x.size) ++ n16 x.covered.length ++ n16 (x.missing.head?.getD 0xFFFF) ++
        n8 x.fault.code.value ++ n8 l.1 ++ n8 l.2.1 ++ n16 l.2.2 ++ n32 x.fault.value ++ header)

/-! ## Validation completion (R64) -/

/-- The song number of the entry a slot holds, against which check 2 is made (R60). -/
def heldSong (s : State) (h : Held) : Nat := ((findEntry s.rq.entries h.entryId).map (·.song)).getD 0

/-- The completion of the validation in flight in a slot (R64): with every check passed the slot and its
entry become STAGED; with one failed the fault is recorded, the slot becomes EMPTY and its entry READY.
SLOT_DONE and QUEUE_CHANGED are raised, and a STAGED entry at position 1 may be cued at once (R74). A
slot that is not SEALING has no validation in flight, and nothing comes about (R65). -/
def completeValidation (s : State) (n : SlotName) : State :=
  let x := s.slot n
  match x.state, x.held with
  | .sealing, some h =>
    let s1 := match validationFault x.image h.size (heldSong s h) s.cmp.glyphs with
      | none => (s.setSlot n { x with state := .staged }).setEntryState h.entryId .staged
      | some f => (s.setSlot n { x.emptied with fault := f }).setEntryState h.entryId .ready
    ((s1.raise .slotDone).raise .queueChanged).autoAdvance
  | _, _ => s

end Sys2Proof.Machine
end

