-- ==== Sys2Proof/Machine/Requests.lean ====
section
/-! DEFINITION. What the Request Queue takes: a pad's REQUEST and WITHDRAW (R9 to R11), the host's messages
(R13 to R20), and the release of a pad's address (R25). -/

namespace Sys2Proof.Machine

/-! ## Values sent on the link (R212, R214) -/

/-- The lane a lane byte names: NORMAL = 0, RUSH = 1. -/
def laneNamed (b : Nat) : Option QueueLane :=
  match b with
  | 0 => some .normal
  | 1 => some .rush
  | _ => none

/-- A lane as sent. -/
def QueueLane.value : QueueLane → Nat
  | .normal => 0
  | .rush => 1

/-- An entry state as sent. -/
def EntryState.value : EntryState → Nat
  | .pending => 0
  | .ready => 1
  | .loading => 2
  | .staged => 3
  | .playing => 4

/-- An origin as sent. -/
def Origin.value : Origin → Nat
  | .pad => 0
  | .operator => 1

/-! ## Making entries (R10, R15) -/

/-- A new entry made and QUEUE_CHANGED raised; NEW_REQUEST too for one of origin PAD (R8, R10, R15). -/
def State.newEntry (s : State) (song : Nat) (lane : QueueLane) (origin : Origin) (list : List Requester)
    (lanePos : Nat) : State :=
  ((s.setRq (s.rq.make song lane origin list lanePos)).raiseIf (origin == .pad) .newRequest).raise
    .queueChanged

/-! ## Pad records (R9 to R11) -/

/-- The part choice a pad merging into an entry is entered with (R9). -/
def mergedChoice (e : Entry) (part : Nat) : Nat :=
  match e.catalogue with
  | some c => if c.parts < part then 0 else part
  | none => part

/-- The lane and outcome of a new pad entry (R10). -/
def admittedLane (r : RequestQueue) (pad : Nat) (rush : Bool) : QueueLane × OutcomeCode :=
  if rush then
    if r.rushEnabled ∧ rushCount r.entries < 2 ∧ ¬ (laneEntries r.entries .rush).any (fun e => e.lists pad) then
      (.rush, .accepted)
    else (.normal, .demoted)
  else (.normal, .accepted)

/-- A REQUEST record from a pad taken by RQ (R9, R10). -/
def takeRequest (s : State) (pad song part : Nat) (rush : Bool) : State × PadOutcome :=
  let q := s.rq.entries
  if song < 1 ∨ 999999 < song then (s, ⟨.badNumber, 0, 0⟩)
  else
    match waitingSong q song with
    | some e =>
      let at_ := positionOf q e.id
      if e.lists pad then (s, ⟨.duplicate, e.id, at_⟩)
      else if e.requesters.length < 4 then
        ((s.setEntries (updateEntry q e.id fun x =>
            { x with requesters := x.requesters ++ [⟨pad, mergedChoice e part⟩] })).raise .queueChanged,
          ⟨.merged, e.id, at_⟩)
      else (s, ⟨.mergeFull, e.id, at_⟩)
    | none =>
      if s.rq.padLimit ≤ padWaitingCount q pad then (s, ⟨.limit, 0, 0⟩)
      else if 32 ≤ q.length then (s, ⟨.queueFull, 0, 0⟩)
      else
        let l := admittedLane s.rq pad rush
        let s1 := s.newEntry song l.1 .pad [⟨pad, part⟩] ((laneEntries q l.1).length + 1)
        (s1, ⟨l.2, s.rq.freeId, positionOf s1.rq.entries s.rq.freeId⟩)

/-- The entry with a pad's item taken off its requester list. -/
def Entry.without (e : Entry) (pad : Nat) : Entry :=
  { e with requesters := e.requesters.filter fun r => r.pad != pad }

/-- A WITHDRAW record from a pad taken by RQ (R11), with the cueing that a cancellation may bring (R74). -/
def takeWithdraw (s : State) (pad song : Nat) : State × PadOutcome :=
  match (waiting s.rq.entries).find? fun e => e.song == song && e.lists pad with
  | none => (s, ⟨.notWaiting, 0, 0⟩)
  | some e =>
    let s1 := s.setEntries (updateEntry s.rq.entries e.id fun x => x.without pad)
    let left := e.without pad
    if left.requesters = [] ∧ e.origin = .pad then
      ((s1.cancelEntry left .cancelled).autoAdvance, ⟨.withdrawn, e.id, 0⟩)
    else (s1.raise .queueChanged, ⟨.withdrawn, e.id, 0⟩)

/-- The release of a pad's address (R25): it leaves every requester list of the queue and the history,
and each waiting PAD entry whose list becomes empty is cancelled; then R74 is tested. -/
def State.releasePad (s : State) (pad : Nat) : State :=
  let emptied := (waiting s.rq.entries).filter fun e =>
    e.origin == .pad && e.lists pad && (e.without pad).requesters.isEmpty
  let changed := s.rq.entries.any (fun e => e.lists pad) ||
    s.rq.history.any fun h => h.requesters.any fun r => r.pad == pad
  let s1 := s.setRq { s.rq with
    entries := s.rq.entries.map fun e => e.without pad
    history := s.rq.history.map fun h => { h with requesters := h.requesters.filter fun r => r.pad != pad } }
  let s2 := emptied.foldl (fun s e => s.cancelEntry (e.without pad) .cancelled) s1
  (s2.raiseIf changed .queueChanged).autoAdvance

/-! ## The host's messages -/

/-- The values a RESOLVE carries are refused (R13). -/
def badResolve (verdict parts : Nat) (title : List Nat) : Bool :=
  decide (verdict > 1) || decide (parts < 1 ∨ 4 < parts) || decide (32 < title.length) ||
    title.any fun c => decide (c < 1 ∨ 4095 < c)

/-- An entry resolved with verdict FOUND (R13). -/
def Entry.resolved (e : Entry) (parts : Nat) (title : List Nat) : Entry :=
  { e with
    state := .ready
    catalogue := some ⟨parts, title⟩
    requesters := e.requesters.map fun r => if parts < r.part then { r with part := 0 } else r }

/-- RESOLVE (R13, R14). -/
def takeResolve (s : State) (id verdict parts : Nat) (title : List Nat) : Answer :=
  let q := s.rq.entries
  if badResolve verdict parts title then refuse s .badValue
  else
    match findEntry q id with
    | none => refuse s .notFound
    | some e =>
      if e.state ≠ .pending then refuse s .badState
      else if verdict = 1 then
        accept ((s.setEntries (updateEntry q id fun x => x.resolved parts title)).raise .queueChanged)
          (n8 id ++ n8 (positionOf q id))
      else
        accept
          (((s.setEntries (removeEntry q id)).tellPads e.requesters
            ⟨.dropped .notInCatalogue, e.song⟩).raise .queueChanged).autoAdvance
          (n8 id ++ n8 0)

/-- QUEUE_ADD (R15). -/
def takeQueueAdd (s : State) (song lane lanePos : Nat) : Answer :=
  let q := s.rq.entries
  match laneNamed lane with
  | none => refuse s .badValue
  | some l =>
    if song < 1 ∨ 999999 < song then refuse s .badValue
    else
      match waitingSong q song with
      | some e => ⟨s, .exists, n8 e.id⟩
      | none =>
        if 32 ≤ q.length then refuse s .full
        else if l = .rush ∧ 2 ≤ rushCount q then refuse s .full
        else
          let p := appliedLanePos (laneEntries q l).length lanePos
          let s1 := s.newEntry song l .operator [] p
          accept s1 (n8 s.rq.freeId ++ n8 p ++ n8 (positionOf s1.rq.entries s.rq.freeId))

/-- QUEUE_MOVE (R16). The overall position of the reply is the one the entry is put back at, before any cueing that
the move leads to in the same arrival (log entry 22). -/
def takeQueueMove (s : State) (id lane lanePos : Nat) : Answer :=
  let q := s.rq.entries
  match laneNamed lane with
  | none => refuse s .badValue
  | some l =>
    match findEntry q id with
    | none => refuse s .notFound
    | some e =>
      let others := removeEntry q id
      if e.state = .playing then refuse s .badState
      else if l = .rush ∧ 2 ≤ rushCount others then refuse s .full
      else
        let p := appliedLanePos (laneEntries others l).length lanePos
        let q1 := insertEntry others { e with lane := l } p
        accept ((s.setEntries q1).raiseIf (decide (q1 ≠ q)) .queueChanged).autoAdvance
          (n8 p ++ n8 (positionOf q1 id))

/-- QUEUE_CANCEL (R17), with the cueing a cancellation may bring (R74). -/
def takeQueueCancel (s : State) (id : Nat) : Answer :=
  match findEntry s.rq.entries id with
  | none => refuse s .notFound
  | some e =>
    if e.state = .playing then refuse s .badState
    else accept (s.cancelEntry e .cancelled).autoAdvance []

/-- A requester list as sent: the count, then four items, the unused ones 0 (R214). -/
def requesterData (l : List Requester) : List Byte :=
  n8 l.length ++ padTo 8 (l.flatMap fun r => n8 r.pad ++ n8 r.part)

/-- A queue record of QUEUE_READ (R214). -/
def queueRecord (q : List Entry) (e : Entry) : List Byte :=
  let c := e.catalogue.getD ⟨0, []⟩
  n8 (positionOf q e.id) ++ n8 e.id ++ n32 e.song ++ n8 e.lane.value ++ n8 e.state.value ++
    n8 e.origin.value ++ n32 e.arrival ++ requesterData e.requesters ++ n8 c.parts ++ n8 c.title.length ++
    padTo 64 (c.title.flatMap n16)

/-- The entries a QUEUE_READ returns (R18). -/
def readEntries (q : List Entry) (first count : Nat) : List Entry :=
  let head := match first, playingEntry q with
    | 0, some e => [e]
    | _, _ => []
  (head ++ (waiting q).drop (first - 1)).take count

/-- QUEUE_READ (R18, R214). -/
def takeQueueRead (s : State) (first count : Nat) : Answer :=
  let q := s.rq.entries
  if 32 < first ∨ count < 1 ∨ 8 < count then refuse s .badValue
  else
    let records := readEntries q first count
    accept s
      (n8 (waiting q).length ++ n8 (rushCount q) ++ flag8 (playingEntry q).isSome ++ n8 records.length ++
        records.flatMap (queueRecord q))

/-- A lane result as sent (R214). -/
def laneResultData (l : LaneResult) : List Byte :=
  n8 (l.part.getD 0) ++ n16 (l.score.getD 0xFFFF) ++ n16 l.scored ++ n16 l.empty ++ n16 l.void

/-- HISTORY_READ (R19, R214). -/
def takeHistoryRead (s : State) (index : Nat) : Answer :=
  if 7 < index then refuse s .badValue
  else
    match s.rq.history[index]? with
    | none => refuse s .notFound
    | some h =>
      accept s
        (n8 s.rq.history.length ++ n8 h.id ++ n32 h.song ++ requesterData h.requesters ++
          n8 (finishValue (some h.finish)) ++ h.lanes.toList.flatMap laneResultData)

/-- POLICY (R20). -/
def takePolicy (s : State) (rush limit : Nat) : Answer :=
  if 1 < rush then refuse s .badValue
  else
    let l := clamp 1 8 limit
    accept (s.setRq { s.rq with rushEnabled := rush == 1, padLimit := l }) (n8 rush ++ n8 l)

end Sys2Proof.Machine
end

