-- ==== Sys2Proof/Machine/Pads.lean ====
section
/-! DEFINITION. The Pad Bus Controller (Chapter 2): uplink frames (R33, R215, R216), the choice of the
next exchange (R30 to R32), the completion of an exchange (R33 to R37, R45, R47, R49), the join window
(R38, R39), and its messages (R43, R44, R46, R47). -/

namespace Sys2Proof.Machine

/-! ## Values sent (R214, R215) -/

/-- A registry state as sent. -/
def PadState.value : PadState → Nat
  | .free => 0
  | .enrolled => 1
  | .silenced => 2

/-- A pad outcome code as sent. -/
def OutcomeCode.value : OutcomeCode → Nat
  | .none => 0
  | .accepted => 1
  | .demoted => 2
  | .merged => 3
  | .duplicate => 4
  | .mergeFull => 5
  | .limit => 6
  | .queueFull => 7
  | .badNumber => 8
  | .withdrawn => 9
  | .notWaiting => 10

/-- A last outcome as sent: toggle, outcome code, entry id, position. -/
def outcomeData (o : LastOutcome) : List Byte :=
  flag8 o.toggle ++ n8 o.outcome.code.value ++ n8 o.outcome.id ++ n8 o.outcome.position

/-- A news item as sent: kind, counter, song number, score (0xFFFF when absent), reason; with no item the
song number, score and reason are 0. -/
def newsData (news : Option NewsItem) (counter : Nat) : List Byte :=
  match news with
  | none => n8 0 ++ n8 counter ++ n32 0 ++ n16 0 ++ n8 0
  | some ⟨.started, song⟩ => n8 1 ++ n8 counter ++ n32 song ++ n16 0xFFFF ++ n8 0
  | some ⟨.finished score, song⟩ => n8 2 ++ n8 counter ++ n32 song ++ n16 (score.getD 0xFFFF) ++ n8 0
  | some ⟨.dropped .notInCatalogue, song⟩ => n8 3 ++ n8 counter ++ n32 song ++ n16 0xFFFF ++ n8 1
  | some ⟨.dropped .cancelled, song⟩ => n8 3 ++ n8 counter ++ n32 song ++ n16 0xFFFF ++ n8 2

/-- A pad-bus frame: address, type, body length, body, and the frame check low byte first (R210, R215). -/
def padFrame (address type : Nat) (body : List Byte) : List Byte :=
  let head := n8 address ++ n8 type ++ n8 body.length ++ body
  head ++ le16 (crc head)

/-- A downlink frame's bytes (R215). The rules give no address byte for an ASSIGN; the model sends that of the
INVITE, 0 (log entry 25). -/
def DownFrame.bytes : DownFrame → List Byte
  | .poll a f =>
    padFrame a 1 (outcomeData f.lastOutcome ++ newsData f.news f.newsCounter ++ n32 f.playingSong ++
      n8 f.firstPosition)
  | .invite => padFrame 0 2 []
  | .assign serial a => padFrame 0 3 (le32 serial ++ n8 a)

/-! ## Uplink frames (R33, R215, R216) -/

/-- A record an uplink frame carries (R33). -/
inductive UplinkRecord where
  | malformed
  | idle
  | request (toggle : Bool) (song : Word) (part : Byte) (rush : Bool)
  | withdraw (toggle : Bool) (song : Word)
  | join (serial : Word)
  deriving DecidableEq, Repr

/-- An uplink frame received whole: its check is wrong, or it carries an address and a record. -/
inductive UplinkFrame where
  | checkFailure
  | carries (address : Byte) (record : UplinkRecord)
  deriving DecidableEq, Repr

/-- The record of a type and body; the toggle is bit 0 of its byte, and a rush byte other than 0 is a set
rush flag (R215, R216). -/
def readRecord (type : Byte) (body : List Byte) : UplinkRecord :=
  match type.toNat, body.length with
  | 0, 0 => .idle
  | 1, 7 => .request ((u8 body 0).getLsbD 0) (u32 body 1) (u8 body 5) (u8 body 6 != 0)
  | 2, 5 => .withdraw ((u8 body 0).getLsbD 0) (u32 body 1)
  | 3, 4 => .join (u32 body 0)
  | _, _ => .malformed

/-- Whether a run of uplink characters is a whole frame: 5 + m bytes (R216). -/
def uplinkWhole (bytes : List Byte) : Bool :=
  decide (3 ≤ bytes.length) && decide (5 + (u8 bytes 2).toNat ≤ bytes.length)

/-- An uplink frame read from its bytes; one that is not whole ends as a check failure (R216). -/
def readUplink (bytes : List Byte) : UplinkFrame :=
  let m := (u8 bytes 2).toNat
  if !uplinkWhole bytes then .checkFailure
  else if crc (bytes.take (3 + m)) ≠ u16 bytes (3 + m) then .checkFailure
  else .carries (u8 bytes 0) (readRecord (u8 bytes 1) ((bytes.drop 3).take m))

/-- The type and body of a record (R215). -/
def UplinkRecord.layout : UplinkRecord → Nat × List Byte
  | .malformed => (4, [])
  | .idle => (0, [])
  | .request toggle song part rush => (1, flag8 toggle ++ le32 song ++ [part] ++ flag8 rush)
  | .withdraw toggle song => (2, flag8 toggle ++ le32 song)
  | .join serial => (3, le32 serial)

/-- The bytes of an uplink frame that carries a record from an address (R215). -/
def uplinkBytes (address : Byte) (r : UplinkRecord) : List Byte :=
  padFrame address.toNat r.layout.1 r.layout.2

/-! ## Beginning exchanges (R30 to R32, R38) -/

/-- The pad address of a registry place. -/
def padAddress (i : Fin 8) : Nat := i.val + 1

/-- The registry places in address order. -/
def padPlaces : List (Fin 8) := [0, 1, 2, 3, 4, 5, 6, 7]

/-- The feedback record of a POLL, from the registry and the queue of a state (R32). -/
def State.feedback (s : State) (i : Fin 8) : Feedback :=
  let p := s.pbc.registry.get i
  ⟨p.lastOutcome, p.news, p.newsCounter, ((playingEntry s.rq.entries).map (·.song)).getD 0,
    padFirstPosition s.rq.entries (padAddress i)⟩

/-- The next address a round polls: the lowest ENROLLED one greater than every address already polled in
it (R31). -/
def PadBus.nextPad (p : PadBus) : Option (Fin 8) :=
  padPlaces.find? fun i => decide (p.lastPolled < padAddress i) && (p.registry.get i).state == .enrolled

/-- The Pad Bus Controller with the round ended. -/
def PadBus.roundOver (p : PadBus) : PadBus :=
  { p with exchange := none, roundInFlight := false, roundEnding := false }

/-- The next exchange of the round in flight begun, its POLL formed from `view` (R31, R32, R38): a POLL to
the next address; else the join window in a join round, one whose counter became 0; else the round ends. -/
def State.nextExchange (s : State) (view : State) : State :=
  let p := s.pbc
  match p.nextPad with
  | some i =>
    s.setPbc { p with
      lastPolled := padAddress i
      exchange := some ⟨.pad i, .poll (padAddress i) (view.feedback i), .sending, false⟩ }
  | none =>
    if p.roundCounter = 0 then s.setPbc { p with exchange := some ⟨.joinWindow, .invite, .sending, false⟩ }
    else s.setPbc p.roundOver

/-- Whether a polling round begins at the block completion of number `n`: the bus is enabled, no round is
in flight, and it is at least the second completion since the one the pacing mark names (R30). -/
def PadBus.roundDue (p : PadBus) (n : Nat) : Bool :=
  p.enabled && !p.roundInFlight &&
    match p.pacingMark with
    | none => true
    | some m => decide (m + 2 ≤ n)

/-- The exchange in flight once the last bit of its POLL or INVITE has been sent (R32, R216). -/
def PadBus.downlinkSent (p : PadBus) : PadBus :=
  { p with exchange := p.exchange.map fun ex => if ex.stage = .sending then { ex with stage := .awaiting } else ex }

/-- Whether a POLL or INVITE is being sent. -/
def PadBus.downlinkInFlight (p : PadBus) : Bool := (p.exchange.map fun ex => ex.stage == .sending).getD false

/-- A moment at which the last bit of a POLL or INVITE being sent may have left: whether it has is drawn, since the
table has no row for it (R216, log entry 26). -/
def State.drawDownlink (s : State) : State :=
  if s.pbc.downlinkInFlight then
    let s1 := s.setCounts s.blocks (s.draws + 1)
    if Config.downlinkSent s.draws then s1.setPbc s1.pbc.downlinkSent else s1
  else s

/-- The Pad Bus Controller's part of the block completion of number `n` (R30). `before` is the state the
block completion found and `s` the one the Transport, the Microphone Front End and the Scoring Unit leave;
which of them the round's first POLL is formed from is open (log entry 1). Where no round begins, a POLL or INVITE being
sent may have come to its end (log entry 26). -/
def padBlock (before s : State) (n : Nat) : State :=
  if s.pbc.roundDue n then
    let view := if Config.pollAfterTransport s.draws then s else before
    let s1 := s.setPbc { s.pbc with
      pacingMark := some n
      roundCounter := (s.pbc.roundCounter + 1) % 4
      roundInFlight := true
      roundEnding := false
      lastPolled := 0 }
    (s1.setCounts s.blocks (s.draws + 1)).nextExchange view
  else s.drawDownlink

/-! ## Completing exchanges (R33 to R37, R45, R47, R49) -/

/-- The registry with one record changed. -/
def State.setPad (s : State) (i : Fin 8) (p : PadRecord) : State :=
  s.setPbc { s.pbc with registry := s.pbc.registry.set i p }

/-- The round goes on after an exchange's completion: it ends when the bus was disabled or SOFT_RESET was
taken during the exchange (R47, R49), and otherwise the next exchange begins (R31). -/
def State.afterExchange (s : State) : State :=
  if s.pbc.roundEnding then s.setPbc s.pbc.roundOver
  else (s.setPbc { s.pbc with exchange := none }).nextExchange s

/-- A good completion's strike update (R34). -/
def PadRecord.forgive (p : PadRecord) : PadRecord := { p with strikes := p.strikes - 1 }

/-- A faulty completion's strike update: at 8 the record becomes SILENCED (R34). -/
def PadRecord.strike (p : PadRecord) : PadRecord :=
  if p.strikes + 1 < 8 then { p with strikes := p.strikes + 1 }
  else { p with strikes := 8, state := .silenced }

/-- A faulty completion of the exchange with an ENROLLED address (R33, R34). -/
def State.faultyCompletion (s : State) (i : Fin 8) : State :=
  let p := s.pbc.registry.get i
  (s.setPad i p.strike).raiseIf (p.strike.state == .silenced) .padSilenced

/-- A record with the outcome of the record it answers stored and its expected toggle inverted (R36). -/
def PadRecord.answered (p : PadRecord) (toggle : Bool) (o : PadOutcome) : PadRecord :=
  { p with lastOutcome := ⟨toggle, o⟩, expectedToggle := !p.expectedToggle }

/-- The toggle filter (R35 to R37): a record whose toggle equals the expected one is handed to RQ, whose
outcome is stored; a repeat changes nothing. -/
def State.filterRecord (s : State) (i : Fin 8) (toggle : Bool) (take : State → State × PadOutcome) : State :=
  if toggle = (s.pbc.registry.get i).expectedToggle then
    let r := take s
    r.1.setPad i ((r.1.pbc.registry.get i).answered toggle r.2)
  else s

/-- A good completion of the exchange with an ENROLLED address, carrying a record (R34 to R37). -/
def State.goodCompletion (s : State) (i : Fin 8) (r : UplinkRecord) : State :=
  let s1 := s.setPad i (s.pbc.registry.get i).forgive
  match r with
  | .request toggle song part rush =>
    s1.filterRecord i toggle fun s => takeRequest s (padAddress i) song.toNat part.toNat rush
  | .withdraw toggle song => s1.filterRecord i toggle fun s => takeWithdraw s (padAddress i) song.toNat
  | _ => s1

/-- Whether a frame completes the exchange with an address good: a correct check, that address, and a
well-formed IDLE, REQUEST or WITHDRAW record (R33). -/
def goodReply (i : Fin 8) : UplinkFrame → Option UplinkRecord
  | .checkFailure => none
  | .carries a r =>
    if a.toNat ≠ padAddress i then none
    else
      match r with
      | .idle => some r
      | .request _ _ part _ => if part.toNat ≤ 4 then some r else none
      | .withdraw _ _ => some r
      | .malformed => none
      | .join _ => none

/-! ### The join window (R38, R39) -/

/-- The place of the record that holds a serial (R29). -/
def PadBus.holderOf (p : PadBus) (serial : Word) : Option (Fin 8) :=
  padPlaces.find? fun i => (p.registry.get i).serial == some serial

/-- The lowest FREE place (R39). -/
def PadBus.lowestFree (p : PadBus) : Option (Fin 8) :=
  padPlaces.find? fun i => (p.registry.get i).state == .free

/-- A JOIN carrying a serial taken against the registry: the state it leaves and the address assigned
(R39). -/
def takeJoin (s : State) (serial : Word) : State × Nat :=
  match s.pbc.holderOf serial with
  | some i =>
    let p := s.pbc.registry.get i
    if p.state = .enrolled then
      (s.setPad i { p with expectedToggle := false, lastOutcome := clearedOutcome }, padAddress i)
    else (s, 0)
  | none =>
    match s.pbc.lowestFree with
    | some i =>
      ((s.setPad i ⟨.enrolled, some serial, 0, false, clearedOutcome, none, 0⟩).raise .padJoined, padAddress i)
    | none => (s.raise .padRefused, 0)

/-- The serial of the JOIN the join window takes: a correct check, address 0, a JOIN with a nonzero serial
(R38). -/
def joinSerial : UplinkFrame → Option Word
  | .carries a (.join serial) => if a = 0 ∧ serial ≠ 0 then some serial else none
  | _ => none

/-- The join window's exchange with a frame received whole (R38, R39): a well-formed JOIN is taken and its
ASSIGN sent; anything else completes it with no effect and ends the round. -/
def State.joinFrame (s : State) (ex : Exchange) (f : UplinkFrame) : State :=
  match joinSerial f with
  | some serial =>
    let r := takeJoin s serial
    r.1.setPbc { r.1.pbc with exchange := some { ex with sent := .assign serial r.2, stage := .assigning } }
  | none => s.setPbc s.pbc.roundOver

/-! ### Events of the exchange in flight -/

/-- What the reception of an exchange comes to: silence until the reply timeout, or a frame. -/
inductive Reception where
  | silence
  | received (f : UplinkFrame)
  deriving DecidableEq, Repr

/-- The completion of the exchange in flight (R33, R38, R45, R49). An exchange marked by SOFT_RESET is
discarded and its round ends; one whose record is no longer ENROLLED, its pad having been released, is
discarded and the round goes on. -/
def State.completeExchange (s : State) (ex : Exchange) (r : Reception) : State :=
  if ex.discarded then s.setPbc s.pbc.roundOver
  else
    match ex.target, r with
    | .joinWindow, .silence => s.setPbc s.pbc.roundOver
    | .joinWindow, .received f => s.joinFrame ex f
    | .pad i, r =>
      if (s.pbc.registry.get i).state ≠ .enrolled then s.afterExchange
      else
        match r with
        | .silence => (s.faultyCompletion i).afterExchange
        | .received f =>
          match goodReply i f with
          | some record => (s.goodCompletion i record).afterExchange
          | none => (s.faultyCompletion i).afterExchange

/-- Whether an exchange has not yet begun to receive its uplink frame, nor to send its ASSIGN. -/
def Stage.unanswered : Stage → Bool
  | .sending => true
  | .awaiting => true
  | .receiving _ => false
  | .assigning => false

/-- An uplink frame received whole in an exchange's reception span, so after the last bit of its POLL or INVITE (log
entry 10); when no exchange awaits or receives a frame it is ignored (R216). -/
def uplinkFrame (s : State) (f : UplinkFrame) : State :=
  match s.pbc.exchange with
  | none => s
  | some ex => if ex.stage = .assigning then s else s.completeExchange ex (.received f)

/-- The reply timeout expires, which began at the last bit of the POLL or INVITE (R32, R33, R38). It completes an
exchange in which no uplink frame has begun. -/
def replyTimeout (s : State) : State :=
  match s.pbc.exchange with
  | none => s
  | some ex => if ex.stage.unanswered then s.completeExchange ex .silence else s

/-- More than 60 µs pass inside an uplink frame not yet whole (R216): the frame ends as a check failure. -/
def characterGap (s : State) : State :=
  match s.pbc.exchange with
  | none => s
  | some ex =>
    match ex.stage with
    | .receiving _ => s.completeExchange ex (.received .checkFailure)
    | _ => s

/-- An uplink character in the stage the exchange in flight stands in (R216): it begins the uplink frame, or continues
it, or makes it whole; outside the span between the last bit of an exchange's POLL or INVITE and the whole uplink frame
it is ignored. -/
def takeUplinkByte (s : State) (b : Byte) : State :=
  match s.pbc.exchange with
  | none => s
  | some ex =>
    let add (bytes : List Byte) : State :=
      if uplinkWhole bytes then s.completeExchange ex (.received (readUplink bytes))
      else s.setPbc { s.pbc with exchange := some { ex with stage := .receiving bytes } }
    match ex.stage with
    | .sending => s
    | .awaiting => add [b]
    | .receiving bytes => add (bytes ++ [b])
    | .assigning => s

/-- An uplink character (R216). While a POLL or INVITE is being sent, whether its last bit has left before the character,
and so whether the character is received or ignored, is drawn (log entry 26). -/
def uplinkCharacter (s : State) (b : Byte) : State := takeUplinkByte s.drawDownlink b

/-- The ASSIGN's last bit has left: the join window's exchange completes and the round ends (R38). -/
def assignSent (s : State) : State :=
  match s.pbc.exchange with
  | none => s
  | some ex => if ex.stage = .assigning then s.setPbc s.pbc.roundOver else s

/-- Whether a faulty completion of the exchange in flight brings the strike count to 8 (R34). -/
def silencingDue (s : State) : Bool :=
  match s.pbc.exchange with
  | none => false
  | some ex =>
    match ex.target with
    | .joinWindow => false
    | .pad i =>
      !ex.discarded && (s.pbc.registry.get i).state == .enrolled &&
        decide (8 ≤ (s.pbc.registry.get i).strikes + 1)

/-- A faulty completion by its cause. -/
def faultyBy (s : State) : FaultyCompletion → State
  | .timeout => replyTimeout s
  | .characterGap => characterGap s
  | .frame bytes => uplinkFrame s (readUplink bytes)

/-- The Pad Bus Controller after SOFT_RESET (R49): every news item is removed; an exchange in flight that
is not sending its ASSIGN is to be discarded and its round to end. -/
def PadBus.softReset (p : PadBus) : PadBus :=
  { p with
    registry := p.registry.map fun r => { r with news := none }
    exchange := p.exchange.map fun ex => if ex.stage = .assigning then ex else { ex with discarded := true } }

/-! ## Messages -/

/-- The registry place an address byte names (R43). -/
def padNamed (a : Nat) : Option (Fin 8) := padPlaces.find? fun i => padAddress i == a

/-- PAD_ADMIT (R43). -/
def takePadAdmit (s : State) (a : Nat) : Answer :=
  match padNamed a with
  | none => refuse s .badValue
  | some i =>
    let p := s.pbc.registry.get i
    if p.state ≠ .silenced then refuse s .badState
    else accept (s.setPad i { p with state := .enrolled, strikes := 0 }) []

/-- PAD_RELEASE (R44, R25). -/
def takePadRelease (s : State) (a : Nat) : Answer :=
  match padNamed a with
  | none => refuse s .badValue
  | some i =>
    if (s.pbc.registry.get i).state = .free then refuse s .notFound
    else accept ((s.setPad i freeRecord).releasePad a) []

/-- PAD_READ (R46, R214). -/
def takePadRead (s : State) (a : Nat) : Answer :=
  match padNamed a with
  | none => refuse s .badValue
  | some i =>
    let p := s.pbc.registry.get i
    accept s
      (n8 p.state.value ++ le32 (p.serial.getD 0) ++ n8 p.strikes ++ flag8 p.expectedToggle ++
        outcomeData p.lastOutcome ++ newsData p.news p.newsCounter ++
        n8 (padWaitingCount s.rq.entries a) ++ n8 (padFirstPosition s.rq.entries a))

/-- PAD_BUS (R47). Disabling ends a round in flight at its exchange's completion. -/
def takePadBus (s : State) (enable : Nat) : Answer :=
  match enable with
  | 0 =>
    accept (s.setPbc { s.pbc with enabled := false, roundEnding := s.pbc.roundEnding || s.pbc.roundInFlight })
      (n8 0)
  | 1 => accept (s.setPbc { s.pbc with enabled := true }) (n8 1)
  | _ => refuse s .badValue

end Sys2Proof.Machine
end

