-- ==== Sys2Proof/Machine/Settings.lean ====
section
/-! DEFINITION. The messages of the Attention Unit (R206 to R208), the Microphone Front End (R115, R116),
the Scoring Unit (R120, R137, R138), the Lyric Layout Unit (R162, R163) and the Compositor (R175 to R177,
R180 to R182), with their reply data (R213, R214). -/

namespace Sys2Proof.Machine

/-- The channel or lane a channel byte names, 1..4 (R116, R120, R138). -/
def channelNamed (n : Nat) : Option (Fin 4) := rowNumbers.find? fun i => i.val + 1 == n

/-! ## Attention Unit -/

/-- An attention set as sent: 14 member bits, bits 14 and 15 sent as 0 (R211). -/
def setData (x : AttentionSet) : List Byte := le16 (x.setWidth 16)

/-- The set a 16-bit field names; none when bit 14 or 15, which name no member, is set (R211). -/
def namedSet (x : Half) : Option AttentionSet := if x.getLsbD 14 || x.getLsbD 15 then none else some (x.setWidth 14)

/-- ATTENTION_READ (R206). -/
def takeAttentionRead (s : State) : Answer :=
  let a := s.att
  accept s
    (setData a.latched ++ setData a.mask ++
      n8 ((if a.micAbsentHolds then 1 else 0) + (if a.videoLostHolds then 2 else 0)) ++ flag8 a.noticePending)

/-- ATTENTION_ACK (R207); naming LINK_ERROR clears the link error latch too (R190). -/
def takeAttentionAck (s : State) (x : Half) : Answer :=
  match namedSet x with
  | none => refuse s .badValue
  | some named =>
    let s1 := s.setAtt (s.att.acknowledge named)
    let s2 := if AttentionSet.has named .linkError then s1.setLink { s1.link with linkError := false } else s1
    accept s2 (setData s2.att.latched)

/-- ATTENTION_MASK (R208). -/
def takeAttentionMask (s : State) (x : Half) : Answer :=
  match namedSet x with
  | none => refuse s .badValue
  | some mask => accept (s.setAtt { s.att with mask := mask }) (setData mask)

/-! ## Microphone Front End -/

/-- The qualifier mode a mode byte names: DEBOUNCE = 0, BLANK = 1 (R212). -/
def modeNamed (b : Nat) : Option QualifierMode :=
  match b with
  | 0 => some .debounce
  | 1 => some .blank
  | _ => none

/-- A qualifier mode as sent. -/
def QualifierMode.value : QualifierMode → Nat
  | .debounce => 0
  | .blank => 1

/-- A presence as sent. -/
def Presence.value : Presence → Nat
  | .absent => 0
  | .present => 1

/-- An overload state as sent. -/
def OverloadState.value : OverloadState → Nat
  | .clear => 0
  | .pending => 1
  | .sustained => 2

/-- MIC_SET (R115). -/
def takeMicSet (s : State) (mode count : Nat) (voicing : Int) (clarity : Nat) : Answer :=
  match modeNamed mode with
  | none => refuse s .badValue
  | some q =>
    let m := { s.mfe with
      mode := q, count := clamp 0 7 count, voicing := clampInt (-160) (-20) voicing, clarity := clamp 0 255 clarity }
    accept (s.setMfe m) (n8 q.value ++ n8 m.count ++ i16 m.voicing ++ n16 m.clarity)

/-- MIC_READ (R116, R213). -/
def takeMicRead (s : State) (channel : Nat) : Answer :=
  match channelNamed channel with
  | none => refuse s .badValue
  | some k =>
    let c := s.mfe.channels.get k
    let r := c.latest
    accept s
      (n8 channel ++ n8 r.presence.value ++ i16 r.level ++ n8 r.clarity ++ n16 r.period ++
        n16 (r.pitch.getD 0xFFFF) ++
        n8 ((if r.candidate then 1 else 0) + (if r.voiced then 2 else 0) + (if r.overload then 4 else 0)) ++
        n8 r.mode.value ++ n8 r.count ++ n8 r.stamp.state.value ++ n32 r.stamp.position ++ i8 r.stamp.key ++
        n8 r.stamp.epoch ++ n8 c.changeCount ++ n8 c.candidateRun ++ n8 c.overload.value ++ n8 c.episodes)

/-! ## Scoring Unit -/

/-- The binding a mode byte and a part byte name: OFF = 0, FIXED = 1 with a part 1..4, AUTO = 2; with OFF
and AUTO the part is not examined (R120, R212). -/
def bindingNamed (mode part : Nat) : Option Binding :=
  match mode with
  | 0 => some .off
  | 1 => if 1 ≤ part ∧ part ≤ 4 then some (.fixed part) else none
  | 2 => some .auto
  | _ => none

/-- A binding as sent: mode and part, the part 0 for OFF and AUTO. -/
def Binding.data : Binding → List Byte
  | .off => n8 0 ++ n8 0
  | .fixed p => n8 1 ++ n8 p
  | .auto => n8 2 ++ n8 0

/-- BIND (R120). -/
def takeBind (s : State) (channel mode part : Nat) : Answer :=
  match channelNamed channel, bindingNamed mode part with
  | some k, some b =>
    if s.tr.state ≠ .idle then refuse s .badState
    else accept (s.setSu { s.su with bindings := s.su.bindings.set k b }) (n8 channel ++ b.data)
  | _, _ => refuse s .badValue

/-- The level a level byte names: EASY = 0, NORMAL = 1, STRICT = 2 (R212). -/
def levelNamed (b : Nat) : Option Level :=
  match b with
  | 0 => some .easy
  | 1 => some .normal
  | 2 => some .strict
  | _ => none

/-- SCORE_SET (R137). -/
def takeScoreSet (s : State) (level fold latency : Nat) : Answer :=
  match levelNamed level with
  | none => refuse s .badValue
  | some v =>
    if 1 < fold then refuse s .badValue
    else
      let l := clamp 0 300 latency
      accept (s.setSu { s.su with level := v, fold := fold == 1, latency := l })
        (n8 level ++ n8 v.tolerance ++ n8 fold ++ n16 l)

/-- A lane state as sent. -/
def LaneState.value : LaneState → Nat
  | .idle => 0
  | .armed => 1
  | .scoring => 2
  | .suspended => 3
  | .closed => 4

/-- A note outcome as sent. -/
def NoteOutcome.value : NoteOutcome → Nat
  | .pending => 0
  | .opened => 1
  | .scored => 2
  | .empty => 3
  | .void => 4

/-- LANE_READ (R138, R214). A lane in IDLE reads as cleared (log entry 28). A last closed note that is EMPTY or VOID has no
accuracy, and the rules state no byte for it: the model sends 0 (log entry 24). -/
def takeLaneRead (s : State) (channel : Nat) : Answer :=
  match channelNamed channel with
  | none => refuse s .badValue
  | some k =>
    let l := (s.su.lanes.get k).shown
    let openData : List Byte := match l.openNote with
      | none => n16 0xFFFF ++ n16 0 ++ n32 0 ++ n16 0
      | some o => n16 o.index ++ n16 o.counted ++ n32 o.points ++ n16 o.windowBlocks
    let lastData : List Byte := match l.lastClosed with
      | none => n16 0xFFFF ++ n8 0 ++ n8 0
      | some c => n16 c.index ++ n8 c.outcome.value ++ n8 (c.accuracy.getD 0)
    accept s
      (n8 l.state.value ++ (s.su.bindings.get k).data ++ n8 (l.part.getD 0) ++ n16 l.noteCount ++
        n8 l.tolerance ++ flag8 l.fold ++ n16 l.latency ++ n16 l.cursor ++ openData ++ n8 l.lastEpoch ++
        n32 l.sumAw ++ n32 l.sumW ++ n16 (l.score.getD 0xFFFF) ++ n16 l.scored ++ n16 l.empty ++
        n16 l.void ++ n16 l.pendingCount ++ lastData)

/-! ## Lyric Layout Unit -/

/-- LAYOUT_SET (R162). -/
def takeLayoutSet (s : State) (leadIn linger : Nat) : Answer :=
  let a := clamp 500 10000 leadIn
  let b := clamp 0 3000 linger
  accept (s.setLlu { s.llu with leadIn := a, linger := b }) (n16 a ++ n16 b)

/-- A layout mode as sent. -/
def LayoutMode.value : LayoutMode → Nat
  | .none => 0
  | .lyrics => 1
  | .results => 2

/-- A row slot record of LAYOUT_READ (R163, R214). -/
def rowSlotData (v : LineView) (r : RowSlot) : List Byte :=
  let shown : List Byte := match r.shown with
    | none => n16 0xFFFF ++ List.replicate 25 0
    | some l =>
      n16 l.index ++ n8 (lineAt v.image l.index).mask ++ n32 (lineStart v.image l.index) ++
        n32 (lineEnd v.image l.index) ++ n32 (v.showTick l.index) ++ n32 (v.hideTick l.index) ++ n16 l.x0 ++
        n16 l.width ++ n16 l.glyphs.length ++ n16 (l.glyphs.filter (·.drawn)).length
  shown ++ n16 (r.deferred.getD 0xFFFF) ++ n16 (r.next.getD 0xFFFF) ++ n16 r.late

/-- LAYOUT_READ (R163, R214). -/
def takeLayoutRead (s : State) : Answer :=
  let l := s.llu
  accept s
    (n16 l.leadIn ++ n16 l.linger ++ n16 l.songLeadIn ++ n16 l.songLinger ++ n8 l.mode.value ++
      l.rows.toList.flatMap (rowSlotData s.lineView))

/-! ## Compositor -/

/-- The band code a byte names (R168, R212). -/
def bandNamed (b : Byte) : Option BandCode :=
  match b.toNat with
  | 0 => some .pass
  | 1 => some .lyric
  | 2 => some .dim
  | 3 => some .banner
  | 4 => some .blank
  | _ => none

/-- A band code as sent. -/
def BandCode.value : BandCode → Nat
  | .pass => 0
  | .lyric => 1
  | .dim => 2
  | .banner => 3
  | .blank => 4

/-- A band map as sent, band 0 first. -/
def bandData (m : Oct BandCode) : List Byte := m.toList.flatMap fun c => n8 c.value

/-- BAND_MAP (R180). -/
def takeBandMap (s : State) (codes : Oct Byte) : Answer :=
  if codes.toList.all fun b => (bandNamed b).isSome then
    let m := codes.map fun b => (bandNamed b).getD .pass
    accept (s.setCmp { s.cmp with bands := m }) (bandData m)
  else refuse s .badValue

/-- ROW_PLACE (R180). -/
def takeRowPlace (s : State) (slot band offset : Nat) : Answer :=
  match rowNumbers.find? fun k => k.val == slot with
  | none => refuse s .badValue
  | some k =>
    if 7 < band then refuse s .badValue
    else
      let o := clamp 0 87 offset
      accept (s.setCmp { s.cmp with placement := s.cmp.placement.set k ⟨band, o⟩ }) (n8 band ++ n8 o)

/-- A colour as sent. -/
def RGB.data (c : RGB) : List Byte := [c.red, c.green, c.blue]

/-- The palette entry an entry byte names, 0..7 (R181). -/
def entryNamed (n : Nat) : Option (Fin 8) :=
  ([0, 1, 2, 3, 4, 5, 6, 7] : List (Fin 8)).find? fun i => i.val == n

/-- PALETTE (R181). -/
def takePalette (s : State) (entry : Nat) (c : RGB) : Answer :=
  match entryNamed entry with
  | none => refuse s .badValue
  | some i => accept (s.setCmp { s.cmp with palette := s.cmp.palette.set i c }) (n8 entry ++ RGB.data c)

/-- BANNER_SET (R181). -/
def takeBannerSet (s : State) (window base : Nat) : Answer :=
  if 4084 < base then refuse s .badValue
  else
    let w := clamp 0 60000 window
    accept (s.setCmp { s.cmp with bannerWindow := w, digitBase := base }) (n16 w ++ n16 base)

/-- The number of glyphs held and the bytes used, as sent. -/
def storeData (g : GlyphStore) : List Byte := n16 g.length ++ n32 (glyphBytes g)

/-- GLYPH_LOAD (R175). -/
def takeGlyphLoad (s : State) (code width : Nat) (coverage : List Byte) : Answer :=
  let g := s.cmp.glyphs
  if code < 1 ∨ 4095 < code ∨ width < 4 ∨ 64 < width then refuse s .badValue
  else if glyphCapacity < glyphBytes (glyphRemove g code) + 12 * width then refuse s .full
  else
    let g1 := glyphPut g code ⟨width, unpackCoverage coverage⟩
    accept (s.setCmp { s.cmp with glyphs := g1 }) (flag8 (glyphOf g code).isSome ++ storeData g1)

/-- GLYPH_DROP (R176). -/
def takeGlyphDrop (s : State) (code : Nat) : Answer :=
  let g := s.cmp.glyphs
  if code < 1 ∨ 4095 < code then refuse s .badValue
  else if (glyphOf g code).isNone then refuse s .notFound
  else if s.references code then refuse s .badState
  else
    let g1 := glyphRemove g code
    accept (s.setCmp { s.cmp with glyphs := g1 }) (storeData g1)

/-- GLYPH_CLEAR (R177). -/
def takeGlyphClear (s : State) : Answer :=
  if s.storeInUse then refuse s .badState else accept (s.setCmp { s.cmp with glyphs := [] }) []

/-- A video state as sent. -/
def VideoState.value : VideoState → Nat
  | .unlocked => 0
  | .locked => 1

/-- COMPOSITOR_READ (R182, R214). -/
def takeCompositorRead (s : State) (code : Nat) : Answer :=
  let c := s.cmp
  if 4095 < code then refuse s .badValue
  else
    let held := if code = 0 then none else glyphOf c.glyphs code
    accept s
      (bandData c.bands ++ c.placement.toList.flatMap (fun p => n8 p.band ++ n8 p.offset) ++
        c.palette.toList.flatMap RGB.data ++ n16 c.bannerWindow ++ n16 c.digitBase ++ n8 c.video.value ++
        n8 c.staleCount ++ n8 c.freshRun ++ flag8 c.bannerShown ++ storeData c.glyphs ++ flag8 held.isSome ++
        n8 ((held.map (·.width)).getD 0) ++ flag8 (decide (code ≠ 0) && s.references code))

end Sys2Proof.Machine
end

