-- ==== Sys2Proof/Machine/Link.lean ====
section
/-! DEFINITION. The Control Link (Chapter 9): handing a request to its owner (R192), forming replies (R193),
the receive queue (R191), the transmitter's choice (R196, R205), drops (R190), the receiver (R187 to R189),
the end of a reply or notice (R196), the soft reset (R198), and the frames sent (R211). -/

namespace Sys2Proof.Machine

/-! ## Values and frames sent (R211) -/

/-- A result code as sent. -/
def ResultCode.value : ResultCode → Byte
  | .ok => 0
  | .busy => 1
  | .badKind => 2
  | .badLength => 3
  | .badValue => 4
  | .badState => 5
  | .notFound => 6
  | .full => 7
  | .exists => 8
  | .incomplete => 9

/-- A control-link frame: lead byte, payload length, kind, tag, payload and frame check (R210, R211). -/
def linkFrame (kind tag : Byte) (payload : List Byte) : List Byte :=
  let body := le16 (BitVec.ofNat 16 payload.length) ++ [kind, tag] ++ payload
  [0x5A] ++ body ++ le16 (crc body)

/-- A reply's frame: the payload is the summary byte, the result code and the reply data (R211). -/
def Reply.frame (r : Reply) : List Byte := linkFrame r.kind r.tag ([r.summary, r.code.value] ++ r.data)

/-- A notice's frame: kind 0xE0, tag 0, the summary byte, the latched set and the mask set (R205, R211). -/
def Notice.frame (n : Notice) : List Byte := linkFrame 0xE0 0 ([n.summary] ++ setData n.latched ++ setData n.mask)

/-- The frame the part is sending on the control link, if any; nothing while the reset line is held low
(R196, R218). -/
def State.sending (s : State) : Option (List Byte) :=
  if s.resetLow then none
  else
    match s.link.transmitter with
    | .idle => none
    | .reply => s.link.formed.map Reply.frame
    | .notice n => some n.frame

/-! ## Taking a message (R192, R193) -/

/-- A request taken by its owning block as one arrival (R192). -/
def handle (s : State) : Request → Answer
  | .echo b => accept s b
  | .softReset => accept s []
  | .attentionRead => takeAttentionRead s
  | .attentionAck x => takeAttentionAck s x
  | .attentionMask x => takeAttentionMask s x
  | .resolve i v p t => takeResolve s i.toNat v.toNat p.toNat (t.map BitVec.toNat)
  | .queueAdd n l p => takeQueueAdd s n.toNat l.toNat p.toNat
  | .queueMove i l p => takeQueueMove s i.toNat l.toNat p.toNat
  | .queueCancel i => takeQueueCancel s i.toNat
  | .queueRead f c => takeQueueRead s f.toNat c.toNat
  | .historyRead i => takeHistoryRead s i.toNat
  | .policy r l => takePolicy s r.toNat l.toNat
  | .padAdmit a => takePadAdmit s a.toNat
  | .padRelease a => takePadRelease s a.toNat
  | .padRead a => takePadRead s a.toNat
  | .padBus e => takePadBus s e.toNat
  | .slotOpen n i z => takeSlotOpen s n.toNat i.toNat z.toNat
  | .slotData n o d => takeSlotData s n.toNat o.toNat d
  | .slotSeal n => takeSlotSeal s n.toNat
  | .slotDiscard n => takeSlotDiscard s n.toNat
  | .slotRead n => takeSlotRead s n.toNat
  | .start i => takeStart s i.toNat
  | .sync p => takeSync s p.toNat
  | .pause => takePause s
  | .resume => takeResume s
  | .rate r => takeRate s r.toNat
  | .key k => takeKey s k.toInt
  | .stop f => takeStop s f.toNat
  | .transportSet a y e h r => takeTransportSet s a.toNat y.toNat e.toNat h.toNat r.toNat
  | .transportRead => takeTransportRead s
  | .micSet m q v c => takeMicSet s m.toNat q.toNat v.toInt c.toNat
  | .micRead c => takeMicRead s c.toNat
  | .bind c m p => takeBind s c.toNat m.toNat p.toNat
  | .scoreSet l f x => takeScoreSet s l.toNat f.toNat x.toNat
  | .laneRead c => takeLaneRead s c.toNat
  | .layoutSet a b => takeLayoutSet s a.toNat b.toNat
  | .layoutRead => takeLayoutRead s
  | .bandMap c => takeBandMap s c
  | .rowPlace k b o => takeRowPlace s k.toNat b.toNat o.toNat
  | .palette e c => takePalette s e.toNat c
  | .bannerSet w b => takeBannerSet s w.toNat b.toNat
  | .glyphLoad c w v => takeGlyphLoad s c.toNat w.toNat v
  | .glyphDrop c => takeGlyphDrop s c.toNat
  | .glyphClear => takeGlyphClear s
  | .compositorRead c => takeCompositorRead s c.toNat

/-- What taking a message answers: BAD_KIND, BAD_LENGTH, or its owner's answer (R192). -/
def answerTo (s : State) (m : Message) : Answer :=
  match readMessage m.kind m.payload with
  | .badKind => refuse s .badKind
  | .badLength => refuse s .badLength
  | .request r => handle s r

/-- A reply's kind: the message's kind plus 0x80, and 0xFF for a message of kind 0x60 or of kind 0x80 or
above (R193). -/
def replyKind (kind : Byte) : Byte := if kind = 0x60 ∨ 0x80 ≤ kind then 0xFF else kind + 0x80

/-- The reply formed to a message from its answer, its summary byte read at this moment (R193). -/
def formReply (m : Message) (a : Answer) : Reply := ⟨replyKind m.kind, m.tag, a.state.summary, a.code, a.data⟩

/-- The state with a reply formed. -/
def State.withReply (s : State) (r : Reply) : State := s.setLink { s.link with formed := some r }

/-- A message taken: answered, and its reply formed in the same arrival (R192, R193). -/
def takeMessage (s : State) (m : Message) : State :=
  let a := answerTo s m
  a.state.withReply (formReply m a)

/-- The oldest message of the receive queue taken, when there is one and no formed reply is unsent
(R192). -/
def takeNext (s : State) : State :=
  match s.link.formed, s.link.queue with
  | none, m :: _ => takeMessage s m
  | _, _ => s

/-! ## The transmitter (R196, R205) -/

/-- The notice as the Attention Unit forms it (R205). -/
def State.noticeNow (s : State) : Notice := ⟨s.summary, s.att.latched, s.att.mask⟩

/-- The transmitter's choice (R196): when it is IDLE, a pending notice is begun and notice pending cleared;
else an unsent formed reply is begun. -/
def chooseNext (s : State) : State :=
  match s.link.transmitter with
  | .idle =>
    if s.att.noticePending then
      (s.setAtt { s.att with noticePending := false }).setLink
        { s.link with transmitter := .notice s.noticeNow }
    else if s.link.formed.isSome then s.setLink { s.link with transmitter := .reply }
    else s
  | _ => s

/-! ## Drops and the receive queue (R190, R191) -/

/-- A drop at the link (R190). -/
def dropMessage (s : State) : State := (s.setLink { s.link with linkError := true }).raise .linkError

/-- A good message offered to the receive queue: placed at its tail and, when no formed reply is unsent, the
oldest taken at once; dropped when the queue holds 4 (R191, R192). -/
def offer (s : State) (m : Message) : State :=
  if s.link.queue.length < 4 then takeNext (s.setLink { s.link with queue := s.link.queue ++ [m] })
  else dropMessage s

/-! ## The receiver (R187 to R189) -/

/-- The receiver's state and gap timer replaced. -/
def State.setReceiver (s : State) (r : Receiver) (gap : Bool) : State :=
  s.setLink { s.link with receiver := r, gapRunning := gap }

/-- The declared payload length of a frame in progress, its bytes after the lead byte (R188). -/
def declaredLength (bytes : List Byte) : Nat := (u16 bytes 0).toNat

/-- A complete frame judged: its bytes after the lead byte and its character fault mark (R188). -/
def judgeFrame (s : State) (bytes : List Byte) (faulted : Bool) : State :=
  let n := declaredLength bytes
  if faulted then dropMessage s
  else if crc (bytes.take (4 + n)) ≠ u16 bytes (4 + n) then dropMessage s
  else offer s ⟨u8 bytes 2, u8 bytes 3, (bytes.drop 4).take n⟩

/-- Whether a byte in HUNT is a wrong lead byte (R187). -/
def wrongLead (b : Byte) (faulted : Bool) : Bool := b != 0x5A || faulted

/-- A byte received (R187, R188). -/
def receiveByte (s : State) (b : Byte) (faulted : Bool) : State :=
  match s.link.receiver with
  | .hunt =>
    if wrongLead b faulted then (dropMessage s).setReceiver .discard true
    else s.setReceiver (.frame [] false) true
  | .discard => s.setReceiver .discard true
  | .frame bytes f =>
    let bytes := bytes ++ [b]
    let f := f || faulted
    if bytes.length = 2 ∧ 1100 < declaredLength bytes then (dropMessage s).setReceiver .discard true
    else if 2 ≤ bytes.length ∧ bytes.length = declaredLength bytes + 6 then
      judgeFrame (s.setReceiver .hunt false) bytes f
    else s.setReceiver (.frame bytes f) true

/-- Whether a byte would be the last of the frame in progress (R188). -/
def endsFrame (s : State) (b : Byte) : Bool :=
  match s.link.receiver with
  | .frame bytes _ =>
    decide (2 ≤ (bytes ++ [b]).length ∧ (bytes ++ [b]).length = declaredLength (bytes ++ [b]) + 6)
  | _ => false

/-- Whether a byte would be a second length byte declaring more than 1,100 (R188). -/
def declaresTooMuch (s : State) (b : Byte) : Bool :=
  match s.link.receiver with
  | .frame bytes _ => decide ((bytes ++ [b]).length = 2 ∧ 1100 < declaredLength (bytes ++ [b]))
  | _ => false

/-- The gap timer expires (R189); stopped, it does not. -/
def gapExpires (s : State) : State :=
  match s.link.receiver with
  | .hunt => s
  | .frame _ _ => (dropMessage s).setReceiver .hunt false
  | .discard => s.setReceiver .hunt false

/-! ## The soft reset (R198) -/

/-- Every block's soft-reset values: RQ (R27), PBC (R49), SS (R70), TR (R100), MFE (R118), SU (R140), LLU
(R165), CMP (R184) and AU (R209). -/
def Transport.softReset (t : Transport) : Transport :=
  { t with
    state := .idle, t := 0, duration := 0, slew := 0, syncTimer := 0, settleCount := 0, holdCount := 0
    cueStallCount := 0, resultCountdown := 0, finish := none, epoch := 0, jumpCount := 0 }

/-- A slot after SOFT_RESET (R70). -/
def Slot.softReset (x : Slot) : Slot := { x.emptied with fault := ⟨.none, .none, 0⟩ }

/-- The soft reset, at the end of its reply (R198): every block takes its soft-reset values, and the
Control Link empties its receive queue and clears the link error latch. -/
def softResetEffect (s : State) : State :=
  { s with
    rq := { s.rq with entries := [], history := [] }
    pbc := s.pbc.softReset
    slotA := s.slotA.softReset
    slotB := s.slotB.softReset
    tr := s.tr.softReset
    su := s.su.cleared
    llu := s.llu.softReset
    att := s.att.softReset
    link := { s.link with queue := [], linkError := false } }

/-! ## The end of a reply or notice (R196) -/

/-- Whether a reply is the OK reply of a SOFT_RESET. -/
def Reply.endsInReset (r : Reply) : Bool := r.kind == 0x82 && r.code == .ok

/-- The end of the reply being sent (R196): the answered message leaves the receive queue and the formed
reply becomes absent; the soft reset is applied when the reply was a SOFT_RESET's; the transmitter becomes
IDLE and the next waiting message is taken. -/
def replyEnds (s : State) : State :=
  match s.link.transmitter with
  | .reply =>
    let s1 := s.setLink { s.link with transmitter := .idle, formed := none, queue := s.link.queue.tail }
    let s2 := if (s.link.formed.map Reply.endsInReset).getD false then softResetEffect s1 else s1
    takeNext s2
  | _ => s

/-- The end of the notice being sent (R196). -/
def noticeEnds (s : State) : State :=
  match s.link.transmitter with
  | .notice _ => s.setLink { s.link with transmitter := .idle }
  | _ => s

end Sys2Proof.Machine
end

