-- ==== Sys2Proof/Machine/Mic.lean ====
section
/-! DEFINITION. The Microphone Front End (Chapter 5): presence (R104), level (R106), clarity and period
(R107, R108), pitch (R109), voicing (R110 to R112) and overload (R113, R114), worked out exactly on whole
numbers, and the block records of a block completion (R102). -/

namespace Sys2Proof.Machine

/-- A sample's value: 16-bit two's complement (5.1). -/
def sampleValue (x : Half) : Int := x.toInt

/-! ## Level (R106) -/

/-- The sum of the squared values of a run of samples. -/
def energy (l : List Int) : Nat := (l.map fun x => x.natAbs * x.natAbs).sum

/-- The level of a block whose 480 samples have sum of squares `e`: floor(40·log10(rms/32,767)) clamped
into −192..0. With rms² = e/480, the level −m is reached when (480·32,767²)^20 ≤ e^20·10^m. -/
def levelOf (e : Nat) : Int :=
  -(min 192 (leastFrom (fun m => decide ((480 * 32767 * 32767) ^ 20 ≤ e ^ 20 * 10 ^ m)) 193 0) : Nat)

/-! ## Similarity, clarity and period (R107, R108) -/

/-- The sum of the products of two runs taken pairwise. -/
def dotProduct (a b : List Int) : Int := (List.zipWith (· * ·) a b).sum

/-- A similarity s(τ) = num / √(Σa²·den), Σa² being the same for all lags of a block and `den` the Σb² of
the lag; 0/1 stands for the similarity of 0 that R107 gives when a sum of squares is 0. -/
structure Similarity where
  num : Int
  den : Nat
  deriving DecidableEq, Repr

/-- Sequence a of R107: samples 960 to 1,919 of the window. -/
def sequenceA (w : List Int) : List Int := w.drop 960

/-- Sequence b of R107 at lag τ: samples 960 − τ to 1,919 − τ. -/
def sequenceB (w : List Int) (lag : Nat) : List Int := (w.drop (960 - lag)).take 960

/-- The similarity at a lag, of a window whose Σa² is not 0 (R107). -/
def similarity (w : List Int) (lag : Nat) : Similarity :=
  let b := sequenceB w lag
  let bb := energy b
  if bb = 0 then ⟨0, 1⟩ else ⟨dotProduct (sequenceA w) b, bb⟩

/-- The square of a number with the number's sign. -/
def signedSquare (x : Int) : Int := x * x.natAbs

/-- Whether one similarity is less than another: num/√den compared by signed squares. -/
def Similarity.below (x y : Similarity) : Bool :=
  decide (signedSquare x.num * y.den < signedSquare y.num * x.den)

/-- The greatest similarity over the lags 27 to 873, at the smallest lag that has it (R107). -/
def bestLag (w : List Int) : Nat × Similarity :=
  ((List.range 847).map fun k => (k + 27, similarity w (k + 27))).foldl
    (fun best x => if best.2.below x.2 then x else best) (27, similarity w 27)

/-- The clarity of a greatest similarity greater than 0: floor(255·s) (R107). -/
def clarityOf (aa : Nat) (x : Similarity) : Nat :=
  greatestUpTo (fun c => decide (c * c * aa * x.den ≤ 255 * 255 * (x.num.natAbs * x.num.natAbs))) 255

/-- The sign of √x + √y − √z for whole x, y, z: −1, 0 or 1. -/
def rootSignTwo (x y z : Nat) : Int :=
  if z < x + y then 1
  else
    let d := z - (x + y)
    if d * d < 4 * x * y then 1 else if d * d = 4 * x * y then 0 else -1

/-- The sign of the sum of the signed square roots of three whole numbers: −1, 0 or 1. -/
def rootSign (x y z : Int) : Int :=
  match [x, y, z].filter (fun v => decide (0 < v)), [x, y, z].filter (fun v => decide (v < 0)) with
  | [], [] => 0
  | _, [] => 1
  | [], _ => -1
  | [p], [n] => (p + n).sign
  | [p, q], n :: _ => rootSignTwo p.natAbs q.natAbs n.natAbs
  | [p], n :: k :: _ => -rootSignTwo n.natAbs k.natAbs p.natAbs
  | _, _ => 1

/-- The sign of a·x + b·y + c·z for three similarities of one block. -/
def combinationSign (a b c : Int) (x y z : Similarity) : Int :=
  rootSign (signedSquare (a * x.num) * (y.den * z.den)) (signedSquare (b * y.num) * (x.den * z.den))
    (signedSquare (c * z.num) * (x.den * y.den))

/-- floor(16·δ + 1/2) of R108, from the similarities at τ − 1, τ and τ + 1: 0 when the denominator is 0;
else the greatest k of −8..8 with 16·δ + 1/2 ≥ k, which, the denominator being negative, says
(17 − 2k)·s₋ + (4k − 2)·s₀ − (15 + 2k)·s₊ ≤ 0. -/
def refinement (below at_ above : Similarity) : Int :=
  if combinationSign 1 (-2) 1 below at_ above = 0 then 0
  else
    (greatestUpTo (fun j =>
      let k : Int := (j : Int) - 8
      decide (combinationSign (17 - 2 * k) (4 * k - 2) (-(15 + 2 * k)) below at_ above ≤ 0)) 16 : Nat) - 8

/-- The period in 1/16 sample of a best match at lag τ; the end lags take no refinement (R108). -/
def periodOf (w : List Int) (lag : Nat) : Nat :=
  if lag = 27 ∨ lag = 873 then 16 * lag
  else (16 * (lag : Int) + refinement (similarity w (lag - 1)) (similarity w lag) (similarity w (lag + 1))).toNat

/-- A block's clarity and period from its analysis window (R107, R108). A window whose Σa² is 0 has every
similarity 0, so clarity 0 and no period. -/
def analyse (w : List Int) : Nat × Nat :=
  let aa := energy (sequenceA w)
  if aa = 0 then (0, 0)
  else
    let best := bestLag w
    if best.2.num ≤ 0 then (0, 0) else (clarityOf aa best.2, periodOf w best.1)

/-! ## Pitch (R109) -/

/-- The pitch of a period: floor(192·log2(768,000/(55·period)) + 1/2), the greatest p with
2^(2p)·(55·period)^384 ≤ 2·768,000^384; absent outside 437..13,963. -/
def pitchOf (period : Nat) : Option Nat :=
  if 437 ≤ period ∧ period ≤ 13963 then
    some (greatestUpTo
      (fun p => decide (2 ^ (2 * p) * (55 * period) ^ 384 ≤ 2 * 768000 ^ 384)) 960)
  else none

/-! ## Presence, voicing and overload -/

/-- A channel's presence and change count after a reading of its link line (R104). -/
def presenceStep (c : Channel) (linkHigh : Bool) : Presence × Nat :=
  let reading : Presence := if linkHigh then .present else .absent
  if reading = c.presence then (c.presence, 0)
  else if c.changeCount + 1 = 5 then (reading, 0)
  else (c.presence, c.changeCount + 1)

/-- Whether a block is an overload candidate: at least 8 samples of magnitude 32,700 or more (R113). -/
def overloadCandidate (samples : List Int) : Bool :=
  decide (8 ≤ (samples.filter fun x => decide (32700 ≤ x.natAbs)).length)

/-- The overload state after a block (R114). -/
def overloadStep (before : OverloadState) (candidate : Bool) : OverloadState :=
  if candidate then (if before = .clear then .pending else .sustained) else .clear

/-- A channel's record after a block completion, its latest block record being the one made (R102). -/
def Channel.block (c : Channel) (m : MicFrontEnd) (stamp : Stamp) (input : ChannelInput) : Channel :=
  let window := (c.window ++ input.samples.toList).drop 480
  let p := presenceStep c input.linkHigh
  let values := input.samples.toList.map sampleValue
  let level := levelOf (energy values)
  let a := analyse (window.map sampleValue)
  let pitch := pitchOf a.2
  let candidate := decide (m.voicing ≤ level) && decide (m.clarity ≤ a.1) && pitch.isSome
  let run := if candidate then min 8 (c.candidateRun + 1) else 0
  let voiced := match m.mode with
    | .debounce => decide (m.count + 1 ≤ run)
    | .blank => candidate
  let clips := overloadCandidate values
  { presence := p.1
    changeCount := p.2
    window := window
    candidateRun := run
    overload := overloadStep c.overload clips
    episodes := if clips ∧ c.overload = .pending then min 255 (c.episodes + 1) else c.episodes
    latest := ⟨p.1, level, a.1, a.2, pitch, candidate, voiced, clips, m.mode, m.count, stamp⟩ }

/-- Whether a channel's presence becomes ABSENT from one record to the next (R105). -/
def becameAbsent (before after : Channel) : Bool := before.presence == .present && after.presence == .absent

/-- Whether at least one channel is ABSENT: the MIC_ABSENT condition (R105). -/
def anyAbsent (q : Quad Channel) : Bool := q.toList.any fun c => c.presence == .absent

/-- The Microphone Front End's part of a block completion (R102): four block records carrying the
stamp, the raises of R105 and R114, and the MIC_ABSENT condition given to the Attention Unit. -/
def micBlock (s : State) (stamp : Stamp) (input : BlockInput) : State :=
  let after := s.mfe.channels.mapIdx fun i c => c.block s.mfe stamp (input.get i)
  let absent := ([0, 1, 2, 3] : List (Fin 4)).any fun i => becameAbsent (s.mfe.channels.get i) (after.get i)
  let overloaded := after.toList.any fun c => c.overload == .sustained
  let s1 := s.setMfe { s.mfe with channels := after }
  let s2 := s1.setAtt { s1.att with micAbsentHolds := anyAbsent after }
  (s2.raiseIf absent .micAbsent).raiseIf overloaded .micOverload

end Sys2Proof.Machine
end

