-- ==== Sys2Proof/Machine/Events.lean ====
section
/-! DEFINITION. What the meanings of the commands share: an arrival with the transmitter's choice at its end
(0.3, R196), a message on the control link (R191, R192), the block completion (R102), and the outcome of a
command that does nothing while the reset line is held low (R218, log entry 4). -/

namespace Sys2Proof.Machine

/-- What a command answers. -/
abbrev Result := Host.Outcome State Fault Refusal

/-- An arrival: its effect, and then the transmitter's choice among what the effect left to be sent (R196).
While the reset line is held low nothing arrives (log entry 4). -/
def arrival (effect : State → State) (s : State) : Result :=
  .next (if s.resetLow then s else chooseNext (effect s))

/-- An arrival of a named occurrence: when its condition does not stand, the occurrence has not taken place
and nothing changes (log entry 6). -/
def occurrence (due : Bool) (effect : State → State) (s : State) : Result :=
  if due then arrival effect s else .next s

/-- A message sent by the host with a correct check and no character fault: offered to the receive queue
(R191). One whose payload length is above 1,100 is dropped at its second length byte (R188). -/
def State.deliver (s : State) (m : Message) : State :=
  if 1100 < m.payload.length then (dropMessage s).setReceiver .discard true else offer s m

/-- The message that carries a request with a tag (R212). -/
def Request.message (r : Request) (tag : Byte) : Message := ⟨r.kind, tag, r.payload⟩

/-- A request sent by the host with its tag. -/
def sendRequest (tag : Byte) (r : Request) (s : State) : Result := arrival (·.deliver (r.message tag)) s

/-! ## The block completion -/

/-- The first part of a block completion: the Transport's steps, the stamp, the four block records that carry it, and the
lanes' taking of the records (R80, R102, R125). -/
def recordsTaken (input : BlockInput) (s : State) : State :=
  let s1 := transportBlock s
  scoringBlock (micBlock s1 s1.tr.stamp input)

/-- A block completion: the Transport's steps, the stamp, the four block records, the lanes, and the pad
bus's pacing, in the order of R80 and R102; the completions are counted by the model. The block at which RESULT is
entered is stamped RESULT with the clock as it stopped, whatever the result interval (R80, R94); the finish of a result
interval of 0 follows once the lanes have taken that block's records (R92; log entry 23). -/
def blockEvent (input : BlockInput) (s : State) : State :=
  let n := s.blocks + 1
  let s1 := s.tr.finishOwed (recordsTaken input s)
  let s2 := padBlock s s1 n
  s2.setCounts n s2.draws

/-- Whether a block completion with this input changes some channel's presence (R104). -/
def State.presenceChanges (s : State) (input : BlockInput) : Bool :=
  rowNumbers.any fun i =>
    let c := s.mfe.channels.get i
    (presenceStep c (input.get i).linkHigh).1 != c.presence

/-! ## The control link's lines -/

/-- A character of the control link received (R187, R188). -/
def characterEvent (byte : Byte) (faulted : Bool) (s : State) : Result := arrival (receiveByte · byte faulted) s

/-- Whether a character would be a wrong lead byte: the receiver is in HUNT, and the character is no
fault-free 0x5A (R187). -/
def State.wrongLeadDue (s : State) (byte : Byte) (faulted : Bool) : Bool :=
  s.link.receiver == .hunt && wrongLead byte faulted

/-! ## The pad bus -/

/-- A record of a pad received whole with a correct check, from an address (R33, R215). -/
def recordEvent (address : Byte) (r : UplinkRecord) (s : State) : Result :=
  arrival (uplinkFrame · (.carries address r)) s

/-! ## Video -/

/-- A video frame start (R167). -/
def frameEvent (s : State) : Result := arrival frameStart s

/-- The Compositor with an input frame received whole; one that is not valid changes nothing (R178). -/
def Compositor.inputCompleted (c : Compositor) (f : InputFrame) : Compositor :=
  if validInput f then { c with heldFrame := some f, freshInput := true } else c

/-! ## The pins -/

/-- The part with every block in its power-on values, the reset line as given, the commands still waiting kept, and the
free values already drawn not drawn again (R218). -/
def State.poweredUp (s : State) (resetLow : Bool) : State :=
  { State.reset with resetLow := resetLow, pending := s.pending, draws := s.draws }

/-- The pad bus's driver enable pin: driven while the part sends a POLL, an INVITE or an ASSIGN, never while the
reset line is held low (R216, R218). -/
def State.padDriver (s : State) : Bool :=
  !s.resetLow && (s.pbc.exchange.map fun ex => ex.stage == .sending || ex.stage == .assigning).getD false

end Sys2Proof.Machine
end

