-- ==== Sys2Proof/Machine/Messages.lean ====
section
/-! DEFINITION. The commands that are messages of the host: each is its request sent with its tag (R191,
R192, R212); what its owner does with it stands in `handle`. -/

namespace Sys2Proof.Machine

/-- ECHO (R197). -/
def execEcho (tag : Byte) (bytes : List Byte) (s : State) : Result := sendRequest tag (.echo bytes) s

/-- SOFT_RESET (R198). -/
def execSoftReset (tag : Byte) (s : State) : Result := sendRequest tag .softReset s

/-- ATTENTION_READ (R206). -/
def execAttentionRead (tag : Byte) (s : State) : Result := sendRequest tag .attentionRead s

/-- ATTENTION_ACK (R207). -/
def execAttentionAck (tag : Byte) (named : Half) (s : State) : Result :=
  sendRequest tag (.attentionAck named) s

/-- ATTENTION_MASK (R208). -/
def execAttentionMask (tag : Byte) (mask : Half) (s : State) : Result :=
  sendRequest tag (.attentionMask mask) s

/-- RESOLVE (R13) with verdict FOUND. -/
def execResolveFound (tag entryId parts : Byte) (title : List Half) (s : State) : Result :=
  sendRequest tag (.resolve entryId 1 parts title) s

/-- RESOLVE (R14) with verdict ABSENT. -/
def execResolveAbsent (tag entryId parts : Byte) (title : List Half) (s : State) : Result :=
  sendRequest tag (.resolve entryId 0 parts title) s

/-- QUEUE_ADD (R15). -/
def execQueueAdd (tag : Byte) (song : Word) (lane lanePos : Byte) (s : State) : Result :=
  sendRequest tag (.queueAdd song lane lanePos) s

/-- QUEUE_MOVE (R16). -/
def execQueueMove (tag entryId lane lanePos : Byte) (s : State) : Result :=
  sendRequest tag (.queueMove entryId lane lanePos) s

/-- QUEUE_CANCEL (R17). -/
def execQueueCancel (tag entryId : Byte) (s : State) : Result := sendRequest tag (.queueCancel entryId) s

/-- QUEUE_READ (R18). -/
def execQueueRead (tag first count : Byte) (s : State) : Result :=
  sendRequest tag (.queueRead first count) s

/-- HISTORY_READ (R19). -/
def execHistoryRead (tag index : Byte) (s : State) : Result := sendRequest tag (.historyRead index) s

/-- POLICY (R20). -/
def execPolicy (tag rush limit : Byte) (s : State) : Result := sendRequest tag (.policy rush limit) s

/-- PAD_ADMIT (R43). -/
def execPadAdmit (tag address : Byte) (s : State) : Result := sendRequest tag (.padAdmit address) s

/-- PAD_RELEASE (R44). -/
def execPadRelease (tag address : Byte) (s : State) : Result := sendRequest tag (.padRelease address) s

/-- PAD_READ (R46). -/
def execPadRead (tag address : Byte) (s : State) : Result := sendRequest tag (.padRead address) s

/-- PAD_BUS (R47). -/
def execPadBus (tag enable : Byte) (s : State) : Result := sendRequest tag (.padBus enable) s

/-- SLOT_OPEN (R53). -/
def execSlotOpen (tag slot entryId : Byte) (size : Word) (s : State) : Result :=
  sendRequest tag (.slotOpen slot entryId size) s

/-- SLOT_DATA (R54). -/
def execSlotData (tag slot : Byte) (offset : Word) (data : List Byte) (s : State) : Result :=
  sendRequest tag (.slotData slot offset data) s

/-- SLOT_SEAL (R55). -/
def execSlotSeal (tag slot : Byte) (s : State) : Result := sendRequest tag (.slotSeal slot) s

/-- SLOT_DISCARD (R66). -/
def execSlotDiscard (tag slot : Byte) (s : State) : Result := sendRequest tag (.slotDiscard slot) s

/-- SLOT_READ (R67). -/
def execSlotRead (tag slot : Byte) (s : State) : Result := sendRequest tag (.slotRead slot) s

/-- START (R75). -/
def execStart (tag entryId : Byte) (s : State) : Result := sendRequest tag (.start entryId) s

/-- SYNC (R82). -/
def execSync (tag : Byte) (position : Word) (s : State) : Result := sendRequest tag (.sync position) s

/-- PAUSE (R89). -/
def execPause (tag : Byte) (s : State) : Result := sendRequest tag .pause s

/-- RESUME (R90). -/
def execResume (tag : Byte) (s : State) : Result := sendRequest tag .resume s

/-- RATE (R91). -/
def execRate (tag : Byte) (rate : Half) (s : State) : Result := sendRequest tag (.rate rate) s

/-- KEY (R91). -/
def execKey (tag shift : Byte) (s : State) : Result := sendRequest tag (.key shift) s

/-- STOP (R93). -/
def execStop (tag showResult : Byte) (s : State) : Result := sendRequest tag (.stop showResult) s

/-- TRANSPORT_SET (R97). -/
def execTransportSet (tag auto : Byte) (syncTimeout settle holdLimit resultInterval : Half)
    (s : State) : Result :=
  sendRequest tag (.transportSet auto syncTimeout settle holdLimit resultInterval) s

/-- TRANSPORT_READ (R98). -/
def execTransportRead (tag : Byte) (s : State) : Result := sendRequest tag .transportRead s

/-- MIC_SET (R115). -/
def execMicSet (tag mode count : Byte) (voicing clarity : Half) (s : State) : Result :=
  sendRequest tag (.micSet mode count voicing clarity) s

/-- MIC_READ (R116). -/
def execMicRead (tag channel : Byte) (s : State) : Result := sendRequest tag (.micRead channel) s

/-- BIND (R120). -/
def execBind (tag channel mode part : Byte) (s : State) : Result :=
  sendRequest tag (.bind channel mode part) s

/-- SCORE_SET (R137). -/
def execScoreSet (tag level fold : Byte) (latency : Half) (s : State) : Result :=
  sendRequest tag (.scoreSet level fold latency) s

/-- LANE_READ (R138). -/
def execLaneRead (tag channel : Byte) (s : State) : Result := sendRequest tag (.laneRead channel) s

/-- LAYOUT_SET (R162). -/
def execLayoutSet (tag : Byte) (leadIn linger : Half) (s : State) : Result :=
  sendRequest tag (.layoutSet leadIn linger) s

/-- LAYOUT_READ (R163). -/
def execLayoutRead (tag : Byte) (s : State) : Result := sendRequest tag .layoutRead s

/-- BAND_MAP (R180). -/
def execBandMap (tag : Byte) (codes : Oct Byte) (s : State) : Result := sendRequest tag (.bandMap codes) s

/-- ROW_PLACE (R180). -/
def execRowPlace (tag slot band offset : Byte) (s : State) : Result :=
  sendRequest tag (.rowPlace slot band offset) s

/-- PALETTE (R181). -/
def execPalette (tag entry : Byte) (colour : RGB) (s : State) : Result :=
  sendRequest tag (.palette entry colour) s

/-- BANNER_SET (R181). -/
def execBannerSet (tag : Byte) (window digitBase : Half) (s : State) : Result :=
  sendRequest tag (.bannerSet window digitBase) s

/-- GLYPH_LOAD (R175). -/
def execGlyphLoad (tag : Byte) (code : Half) (width : Byte) (coverage : List Byte) (s : State) : Result :=
  sendRequest tag (.glyphLoad code width coverage) s

/-- GLYPH_DROP (R176). -/
def execGlyphDrop (tag : Byte) (code : Half) (s : State) : Result := sendRequest tag (.glyphDrop code) s

/-- GLYPH_CLEAR (R177). -/
def execGlyphClear (tag : Byte) (s : State) : Result := sendRequest tag .glyphClear s

/-- COMPOSITOR_READ (R182). -/
def execCompositorRead (tag : Byte) (code : Half) (s : State) : Result :=
  sendRequest tag (.compositorRead code) s

/-- UNKNOWN_KIND (R192): a message of a kind outside the kind table. -/
def execUnknownKind (kind tag : Byte) (payload : List Byte) (s : State) : Result :=
  arrival (·.deliver ⟨kind, tag, payload⟩) s

end Sys2Proof.Machine
end

