-- ==== Sys2Proof/Machine/Occurrences.lean ====
section
/-! DEFINITION. The commands that are no message: the pins (R218), the characters and silences of the
control link (R187 to R189), the ends of what the part sends (R196, R205), validation completion (R64), the
block completion and its named occurrences (R30, R77, R78, R86 to R88, R95, R102, R104), the pad bus (R33 to
R39, R216) and the video path (R167, R178). -/

namespace Sys2Proof.Machine

/-! ## The pins (R218) -/

/-- POWER_UP (R218): every block takes its power-on values. The supplies do not move the reset line: one held low
stays low, and the outputs muted. -/
def execPowerUp (s : State) : Result := .next (s.poweredUp s.resetLow)

/-- RESET_ASSERT (R218): the line is low; the part sends nothing, its pad-bus driver is released and its
video output black (`State.sending`, `State.padDriver`, `State.outputPixel`). -/
def execResetAssert (s : State) : Result := .next { s with resetLow := true }

/-- RESET_RELEASE (R218): the line, held low for at least 10 µs, is released, and every block takes its
power-on values. A line that is not low is not released. -/
def execResetRelease (s : State) : Result := .next (if s.resetLow then s.poweredUp false else s)

/-! ## The control link's receiver (R187 to R189) -/

/-- CHARACTER_RECEIVED (R187). -/
def execCharacterReceived (byte : Byte) (faulted : Bool) (s : State) : Result := characterEvent byte faulted s

/-- FRAME_RECEIVED (R188): the character that makes a frame complete. -/
def execFrameReceived (byte : Byte) (faulted : Bool) (s : State) : Result :=
  occurrence (endsFrame s byte) (receiveByte · byte faulted) s

/-- WRONG_LEAD_BYTE (R187): a character in HUNT that is no fault-free 0x5A. -/
def execWrongLeadByte (byte : Byte) (faulted : Bool) (s : State) : Result :=
  occurrence (s.wrongLeadDue byte faulted) (receiveByte · byte faulted) s

/-- PAYLOAD_LENGTH_ABOVE_LIMIT (R188): the second length byte of a length above 1,100. -/
def execPayloadLengthAboveLimit (byte : Byte) (faulted : Bool) (s : State) : Result :=
  occurrence (declaresTooMuch s byte) (receiveByte · byte faulted) s

/-- GAP_TIMER_EXPIRY (R189). -/
def execGapTimerExpiry (s : State) : Result := arrival gapExpires s

/-! ## The transmitter (R196, R205) -/

/-- REPLY_END (R196). -/
def execReplyEnd (s : State) : Result := arrival replyEnds s

/-- NOTICE_END (R196). -/
def execNoticeEnd (s : State) : Result := arrival noticeEnds s

/-- ATTENTION_NOTICE (R205): the pending notice is begun by a free transmitter (log entry 8). -/
def execAttentionNotice (s : State) : Result := occurrence s.att.noticePending id s

/-! ## Validation (R64) -/

/-- VALIDATION_COMPLETION (R64) of the validation in flight in a slot. -/
def execValidationCompletion (slot : SlotName) (s : State) : Result := arrival (completeValidation · slot) s

/-! ## The block completion (R102) and its named occurrences -/

/-- BLOCK_COMPLETION (R102). -/
def execBlockCompletion (input : BlockInput) (s : State) : Result := arrival (blockEvent input) s

/-- PRESENCE_CHANGE (R104). -/
def execPresenceChange (input : BlockInput) (s : State) : Result :=
  occurrence (s.presenceChanges input) (blockEvent input) s

/-- SONG_END (R78). -/
def execSongEnd (input : BlockInput) (s : State) : Result := occurrence s.tr.endsSong (blockEvent input) s

/-- SYNC_TIMEOUT (R86). -/
def execSyncTimeout (input : BlockInput) (s : State) : Result := occurrence s.tr.losesSync (blockEvent input) s

/-- HOLD_LIMIT (R87). -/
def execHoldLimit (input : BlockInput) (s : State) : Result := occurrence s.tr.givesUp (blockEvent input) s

/-- SETTLE_SPENT (R88). -/
def execSettleSpent (input : BlockInput) (s : State) : Result := occurrence s.tr.settles (blockEvent input) s

/-- CUE_STALL (R77). -/
def execCueStall (input : BlockInput) (s : State) : Result := occurrence s.tr.stalls (blockEvent input) s

/-- RESULT_COUNTDOWN_SPENT (R95). -/
def execResultCountdownSpent (input : BlockInput) (s : State) : Result :=
  occurrence s.tr.resultSpent (blockEvent input) s

/-- POLLING_ROUND (R30). -/
def execPollingRound (input : BlockInput) (s : State) : Result :=
  occurrence (s.pbc.roundDue (s.blocks + 1)) (blockEvent input) s

/-! ## The pad bus -/

/-- PAD_REPLY_TIMEOUT (R33, R38). -/
def execPadReplyTimeout (s : State) : Result := arrival replyTimeout s

/-- UPLINK_CHARACTER_GAP (R216). -/
def execUplinkCharacterGap (s : State) : Result := arrival characterGap s

/-- UPLINK_CHARACTER_RECEIVED (R216). -/
def execUplinkCharacterReceived (byte : Byte) (s : State) : Result := arrival (uplinkCharacter · byte) s

/-- UPLINK_FAULTY_FRAME (R33): an uplink frame received whole, judged by its bytes. -/
def execUplinkFaultyFrame (bytes : List Byte) (s : State) : Result := arrival (uplinkFrame · (readUplink bytes)) s

/-- PAD_SILENCING (R34): a faulty completion that brings the strike count to 8. -/
def execPadSilencing (completion : FaultyCompletion) (s : State) : Result :=
  occurrence (silencingDue s) (faultyBy · completion) s

/-- IDLE record (R35). -/
def execIdleRecord (address : Byte) (s : State) : Result := recordEvent address .idle s

/-- REQUEST record (R9). -/
def execRequest (address : Byte) (toggle : Bool) (song : Word) (part : Byte) (rush : Bool) (s : State) : Result :=
  recordEvent address (.request toggle song part rush) s

/-- WITHDRAW record (R11). -/
def execWithdraw (address : Byte) (toggle : Bool) (song : Word) (s : State) : Result :=
  recordEvent address (.withdraw toggle song) s

/-- JOIN record (R39). -/
def execJoin (address : Byte) (serial : Word) (s : State) : Result := recordEvent address (.join serial) s

/-- ASSIGN_SENT (R38). -/
def execAssignSent (s : State) : Result := arrival assignSent s

/-! ## The video path -/

/-- VIDEO_FRAME_START (R167). -/
def execVideoFrameStart (s : State) : Result := frameEvent s

/-- VIDEO_LOSS (R178): a frame start at which the stale count reaches 3. -/
def execVideoLoss (s : State) : Result := occurrence s.cmp.losesVideo frameStart s

/-- VIDEO_RESTORE (R178): a frame start at which the fresh run reaches 2. -/
def execVideoRestore (s : State) : Result := occurrence s.cmp.restoresVideo frameStart s

/-- INPUT_FRAME_COMPLETION (R178). -/
def execInputFrameCompletion (frame : InputFrame) (s : State) : Result :=
  arrival (fun s => s.setCmp (s.cmp.inputCompleted frame)) s

end Sys2Proof.Machine
end

