-- ==== Sys2Proof/Machine/Dispatch.lean ====
section
/-! DEFINITION. The dispatch of a command to its meaning, one arm for each constructor of `Instr`. -/

namespace Sys2Proof.Machine

/-- A command's effect on everything but the queue of waiting commands. -/
def exec (i : Instr) (s : State) : Host.Outcome State Fault Refusal :=
  match i with
  | .powerUp => Sys2Proof.Machine.execPowerUp s
  | .resetAssert => Sys2Proof.Machine.execResetAssert s
  | .resetRelease => Sys2Proof.Machine.execResetRelease s
  | .frameReceived byte faulted => Sys2Proof.Machine.execFrameReceived byte faulted s
  | .wrongLeadByte byte faulted => Sys2Proof.Machine.execWrongLeadByte byte faulted s
  | .payloadLengthAboveLimit byte faulted => Sys2Proof.Machine.execPayloadLengthAboveLimit byte faulted s
  | .gapTimerExpiry => Sys2Proof.Machine.execGapTimerExpiry s
  | .unknownKind kind tag payload => Sys2Proof.Machine.execUnknownKind kind tag payload s
  | .replyEnd => Sys2Proof.Machine.execReplyEnd s
  | .attentionNotice => Sys2Proof.Machine.execAttentionNotice s
  | .noticeEnd => Sys2Proof.Machine.execNoticeEnd s
  | .echo tag bytes => Sys2Proof.Machine.execEcho tag bytes s
  | .softReset tag => Sys2Proof.Machine.execSoftReset tag s
  | .attentionRead tag => Sys2Proof.Machine.execAttentionRead tag s
  | .attentionAck tag named => Sys2Proof.Machine.execAttentionAck tag named s
  | .attentionMask tag mask => Sys2Proof.Machine.execAttentionMask tag mask s
  | .resolveFound tag entryId parts title => Sys2Proof.Machine.execResolveFound tag entryId parts title s
  | .resolveAbsent tag entryId parts title => Sys2Proof.Machine.execResolveAbsent tag entryId parts title s
  | .queueAdd tag song lane lanePos => Sys2Proof.Machine.execQueueAdd tag song lane lanePos s
  | .queueMove tag entryId lane lanePos => Sys2Proof.Machine.execQueueMove tag entryId lane lanePos s
  | .queueCancel tag entryId => Sys2Proof.Machine.execQueueCancel tag entryId s
  | .queueRead tag first count => Sys2Proof.Machine.execQueueRead tag first count s
  | .historyRead tag index => Sys2Proof.Machine.execHistoryRead tag index s
  | .policy tag rush limit => Sys2Proof.Machine.execPolicy tag rush limit s
  | .padAdmit tag address => Sys2Proof.Machine.execPadAdmit tag address s
  | .padRelease tag address => Sys2Proof.Machine.execPadRelease tag address s
  | .padRead tag address => Sys2Proof.Machine.execPadRead tag address s
  | .padBus tag enable => Sys2Proof.Machine.execPadBus tag enable s
  | .slotOpen tag slot entryId size => Sys2Proof.Machine.execSlotOpen tag slot entryId size s
  | .slotData tag slot offset data => Sys2Proof.Machine.execSlotData tag slot offset data s
  | .slotSeal tag slot => Sys2Proof.Machine.execSlotSeal tag slot s
  | .slotDiscard tag slot => Sys2Proof.Machine.execSlotDiscard tag slot s
  | .slotRead tag slot => Sys2Proof.Machine.execSlotRead tag slot s
  | .validationCompletion slot => Sys2Proof.Machine.execValidationCompletion slot s
  | .start tag entryId => Sys2Proof.Machine.execStart tag entryId s
  | .sync tag position => Sys2Proof.Machine.execSync tag position s
  | .pause tag => Sys2Proof.Machine.execPause tag s
  | .resume tag => Sys2Proof.Machine.execResume tag s
  | .rate tag rate => Sys2Proof.Machine.execRate tag rate s
  | .key tag shift => Sys2Proof.Machine.execKey tag shift s
  | .stop tag showResult => Sys2Proof.Machine.execStop tag showResult s
  | .transportSet tag auto syncTimeout settle holdLimit resultInterval => Sys2Proof.Machine.execTransportSet tag auto syncTimeout settle holdLimit resultInterval s
  | .transportRead tag => Sys2Proof.Machine.execTransportRead tag s
  | .micSet tag mode count voicing clarity => Sys2Proof.Machine.execMicSet tag mode count voicing clarity s
  | .micRead tag channel => Sys2Proof.Machine.execMicRead tag channel s
  | .bind tag channel mode part => Sys2Proof.Machine.execBind tag channel mode part s
  | .scoreSet tag level fold latency => Sys2Proof.Machine.execScoreSet tag level fold latency s
  | .laneRead tag channel => Sys2Proof.Machine.execLaneRead tag channel s
  | .layoutSet tag leadIn linger => Sys2Proof.Machine.execLayoutSet tag leadIn linger s
  | .layoutRead tag => Sys2Proof.Machine.execLayoutRead tag s
  | .bandMap tag codes => Sys2Proof.Machine.execBandMap tag codes s
  | .rowPlace tag slot band offset => Sys2Proof.Machine.execRowPlace tag slot band offset s
  | .palette tag entry colour => Sys2Proof.Machine.execPalette tag entry colour s
  | .bannerSet tag window digitBase => Sys2Proof.Machine.execBannerSet tag window digitBase s
  | .glyphLoad tag code width coverage => Sys2Proof.Machine.execGlyphLoad tag code width coverage s
  | .glyphDrop tag code => Sys2Proof.Machine.execGlyphDrop tag code s
  | .glyphClear tag => Sys2Proof.Machine.execGlyphClear tag s
  | .compositorRead tag code => Sys2Proof.Machine.execCompositorRead tag code s
  | .blockCompletion input => Sys2Proof.Machine.execBlockCompletion input s
  | .presenceChange input => Sys2Proof.Machine.execPresenceChange input s
  | .songEnd input => Sys2Proof.Machine.execSongEnd input s
  | .syncTimeout input => Sys2Proof.Machine.execSyncTimeout input s
  | .holdLimit input => Sys2Proof.Machine.execHoldLimit input s
  | .settleSpent input => Sys2Proof.Machine.execSettleSpent input s
  | .cueStall input => Sys2Proof.Machine.execCueStall input s
  | .resultCountdownSpent input => Sys2Proof.Machine.execResultCountdownSpent input s
  | .pollingRound input => Sys2Proof.Machine.execPollingRound input s
  | .padReplyTimeout => Sys2Proof.Machine.execPadReplyTimeout s
  | .uplinkCharacterGap => Sys2Proof.Machine.execUplinkCharacterGap s
  | .uplinkFaultyFrame bytes => Sys2Proof.Machine.execUplinkFaultyFrame bytes s
  | .padSilencing completion => Sys2Proof.Machine.execPadSilencing completion s
  | .idleRecord address => Sys2Proof.Machine.execIdleRecord address s
  | .request address toggle song part rush => Sys2Proof.Machine.execRequest address toggle song part rush s
  | .withdraw address toggle song => Sys2Proof.Machine.execWithdraw address toggle song s
  | .join address serial => Sys2Proof.Machine.execJoin address serial s
  | .assignSent => Sys2Proof.Machine.execAssignSent s
  | .videoFrameStart => Sys2Proof.Machine.execVideoFrameStart s
  | .videoLoss => Sys2Proof.Machine.execVideoLoss s
  | .videoRestore => Sys2Proof.Machine.execVideoRestore s
  | .inputFrameCompletion frame => Sys2Proof.Machine.execInputFrameCompletion frame s
  | .characterReceived byte faulted => Sys2Proof.Machine.execCharacterReceived byte faulted s
  | .uplinkCharacterReceived byte => Sys2Proof.Machine.execUplinkCharacterReceived byte s

end Sys2Proof.Machine
end

