-- ==== Sys2Proof/Machine/Step.lean ====
section
/-! DEFINITION. The step: the command at the front of the queue of waiting commands is run on the state with
the queue's rest. On an empty queue time passes: a POLL or INVITE being sent comes to its end. -/

namespace Sys2Proof.Machine

/-- One step. With no command waiting the part idles, but for the last bit of a POLL or INVITE being sent, which no
row of the table brings (log entries 2 and 26). While the reset line is held low nothing moves (log entry 4). -/
def step (s : State) : Host.Outcome State Fault Refusal :=
  match s.pending with
  | [] => .next (if s.resetLow then s else s.setPbc s.pbc.downlinkSent)
  | c :: rest => exec c { s with pending := rest }

/-- The state with the command a word spells put at the front of its queue; unchanged when the word spells
none. -/
def State.withFetchWord (s : State) (nbits w : Nat) : State :=
  match decodeTableWord nbits w with
  | some c => { s with pending := c :: s.pending }
  | none => s

end Sys2Proof.Machine
end

