-- ==== Sys2Proof/Safety.lean ====
section
/-! DEFINITION. The terms in which statements about the part are made: when the control link can take a
message at once, what a message's answer leaves, and the conditions that every state of the part keeps. -/

namespace Sys2Proof.Machine

/-! ## Messages taken at once -/

/-- The control link takes the next message at the moment it arrives: the reset line is high, no message
waits and no reply is formed (R191, R192). -/
structure LinkFree (s : State) : Prop where
  awake : s.resetLow = false
  noMessage : s.link.queue = []
  noReply : s.link.formed = none

/-- A message answered: it stands in the receive queue alone with its reply formed, whose summary byte is
that of the state its owner left, and the transmitter has made its choice (R191 to R193, R196). -/
def State.answered (s : State) (m : Message) (code : ResultCode) (data : List Byte) : State :=
  chooseNext (s.setLink { s.link with
    queue := [m], formed := some ⟨replyKind m.kind, m.tag, s.summary, code, data⟩ })

/-- The transmitter has nothing left to choose: when it is IDLE, no notice is pending and no reply is
formed (R196). -/
def State.settled (s : State) : Prop :=
  s.link.transmitter = .idle → s.att.noticePending = false ∧ s.link.formed = none

/-- Two states whose control links differ at most in what the transmitter has begun to send. -/
def State.sameLink (s t : State) : Prop :=
  t.link.receiver = s.link.receiver ∧ t.link.gapRunning = s.link.gapRunning ∧ t.link.queue = s.link.queue ∧
    t.link.formed = s.link.formed ∧ t.link.linkError = s.link.linkError

/-- The exchange in flight is with the pad at place `i`, its uplink frame not yet whole, and the pad's record is
ENROLLED; SOFT_RESET has not marked the exchange to be discarded (R33, R45, R49). The round may be one that PAD_BUS ends
at this exchange's completion (R47). -/
structure State.polling (s : State) (i : Fin 8) (ex : Exchange) : Prop where
  awake : s.resetLow = false
  inFlight : s.pbc.exchange = some ex
  target : ex.target = .pad i
  kept : ex.discarded = false
  listening : ex.stage ≠ .assigning
  enrolled : (s.pbc.registry.get i).state = .enrolled

/-- The commands that complete an exchange in the stage it stands in: a whole uplink frame while no ASSIGN is being sent,
the reply timeout before an uplink frame has begun, and the character gap inside one (R33, R38, R216). -/
def Exchange.completedBy (ex : Exchange) (c : Instr) : Prop :=
  (ex.stage ≠ .assigning ∧
    ((∃ a, c = .idleRecord a) ∨ (∃ a toggle song part rush, c = .request a toggle song part rush) ∨
      (∃ a toggle song, c = .withdraw a toggle song) ∨ (∃ a serial, c = .join a serial) ∨
      ∃ bytes, c = .uplinkFaultyFrame bytes)) ∨
  ((ex.stage = .sending ∨ ex.stage = .awaiting) ∧ c = .padReplyTimeout) ∨
  ((∃ bytes, ex.stage = .receiving bytes) ∧ c = .uplinkCharacterGap)

/-! ## What a block completion and a finish leave -/

/-- What a block completion leaves alone where it brings no song's end: the queue, the slots, the row slots, the
Compositor, the registry and bus, and the control link but for a notice begun (R102). -/
structure State.blockKeeps (s t : State) : Prop where
  queue : t.rq = s.rq
  slots : t.slotA = s.slotA ∧ t.slotB = s.slotB
  rows : t.llu = s.llu
  compositor : t.cmp = s.cmp
  bus : t.pbc.registry = s.pbc.registry ∧ t.pbc.enabled = s.pbc.enabled
  link : s.sameLink t

/-- Two attention units agree but for what microphones raise: MIC_ABSENT and MIC_OVERLOAD (R105, R114). -/
def Attention.agreesOffMics (a b : Attention) : Prop :=
  b.mask = a.mask ∧ ∀ m : Member, m ≠ .micAbsent → m ≠ .micOverload → AttentionSet.has b.latched m = AttentionSet.has a.latched m

/-- The finish of the song of the PLAYING entry `e`, whose slot is `n`, with its kind: from `s`, whose lanes are
closed, to `f`, the state before auto-advance is tested. The entry becomes the newest of at most 8 history records;
its pads are told the greatest song score; the slot is EMPTY, the lanes IDLE, the rows clear and the Transport IDLE;
QUEUE_CHANGED and SONG_ENDED are raised (R23, R24, R42, R69, R96, R135, R154). -/
structure State.songFinished (s f : State) (kind : FinishKind) (e : Entry) (n : SlotName) : Prop where
  queue : f.rq = { s.rq with
    entries := s.rq.entries.filter fun x => x.id != e.id
    history := (⟨e.id, e.song, e.requesters, kind, s.su.lanes.map Lane.result⟩ :: s.rq.history).take 8 }
  news : ∃ best : Option Nat,
    (∀ k x, (s.su.lanes.get k).score = some x → ∃ b, best = some b ∧ x ≤ b) ∧
    (∀ b, best = some b → ∃ k, (s.su.lanes.get k).score = some b) ∧
    f.pbc = { s.pbc with registry := s.pbc.registry.mapIdx fun i p =>
      if e.requesters.any (fun r => r.pad == i.val + 1) then
        { p with news := some ⟨.finished best, e.song⟩, newsCounter := (p.newsCounter + 1) % 16 } else p }
  slot : f.slot n = { s.slot n with state := .empty, held := none, coverage := 0 }
  otherSlot : ∀ k, k ≠ n → f.slot k = s.slot k
  transport : f.tr = { s.tr with state := .idle, t := 0, duration := 0, resultCountdown := 0, finish := none, slew := 0 }
  lanes : f.su = { s.su with lanes := Quad.const Lane.reset }
  rows : f.llu = { s.llu with mode := .none, rows := s.llu.rows.map fun r => ⟨none, none, none, r.late⟩ }
  raised : f.att = (s.att.raise .queueChanged).raise .songEnded
  others : f.mfe = s.mfe ∧ f.cmp = s.cmp ∧ f.link = s.link ∧ f.pending = s.pending ∧ f.resetLow = s.resetLow ∧
    f.blocks = s.blocks ∧ f.draws = s.draws

/-! ## The frame steps of a row slot (R145 to R149) -/

/-- The late count after a line has become the shown line at a frame start (R149). -/
def LineView.lateAfter (v : LineView) (late line : Nat) : Nat :=
  if 256 * lineStart v.image line < v.t then min 65535 (late + 1) else late

/-- The line of next higher index after `n` that names row slot `k`, or none (R148). -/
def LineView.follows (v : LineView) (k n : Nat) (after : Option Nat) : Prop :=
  ∀ j, after = some j ↔ n < j ∧ j < imgLines v.image ∧ (lineAt v.image j).hint = k ∧
    ∀ i, n < i → i < j → (lineAt v.image i).hint ≠ k

/-- One frame step of row slot `k`, the first of the three of R145 that applies: promotion (R146), removal (R147), or
the next line reached, which becomes the shown or the deferred line (R148). -/
inductive RowStep (v : LineView) (k : Nat) : RowSlot → RowSlot → Prop where
  | promotion (l : ShownLine) (d late : Nat) (next : Option Nat) : 256 * lineEnd v.image l.index ≤ v.t →
      RowStep v k ⟨some l, some d, next, late⟩ ⟨some (layLine v.image v.glyphs d), none, next, v.lateAfter late d⟩
  | removal (l : ShownLine) (late : Nat) (next : Option Nat) : 256 * (lineEnd v.image l.index + v.linger) ≤ v.t →
      RowStep v k ⟨some l, none, next, late⟩ ⟨none, none, next, late⟩
  | nextShown (shown : Option ShownLine) (n late : Nat) (after : Option Nat) : v.follows k n after →
      256 * (lineStart v.image n - v.leadIn) ≤ v.t →
      (∀ l, shown = some l → 256 * lineEnd v.image l.index ≤ v.t ∧ v.t < 256 * (lineEnd v.image l.index + v.linger)) →
      RowStep v k ⟨shown, none, some n, late⟩ ⟨some (layLine v.image v.glyphs n), none, after, v.lateAfter late n⟩
  | nextDeferred (l : ShownLine) (n late : Nat) (after : Option Nat) : v.follows k n after →
      256 * (lineStart v.image n - v.leadIn) ≤ v.t → v.t < 256 * lineEnd v.image l.index →
      RowStep v k ⟨some l, none, some n, late⟩ ⟨some l, some n, after, late⟩

/-! ## What every state keeps -/

/-- Both image memories are canonical: addresses strictly rising below 262,144, no zero byte listed (R50). -/
def State.imagesCanonical (s : State) : Prop := Memory.wf s.slotA.image = true ∧ Memory.wf s.slotB.image = true

/-- The Request Queue within its bounds: 32 entries, 8 records, next-id 1..255, pad limit 1..8 and a 32-bit
arrival counter (R3, R6, R7, R20, R24). -/
structure RequestQueue.bounded (r : RequestQueue) : Prop where
  entries : r.entries.length ≤ 32
  history : r.history.length ≤ 8
  nextId : 1 ≤ r.nextId ∧ r.nextId ≤ 255
  arrivals : r.arrivals < 4294967296
  padLimit : 1 ≤ r.padLimit ∧ r.padLimit ≤ 8

/-- A registry record as R28 and R29 describe it: the serial absent exactly when FREE and never 0, SILENCED exactly at
8 strikes, never more than 8, the news counter 0..15; a FREE record has strike count 0, expected toggle 0 and the cleared
outcome, and an outcome code NONE is always the cleared outcome. -/
structure PadRecord.lawful (p : PadRecord) : Prop where
  serial : p.serial = none ↔ p.state = .free
  nonzero : p.serial ≠ some 0
  silenced : p.state = .silenced ↔ p.strikes = 8
  strikes : p.strikes ≤ 8
  newsCounter : p.newsCounter < 16
  unused : p.state = .free → p.strikes = 0 ∧ p.expectedToggle = false ∧ p.lastOutcome = clearedOutcome
  cleared : p.lastOutcome.outcome.code = .none → p.lastOutcome = clearedOutcome

/-- Every registry record is lawful, and no two hold the same serial (R28, R29). -/
structure PadBus.lawful (p : PadBus) : Prop where
  records : ∀ i : Fin 8, (p.registry.get i).lawful
  apart : ∀ (i j : Fin 8) (x : Word), (p.registry.get i).serial = some x → (p.registry.get j).serial = some x → i = j

/-- The Request Queue as R3 and R6 describe it: within its bounds; at most one PLAYING entry, then the RUSH section,
then the NORMAL section; at most 2 waiting RUSH entries; no two waiting entries of one song; ids 1..255, held by one
entry or history record each. -/
structure RequestQueue.lawful (r : RequestQueue) : Prop where
  bounded : r.bounded
  order : r.entries = (r.entries.filter fun e => !e.waits) ++ laneEntries r.entries .rush ++ laneEntries r.entries .normal
  onePlaying : (r.entries.filter fun e => !e.waits).length ≤ 1
  rush : rushCount r.entries ≤ 2
  songs : ((waiting r.entries).map (·.song)).Nodup
  ids : (r.entries.map (·.id) ++ r.history.map (·.id)).Nodup
  idRange : ∀ e ∈ r.entries, 1 ≤ e.id ∧ e.id ≤ 255

/-- The state of the entry that a slot in a given state holds; an EMPTY slot holds none (R52). -/
def SlotState.entryState : SlotState → Option EntryState
  | .empty => none
  | .filling => some .loading
  | .sealing => some .loading
  | .staged => some .staged
  | .active => some .playing

/-- The queue, the slots and the Transport match (R50, R52, R61, R72): a slot is EMPTY exactly when it holds nothing;
the entry it holds is in the queue, in the state that matches the slot's; every LOADING, STAGED or PLAYING entry is held;
the two slots never hold one entry, nor are both ACTIVE; the Transport is IDLE exactly when no entry is PLAYING; a
declared size is 64..262,144, and a STAGED or ACTIVE slot's image has its fields in range. -/
structure State.matched (s : State) : Prop where
  queue : s.rq.lawful
  empty : ∀ n : SlotName, (s.slot n).state = .empty ↔ (s.slot n).held = none
  held : ∀ (n : SlotName) (h : Held), (s.slot n).held = some h →
    64 ≤ h.size ∧ h.size ≤ 262144 ∧
      ∃ e ∈ s.rq.entries, e.id = h.entryId ∧ (s.slot n).state.entryState = some e.state
  holder : ∀ e ∈ s.rq.entries, e.state = .loading ∨ e.state = .staged ∨ e.state = .playing →
    ∃ n : SlotName, (s.slot n).holds e.id = true
  apart : ∀ id : Nat, ¬ (s.slotA.holds id = true ∧ s.slotB.holds id = true)
  oneActive : ¬ (s.slotA.state = .active ∧ s.slotB.state = .active)
  song : s.tr.state = .idle ↔ ∀ e ∈ s.rq.entries, e.state ≠ .playing
  checked : ∀ n : SlotName, (s.slot n).state = .staged ∨ (s.slot n).state = .active → checkRange (s.slot n).image = none

/-- The settings that persist from song to song stand in the ranges their messages clamp them into (R91, R97,
R115, R137, R162, R180, R181). -/
structure State.settingsInRange (s : State) : Prop where
  rate : 384 ≤ s.tr.rate ∧ s.tr.rate ≤ 640
  key : -6 ≤ s.tr.key ∧ s.tr.key ≤ 6
  syncTimeout : 20 ≤ s.tr.syncTimeout ∧ s.tr.syncTimeout ≤ 200
  settle : s.tr.settle ≤ 100
  holdLimit : 500 ≤ s.tr.holdLimit ∧ s.tr.holdLimit ≤ 6000
  resultInterval : s.tr.resultInterval ≤ 1500
  micCount : s.mfe.count ≤ 7
  voicing : -160 ≤ s.mfe.voicing ∧ s.mfe.voicing ≤ -20
  clarity : s.mfe.clarity ≤ 255
  latency : s.su.latency ≤ 300
  leadIn : 500 ≤ s.llu.leadIn ∧ s.llu.leadIn ≤ 10000
  linger : s.llu.linger ≤ 3000
  placement : ∀ k : Fin 4, (s.cmp.placement.get k).band ≤ 7 ∧ (s.cmp.placement.get k).offset ≤ 87
  bannerWindow : s.cmp.bannerWindow ≤ 60000
  digitBase : s.cmp.digitBase ≤ 4084

/-- The Transport within the ranges of R71: the clock never passes the song's end, IDLE has neither clock nor
duration and every other state a duration of 1,000..1,200,000, a finish kind stands exactly in RESULT, and every count is
within its range; while the clock runs or PAUSED holds it, the sync timer is short of the greatest timeout (R71, R72,
R86). -/
structure Transport.lawful (t : Transport) : Prop where
  clock : t.t ≤ 256 * t.duration
  idle : t.state = .idle → t.duration = 0
  duration : t.state ≠ .idle → 1000 ≤ t.duration ∧ t.duration ≤ 1200000
  syncTimer : t.syncTimer ≤ 200
  unexpired : t.state = .play ∨ t.state = .recover ∨ t.state = .paused → t.syncTimer < 200
  settleCount : t.settleCount ≤ 100
  holdCount : t.holdCount ≤ 6000
  resultCountdown : t.resultCountdown ≤ 1500
  finish : t.finish = none ↔ t.state ≠ .result
  slew : -51200 ≤ t.slew ∧ t.slew ≤ 51200
  cueStallCount : t.cueStallCount ≤ 1000
  jumpCount : t.jumpCount ≤ 65535
  epoch : t.epoch ≤ 255

/-- The Control Link as R185, R191, R192 and R196 describe it: at most 4 messages held, a reply formed
exactly while a message is held, a reply being sent only when one is formed, the gap timer stopped in HUNT
alone, and nothing left to choose. -/
structure State.linkLawful (s : State) : Prop where
  queue : s.link.queue.length ≤ 4
  formed : s.link.formed = none ↔ s.link.queue = []
  reply : s.link.transmitter = .reply → s.link.formed ≠ none
  gap : s.link.gapRunning = false ↔ s.link.receiver = .hunt
  settled : s.settled

/-- The glyph store holds no more bytes than its capacity (R174). -/
def Compositor.storeFits (c : Compositor) : Prop := glyphBytes c.glyphs ≤ glyphCapacity

/-- A scoring lane as R122, R125 and R130 describe it: a lane is IDLE exactly when no part resolved to it; the notes
before the cursor have final outcomes and those after it are PENDING; the one OPEN note is the cursor's, its counted
blocks among its window blocks and at 4 points each at most; each counter counts its outcome. -/
structure Lane.lawful (l : Lane) : Prop where
  idle : l.state = .idle ↔ l.part = none
  notes : l.outcomes.length = l.noteCount
  cursor : l.cursor ≤ l.noteCount
  before : ∀ i < l.cursor, l.outcomeAt i = .scored ∨ l.outcomeAt i = .empty ∨ l.outcomeAt i = .void
  after : ∀ i, l.cursor < i → l.outcomeAt i = .pending
  opened : ∀ i, l.outcomeAt i = .opened ↔ ∃ o, l.openNote = some o ∧ o.index = i
  openAtCursor : ∀ o, l.openNote = some o → o.index = l.cursor ∧ o.counted ≤ o.windowBlocks ∧ o.points ≤ 4 * o.counted
  scored : l.scored = l.outcomes.count .scored
  empty : l.empty = l.outcomes.count .empty
  void : l.void = l.outcomes.count .void
  accuracy : l.sumAw ≤ 100 * l.sumW

/-- Every lane is lawful. -/
def ScoringUnit.lawful (u : ScoringUnit) : Prop := ∀ k : Fin 4, (u.lanes.get k).lawful

/-- A notice is pending only while the latched set is not empty (R205). -/
def Attention.lawful (a : Attention) : Prop := a.noticePending = true → a.latched ≠ 0

end Sys2Proof.Machine
end

