-- ==== Sys2Proof/WellFormed.lean ====
section
/-! DEFINITION. The commands that can arise at the part's edge: a message whose fields fill a payload that
keeps its kind's length rule (R197, R212, R213), and uplink bytes that are one whole frame (R215, R216). A
command that is not well formed still has its meaning. -/

namespace Sys2Proof

/-- The kinds of the kind table (R212). -/
def kindTable : List Byte :=
  [0x01, 0x02, 0x08, 0x09, 0x0A, 0x10, 0x11, 0x12, 0x13, 0x14, 0x15, 0x16, 0x18, 0x19, 0x1A, 0x1B, 0x20, 0x21,
    0x22, 0x23, 0x24, 0x28, 0x29, 0x2A, 0x2B, 0x2C, 0x2D, 0x2E, 0x2F, 0x30, 0x38, 0x39, 0x40, 0x41, 0x42, 0x48,
    0x49, 0x50, 0x51, 0x52, 0x53, 0x54, 0x55, 0x56, 0x57]

/-- The greatest payload length of a control-link frame (R211). -/
def maxPayload : Nat := 1100

/-- A run of bytes is exactly one uplink frame: address, type, body length, body and check (R215). -/
def oneUplinkFrame (bytes : List Byte) : Bool :=
  decide (5 ≤ bytes.length) && decide (bytes.length = 5 + (bytes.getD 2 0).toNat)

/-- A command can arise at the part's edge. -/
def Instr.wellFormed : Instr → Bool
  | .echo _ bytes => decide (bytes.length ≤ maxPayload)
  | .resolveFound _ _ _ title => decide (title.length ≤ 255)
  | .resolveAbsent _ _ _ title => decide (title.length ≤ 255)
  | .slotData _ _ _ data => decide (1 ≤ data.length) && decide (data.length ≤ 1024)
  | .glyphLoad _ _ width coverage => decide (coverage.length = 12 * width.toNat) && decide (3 + coverage.length ≤ maxPayload)
  | .unknownKind kind _ payload => !kindTable.contains kind && decide (payload.length ≤ maxPayload)
  | .uplinkFaultyFrame bytes => oneUplinkFrame bytes
  | .padSilencing (.frame bytes) => oneUplinkFrame bytes
  | .powerUp | .resetAssert | .resetRelease | .frameReceived _ _ | .wrongLeadByte _ _
  | .payloadLengthAboveLimit _ _ | .gapTimerExpiry | .replyEnd | .attentionNotice | .noticeEnd | .softReset _
  | .attentionRead _ | .attentionAck _ _ | .attentionMask _ _ | .queueAdd _ _ _ _ | .queueMove _ _ _ _
  | .queueCancel _ _ | .queueRead _ _ _ | .historyRead _ _ | .policy _ _ _ | .padAdmit _ _ | .padRelease _ _
  | .padRead _ _ | .padBus _ _ | .slotOpen _ _ _ _ | .slotSeal _ _ | .slotDiscard _ _ | .slotRead _ _
  | .validationCompletion _ | .start _ _ | .sync _ _ | .pause _ | .resume _ | .rate _ _ | .key _ _ | .stop _ _
  | .transportSet _ _ _ _ _ _ | .transportRead _ | .micSet _ _ _ _ _ | .micRead _ _ | .bind _ _ _ _
  | .scoreSet _ _ _ _ | .laneRead _ _ | .layoutSet _ _ _ | .layoutRead _ | .bandMap _ _ | .rowPlace _ _ _ _
  | .palette _ _ _ | .bannerSet _ _ _ | .glyphDrop _ _ | .glyphClear _ | .compositorRead _ _
  | .blockCompletion _ | .presenceChange _ | .songEnd _ | .syncTimeout _ | .holdLimit _ | .settleSpent _
  | .cueStall _ | .resultCountdownSpent _ | .pollingRound _ | .padReplyTimeout | .uplinkCharacterGap
  | .padSilencing .timeout | .padSilencing .characterGap | .idleRecord _ | .request _ _ _ _ _ | .withdraw _ _ _
  | .join _ _ | .assignSent | .videoFrameStart | .videoLoss | .videoRestore | .inputFrameCompletion _
  | .characterReceived _ _ | .uplinkCharacterReceived _ => true

end Sys2Proof
end

