-- ==== Sys2Proof/Certificates/Slice0/Obligations.lean ====
section
/-! DEFINITION. The statements for the provers, chapter by chapter of the manual: what the part is at reset,
what each command does and leaves unchanged, and what every step keeps. A message's outcome is written with
`State.answered`: the whole next state, so that whatever the statement does not change stands unchanged. -/

open Sys2Proof Sys2Proof.Machine

/-! ## The step -/

/-- One step takes the command at the front of the queue and runs it on the state with the queue's rest. On an empty queue
the part idles but for a POLL or INVITE being sent, whose last bit leaves: the table has no row for that moment, and that
a step brings it is the model's choice (log entry 2). -/
def Obligations.StepRunsFrontCommand : Prop :=
  (∀ (c : Instr) (rest : List Instr) (s : State), s.pending = c :: rest → step s = exec c { s with pending := rest }) ∧
  (∀ s : State, s.pending = [] →
    (s.resetLow = true → step s = .next s) ∧
    ((∀ ex, s.pbc.exchange = some ex → ex.stage ≠ .sending) → step s = .next s) ∧
    (∀ ex, s.resetLow = false → s.pbc.exchange = some ex → ex.stage = .sending →
      step s = .next { s with pbc := { s.pbc with exchange := some { ex with stage := .awaiting } } }))

/-- Every command has a next state in every state, and leaves the queue of waiting commands alone: the part
answers every error with a result code, an outcome, a strike, a drop or an attention member, and never
stops. -/
def Obligations.EveryCommandCompletes : Prop :=
  ∀ (c : Instr) (s : State), ∃ t, exec c s = .next t ∧ t.pending = s.pending

/-! ## Reset and the pins (R218) -/

/-- POWER_UP, and RESET_RELEASE of a line held low, put every block in its power-on values; the commands
waiting stay, and RESET_RELEASE leaves the line high. That POWER_UP leaves the reset line as it is held is the model's
choice (log entry 4). The MIC_ABSENT condition, which R209 lets hold from the first block completion, does not hold before
it: the model's reading (log entry 3). -/
def Obligations.PowerOnValues : Prop :=
  ∀ s : State, ∃ t, exec .powerUp s = .next t ∧
    (s.resetLow = true → exec .resetRelease s = .next { t with resetLow := false }) ∧
    t.pending = s.pending ∧ t.resetLow = s.resetLow ∧
    t.rq = { entries := [], history := [], nextId := 1, arrivals := 0, rushEnabled := true, padLimit := 3 } ∧
    (∀ i : Fin 8, t.pbc.registry.get i =
      { state := .free, serial := none, strikes := 0, expectedToggle := false,
        lastOutcome := ⟨true, ⟨.none, 0, 0⟩⟩, news := none, newsCounter := 0 }) ∧
    t.pbc.enabled = true ∧ t.pbc.roundCounter = 0 ∧ t.pbc.roundInFlight = false ∧ t.pbc.pacingMark = none ∧
    t.pbc.exchange = none ∧
    (∀ n : SlotName, (t.slot n).state = .empty ∧ (t.slot n).held = none ∧ (t.slot n).coverage = 0 ∧
      (∀ a, memRead (t.slot n).image a = 0) ∧ (t.slot n).fault = ⟨.none, .none, 0⟩) ∧
    t.tr = { state := .idle, t := 0, duration := 0, rate := 512, key := 0, slew := 0, syncTimer := 0,
             settleCount := 0, holdCount := 0, cueStallCount := 0, resultCountdown := 0, finish := none,
             epoch := 0, jumpCount := 0, autoAdvance := true, syncTimeout := 50, settle := 20,
             holdLimit := 3000, resultInterval := 800 } ∧
    (∀ k : Fin 4, t.mfe.channels.get k =
      { presence := .absent, changeCount := 0, window := List.replicate 1920 0, candidateRun := 0,
        overload := .clear, episodes := 0,
        latest := { presence := .absent, level := -192, clarity := 0, period := 0, pitch := none,
                    candidate := false, voiced := false, overload := false, mode := .debounce, count := 2,
                    stamp := ⟨.idle, 0, 0, 0⟩ } }) ∧
    t.mfe.mode = .debounce ∧ t.mfe.count = 2 ∧ t.mfe.voicing = -80 ∧ t.mfe.clarity = 140 ∧
    (∀ k : Fin 4, t.su.bindings.get k = .auto ∧ t.su.lanes.get k =
      { state := .idle, part := none, noteCount := 0, tolerance := 16, fold := true, latency := 60, cursor := 0,
        openNote := none, lastEpoch := 0, outcomes := [], sumAw := 0, sumW := 0, scored := 0, empty := 0,
        void := 0, lastClosed := none }) ∧
    t.su.level = .normal ∧ t.su.fold = true ∧ t.su.latency = 60 ∧
    t.llu.leadIn = 3000 ∧ t.llu.linger = 500 ∧ t.llu.songLeadIn = 3000 ∧ t.llu.songLinger = 500 ∧
    t.llu.mode = .none ∧
    (∀ k : Fin 4, t.llu.rows.get k = { shown := none, deferred := none, next := none, late := 0 }) ∧
    t.cmp.bands = ⟨.pass, .pass, .pass, .pass, .pass, .pass, .lyric, .lyric⟩ ∧
    t.cmp.placement = ⟨⟨6, 40⟩, ⟨7, 40⟩, ⟨6, 0⟩, ⟨7, 0⟩⟩ ∧
    t.cmp.palette = ⟨⟨255, 255, 255⟩, ⟨64, 128, 255⟩, ⟨255, 96, 160⟩, ⟨96, 224, 96⟩, ⟨255, 200, 64⟩,
      ⟨200, 120, 255⟩, ⟨255, 255, 255⟩, ⟨255, 230, 120⟩⟩ ∧
    t.cmp.glyphs = [] ∧ t.cmp.bannerWindow = 20000 ∧ t.cmp.digitBase = 0 ∧ t.cmp.video = .unlocked ∧
    t.cmp.staleCount = 0 ∧ t.cmp.freshRun = 0 ∧ t.cmp.heldFrame = none ∧ t.cmp.bannerShown = false ∧
    t.att = { latched := 0, mask := 0, micAbsentHolds := false, videoLostHolds := true, noticePending := false } ∧
    t.link = { receiver := .hunt, gapRunning := false, queue := [], transmitter := .idle, formed := none,
               linkError := false }

/-- RESET_ASSERT: while the reset line is held low the part sends nothing on the control link, holds its
pad-bus driver released and drives the video output black; otherwise the driver is on exactly while a POLL, an INVITE or
an ASSIGN is being sent. That the blocks' state stands until the release,
and that the other commands change nothing meanwhile, is the model's choice (log entry 4). -/
def Obligations.ResetLineMutesOutputs : Prop :=
  ∀ s : State, exec .resetAssert s = .next { s with resetLow := true } ∧
    State.sending { s with resetLow := true } = none ∧ State.padDriver { s with resetLow := true } = false ∧
    (∀ col line, State.outputPixel { s with resetLow := true } col line = ⟨0, 0, 0⟩) ∧
    (s.resetLow = false →
      (s.padDriver = true ↔ ∃ ex, s.pbc.exchange = some ex ∧ (ex.stage = .sending ∨ ex.stage = .assigning))) ∧
    (s.resetLow = true → ∀ c : Instr, c ≠ .powerUp → c ≠ .resetRelease → exec c s = .next s)

/-! ## Control Link (Chapter 9) -/

/-- CHARACTER_RECEIVED: a fault-free 0x5A in HUNT begins a frame and starts the gap timer; in FRAME a character
that is neither a second length byte above the limit nor the frame's last is added to the frame, its fault
marking the frame; in DISCARD it is thrown away. -/
def Obligations.CharacterIsTaken : Prop :=
  ∀ (s : State) (b : Byte) (faulted : Bool), s.resetLow = false →
    (s.link.receiver = .hunt → b = 0x5A → faulted = false →
      exec (.characterReceived b faulted) s =
        .next (chooseNext { s with link := { s.link with receiver := .frame [] false, gapRunning := true } })) ∧
    (∀ bytes f, s.link.receiver = .frame bytes f → declaresTooMuch s b = false → endsFrame s b = false →
      exec (.characterReceived b faulted) s = .next (chooseNext { s with
        link := { s.link with receiver := .frame (bytes ++ [b]) (f || faulted), gapRunning := true } })) ∧
    (s.link.receiver = .discard →
      exec (.characterReceived b faulted) s =
        .next (chooseNext { s with link := { s.link with receiver := .discard, gapRunning := true } }))

/-- WRONG_LEAD_BYTE, PAYLOAD_LENGTH_ABOVE_LIMIT and GAP_TIMER_EXPIRY: the drop sets the link error latch and
raises LINK_ERROR, and the receiver goes to DISCARD with the gap timer running, or, for the gap, to HUNT with
it stopped; a gap in DISCARD drops nothing. -/
def Obligations.LinkDrops : Prop :=
  ∀ (s : State) (b : Byte) (faulted : Bool), s.resetLow = false →
    (s.link.receiver = .hunt → (b ≠ 0x5A ∨ faulted = true) →
      exec (.wrongLeadByte b faulted) s = .next (chooseNext { s with
        att := s.att.raise .linkError
        link := { s.link with receiver := .discard, gapRunning := true, linkError := true } })) ∧
    (∀ low f, s.link.receiver = .frame [low] f → 1100 < low.toNat + 256 * b.toNat →
      exec (.payloadLengthAboveLimit b faulted) s = .next (chooseNext { s with
        att := s.att.raise .linkError
        link := { s.link with receiver := .discard, gapRunning := true, linkError := true } })) ∧
    (∀ bytes f, s.link.receiver = .frame bytes f →
      exec .gapTimerExpiry s = .next (chooseNext { s with
        att := s.att.raise .linkError
        link := { s.link with receiver := .hunt, gapRunning := false, linkError := true } })) ∧
    (s.link.receiver = .discard →
      exec .gapTimerExpiry s =
        .next (chooseNext { s with link := { s.link with receiver := .hunt, gapRunning := false } }))

/-- FRAME_RECEIVED: the last byte of a frame of payload length n ends it. A frame with a character fault, or
whose check differs from the CRC of its length, kind, tag and payload, is dropped; any other is a good message,
offered to the receive queue. In each case the receiver returns to HUNT with the gap timer stopped. A message
offered is dropped when 4 are held, the latch set and LINK_ERROR raised, and waits at the tail when fewer are held
and a formed reply is unsent. -/
def Obligations.FramesReachTheQueue : Prop :=
  (∀ (s : State) (kind tag low high : Byte) (payload : List Byte) (f faulted : Bool),
     s.resetLow = false → payload.length ≤ 1100 →
     s.link.receiver = .frame (le16 (BitVec.ofNat 16 payload.length) ++ [kind, tag] ++ payload ++ [low]) f →
     let check := crc (le16 (BitVec.ofNat 16 payload.length) ++ [kind, tag] ++ payload)
     let hunting : State := { s with link := { s.link with receiver := .hunt, gapRunning := false } }
     exec (.frameReceived high faulted) s = .next (chooseNext
       (if f || faulted then dropMessage hunting
        else if high ++ low ≠ check then dropMessage hunting
        else offer hunting ⟨kind, tag, payload⟩))) ∧
  (∀ (s : State) (m : Message),
     (4 ≤ s.link.queue.length →
       offer s m = { s with att := s.att.raise .linkError, link := { s.link with linkError := true } }) ∧
     (s.link.queue.length < 4 → s.link.formed ≠ none →
       offer s m = { s with link := { s.link with queue := s.link.queue ++ [m] } }))

/-- UNKNOWN_KIND, ECHO and SOFT_RESET over a free link. A message of a kind outside the kind table is answered
BAD_KIND with no data and changes no block; its reply's kind is 0xFF for a kind of 0x60 or of 0x80 and above, and the
kind plus 0x80 for any other (log entry 9). ECHO returns 0 to 1,098 bytes unchanged after the summary byte and result
code, and 1,099 or 1,100 are answered BAD_LENGTH. The taking of SOFT_RESET answers OK and changes nothing. -/
def Obligations.LinkMessagesAnswered : Prop :=
  (∀ (s : State) (kind tag : Byte) (payload : List Byte), LinkFree s → kindTable.contains kind = false →
     payload.length ≤ 1100 →
     exec (.unknownKind kind tag payload) s = .next (s.answered ⟨kind, tag, payload⟩ .badKind []) ∧
     (kind = 0x60 ∨ 0x80 ≤ kind → replyKind kind = 0xFF) ∧
     (kind ≠ 0x60 → kind < 0x80 → replyKind kind = kind + 0x80)) ∧
  (∀ (s : State) (tag : Byte) (bytes : List Byte), LinkFree s →
     (bytes.length ≤ 1098 → exec (.echo tag bytes) s = .next (s.answered ⟨0x01, tag, bytes⟩ .ok bytes)) ∧
     (bytes.length = 1099 ∨ bytes.length = 1100 →
       exec (.echo tag bytes) s = .next (s.answered ⟨0x01, tag, bytes⟩ .badLength [])) ∧
     exec (.softReset tag) s = .next (s.answered ⟨0x02, tag, []⟩ .ok []))

/-- A control-link frame received character by character is its message: from HUNT with the gap timer stopped,
the characters of the frame of any message of at most 1,100 payload bytes, taken one after another, leave what
the delivered message leaves. The delivered message, which is what a message's own row stands for, is the model's choice
(log entry 7). -/
def Obligations.FrameCharactersAreTheMessage : Prop :=
  ∀ (s : State) (m : Message), s.resetLow = false → s.link.receiver = .hunt → s.link.gapRunning = false →
    s.settled → m.payload.length ≤ 1100 →
    let characters := (linkFrame m.kind m.tag m.payload).map fun b => Instr.characterReceived b false
    Sys2Proof.core.run characters.length { s with pending := characters } =
      arrival (·.deliver m) { s with pending := [] }

/-- ATTENTION_NOTICE, NOTICE_END and REPLY_END. An IDLE transmitter with a notice pending begins it, with the
summary byte and the two sets as they stand, and notice pending is cleared; at a notice's end the transmitter sends
a pending notice, else a formed reply, else is IDLE. At the end of a reply that is no SOFT_RESET's, the answered
message leaves the queue and the formed reply becomes absent; with nothing waiting the transmitter chooses, and a
waiting message is taken at once, its reply formed with the summary byte of the state its owner left. -/
def Obligations.TransmitterSendsInTurn : Prop :=
  (∀ s : State, s.resetLow = false →
     (s.link.transmitter = .idle → s.att.noticePending = true →
       exec .attentionNotice s = .next { s with
         att := { s.att with noticePending := false }
         link := { s.link with transmitter := .notice ⟨s.summary, s.att.latched, s.att.mask⟩ } }) ∧
     (∀ n, s.link.transmitter = .notice n → s.att.noticePending = true →
       exec .noticeEnd s = .next { s with
         att := { s.att with noticePending := false }
         link := { s.link with transmitter := .notice ⟨s.summary, s.att.latched, s.att.mask⟩ } }) ∧
     (∀ n, s.link.transmitter = .notice n → s.att.noticePending = false → s.link.formed ≠ none →
       exec .noticeEnd s = .next { s with link := { s.link with transmitter := .reply } }) ∧
     (∀ n, s.link.transmitter = .notice n → s.att.noticePending = false → s.link.formed = none →
       exec .noticeEnd s = .next { s with link := { s.link with transmitter := .idle } })) ∧
  (∀ (s : State) (r : Reply) (m : Message) (rest : List Message), s.resetLow = false →
     s.link.transmitter = .reply → s.link.formed = some r → r.kind ≠ 0x82 → s.link.queue = m :: rest →
     let ended : State := { s with link := { s.link with transmitter := .idle, formed := none, queue := rest } }
     (rest = [] → exec .replyEnd s = .next (chooseNext ended)) ∧
     (∀ next more, rest = next :: more → ∀ a, a = answerTo ended next →
       exec .replyEnd s = .next (chooseNext { a.state with link := { a.state.link with
         formed := some ⟨replyKind next.kind, next.tag, a.state.summary, a.code, a.data⟩ } })))

/-- REPLY_END of a SOFT_RESET's reply: every block takes its soft-reset values, the messages waiting are removed
without replies, and the link error latch is cleared. That the image memories keep their bytes is the model's
choice (log entry 14), and that the exchange in flight is marked to be discarded at this moment, an ASSIGN being sent
left to complete, is the model's reading (log entry 12). -/
def Obligations.SoftResetTakesEffect : Prop :=
  ∀ (s : State) (tag summary : Byte), s.resetLow = false → s.link.transmitter = .reply →
    s.link.formed = some ⟨0x82, tag, summary, .ok, []⟩ →
    ∃ t, exec .replyEnd s = .next t ∧ t.pending = s.pending ∧ t.resetLow = s.resetLow ∧
      t.rq = { s.rq with entries := [], history := [] } ∧
      (∀ i : Fin 8, t.pbc.registry.get i = { s.pbc.registry.get i with news := none }) ∧
      t.pbc.enabled = s.pbc.enabled ∧ t.pbc.roundCounter = s.pbc.roundCounter ∧
      t.pbc.pacingMark = s.pbc.pacingMark ∧ t.pbc.roundInFlight = s.pbc.roundInFlight ∧
      (∀ ex, s.pbc.exchange = some ex → t.pbc.exchange =
        some (if ex.stage = .assigning then ex else { ex with discarded := true })) ∧
      (s.pbc.exchange = none → t.pbc.exchange = none) ∧
      (∀ n : SlotName, (t.slot n).state = .empty ∧ (t.slot n).held = none ∧ (t.slot n).coverage = 0 ∧
        (t.slot n).fault = ⟨.none, .none, 0⟩ ∧ (t.slot n).image = (s.slot n).image) ∧
      t.tr = { s.tr with state := .idle, t := 0, duration := 0, slew := 0, syncTimer := 0, settleCount := 0,
                         holdCount := 0, cueStallCount := 0, resultCountdown := 0, finish := none, epoch := 0,
                         jumpCount := 0 } ∧
      t.mfe = s.mfe ∧
      t.su.bindings = s.su.bindings ∧ t.su.level = s.su.level ∧ t.su.fold = s.su.fold ∧
      t.su.latency = s.su.latency ∧ (∀ k : Fin 4, t.su.lanes.get k = Lane.reset) ∧
      t.llu.mode = .none ∧ t.llu.leadIn = s.llu.leadIn ∧ t.llu.linger = s.llu.linger ∧
      t.llu.songLeadIn = s.llu.songLeadIn ∧ t.llu.songLinger = s.llu.songLinger ∧
      (∀ k : Fin 4, t.llu.rows.get k = { shown := none, deferred := none, next := none, late := 0 }) ∧
      t.cmp = s.cmp ∧
      t.att = { s.att with latched := s.att.latched &&& s.att.kept, noticePending := false } ∧
      t.link = { s.link with queue := [], formed := none, transmitter := .idle, linkError := false }

/-! ## Attention Unit (Chapter 10) -/

/-- A raise: of a masked member nothing changes; of one unmasked and latched nothing changes; one unmasked and
clear becomes latched, no other member changing, and attention pending and notice pending are set. Two raises leave
the same in either order. -/
def Obligations.RaiseLatches : Prop :=
  ∀ (a : Attention) (m : Member),
    (∀ m' : Member, (a.raise m).raise m' = (a.raise m').raise m) ∧
    (AttentionSet.has a.mask m = true → a.raise m = a) ∧
    (AttentionSet.has a.latched m = true → a.raise m = a) ∧
    (AttentionSet.has a.mask m = false → AttentionSet.has a.latched m = false →
      (a.raise m).noticePending = true ∧ (a.raise m).pending = true ∧ (a.raise m).mask = a.mask ∧
      (a.raise m).micAbsentHolds = a.micAbsentHolds ∧ (a.raise m).videoLostHolds = a.videoLostHolds ∧
      ∀ m' : Member, AttentionSet.has (a.raise m).latched m' = (AttentionSet.has a.latched m' || m' == m))

/-- ATTENTION_READ, ATTENTION_MASK and ATTENTION_ACK. The reading changes nothing. A mask naming members alone
replaces the mask set whole. An acknowledgement clears each named member but MIC_ABSENT and VIDEO_LOST while their
conditions hold; the others stand; an emptied set cancels the pending notice; naming LINK_ERROR clears the link error
latch; the reply carries the set left. A set holding bit 14 or 15 is refused with BAD_VALUE. -/
def Obligations.AttentionMessages : Prop :=
  (∀ (s : State) (tag : Byte) (x : Half), LinkFree s →
     exec (.attentionRead tag) s = .next (s.answered ⟨0x08, tag, []⟩ .ok
       (le16 (s.att.latched.setWidth 16) ++ le16 (s.att.mask.setWidth 16) ++
         [(if s.att.micAbsentHolds then 1 else 0) + (if s.att.videoLostHolds then 2 else 0),
           if s.att.noticePending then 1 else 0])) ∧
     (x.getLsbD 14 = false → x.getLsbD 15 = false →
       exec (.attentionMask tag x) s = .next (State.answered
         { s with att := { s.att with mask := x.setWidth 14 } } ⟨0x0A, tag, le16 x⟩ .ok (le16 x))) ∧
     (x.getLsbD 14 = true ∨ x.getLsbD 15 = true →
       exec (.attentionMask tag x) s = .next (s.answered ⟨0x0A, tag, le16 x⟩ .badValue []))) ∧
  (∀ (s : State) (tag : Byte) (x : Half), LinkFree s →
     (x.getLsbD 14 = true ∨ x.getLsbD 15 = true →
       exec (.attentionAck tag x) s = .next (s.answered ⟨0x09, tag, le16 x⟩ .badValue [])) ∧
     (x.getLsbD 14 = false → x.getLsbD 15 = false → ∃ left : AttentionSet,
       (∀ m : Member, AttentionSet.has left m =
         (AttentionSet.has s.att.latched m && !(x.getLsbD m.bit &&
           !(m == .micAbsent && s.att.micAbsentHolds) && !(m == .videoLost && s.att.videoLostHolds)))) ∧
       exec (.attentionAck tag x) s = .next (State.answered
         { s with
           att := { s.att with latched := left, noticePending := s.att.noticePending && left != 0 }
           link := { s.link with linkError := s.link.linkError && !x.getLsbD 13 } }
         ⟨0x09, tag, le16 x⟩ .ok (le16 (left.setWidth 16)))))

/-! ## Request Queue (Chapter 1) -/

/-- The id a new entry takes, the queue and history being within their bounds: the first at or after next-id,
wrapping from 255 to 1, that no entry and no history record holds. The entry made carries it, and next-id becomes that
id plus one, with 255 plus one taken as 1. -/
def Obligations.FirstFreeIdIsTaken : Prop :=
  ∀ r : RequestQueue, r.bounded →
    (∃ k < 255, r.freeId = (r.nextId - 1 + k) % 255 + 1 ∧
      (∀ e ∈ r.entries, e.id ≠ r.freeId) ∧ (∀ h ∈ r.history, h.id ≠ r.freeId) ∧
      ∀ j < k, (∃ e ∈ r.entries, e.id = (r.nextId - 1 + j) % 255 + 1) ∨
        ∃ h ∈ r.history, h.id = (r.nextId - 1 + j) % 255 + 1) ∧
    ∀ (song p : Nat) (lane : QueueLane) (origin : Origin) (list : List Requester),
      (∃ e ∈ (r.make song lane origin list p).entries, e.id = r.freeId ∧ e.song = song ∧ e.lane = lane) ∧
      (r.make song lane origin list p).nextId = (if r.freeId = 255 then 1 else r.freeId + 1)

/-- A REQUEST record handed to RQ: the first of the checks of R9 that applies decides, and a request that passes
them makes a PENDING entry of origin PAD at the tail of the lane R10 gives it, with the next arrival number; the
outcome carries the entry's id and position. -/
def Obligations.RequestIsDecided : Prop :=
  ∀ (s : State) (pad song part : Nat) (rush : Bool),
    let q := s.rq.entries
    (song < 1 ∨ 999999 < song → takeRequest s pad song part rush = (s, ⟨.badNumber, 0, 0⟩)) ∧
    (1 ≤ song → song ≤ 999999 → ∀ e, waitingSong q song = some e →
      (e.lists pad = true → takeRequest s pad song part rush = (s, ⟨.duplicate, e.id, positionOf q e.id⟩)) ∧
      (e.lists pad = false → e.requesters.length < 4 → takeRequest s pad song part rush =
        (State.raise { s with rq := { s.rq with entries := q.map fun x => if x.id = e.id then
            { x with requesters := x.requesters ++
                [⟨pad, match e.catalogue with
                  | some c => if c.parts < part then 0 else part
                  | none => part⟩] } else x } }
          .queueChanged, ⟨.merged, e.id, positionOf q e.id⟩)) ∧
      (e.lists pad = false → 4 ≤ e.requesters.length →
        takeRequest s pad song part rush = (s, ⟨.mergeFull, e.id, positionOf q e.id⟩))) ∧
    (1 ≤ song → song ≤ 999999 → waitingSong q song = none →
      (s.rq.padLimit ≤ padWaitingCount q pad → takeRequest s pad song part rush = (s, ⟨.limit, 0, 0⟩)) ∧
      (padWaitingCount q pad < s.rq.padLimit → 32 ≤ q.length →
        takeRequest s pad song part rush = (s, ⟨.queueFull, 0, 0⟩)) ∧
      (padWaitingCount q pad < s.rq.padLimit → q.length < 32 →
        let toRush := rush && s.rq.rushEnabled && decide (rushCount q < 2) &&
          !(laneEntries q .rush).any (fun e => e.lists pad)
        let entry : Entry := { id := s.rq.freeId, song := song, lane := if toRush then .rush else .normal,
                               state := .pending, origin := .pad, requesters := [⟨pad, part⟩],
                               catalogue := none, arrival := (s.rq.arrivals + 1) % 4294967296 }
        let q1 := (q.filter fun e => !e.waits) ++ laneEntries q .rush ++ (if toRush then [entry] else []) ++
          laneEntries q .normal ++ (if toRush then [] else [entry])
        takeRequest s pad song part rush =
          (State.raise (State.raise { s with rq := { s.rq with
              entries := q1, nextId := s.rq.freeId % 255 + 1, arrivals := (s.rq.arrivals + 1) % 4294967296 } }
            .newRequest) .queueChanged,
           ⟨if rush && !toRush then .demoted else .accepted, s.rq.freeId, positionOf q1 s.rq.freeId⟩)))

/-- A WITHDRAW record handed to RQ: NOT_WAITING when no waiting entry of the song lists the pad; else the pad's
item goes, and an OPERATOR entry, or one whose list is not left empty, stays. A PAD entry left empty leaves the
queue and the slot that holds it is emptied; then auto-advance is tested in the same arrival (SongEnds says what that
does). -/
def Obligations.WithdrawIsDecided : Prop :=
  ∀ (s : State) (pad song : Nat),
    ((∀ e ∈ s.rq.entries, e.waits = true → e.song = song → e.lists pad = false) →
      takeWithdraw s pad song = (s, ⟨.notWaiting, 0, 0⟩)) ∧
    (∀ e, ((waiting s.rq.entries).find? fun e => e.song == song && e.lists pad) = some e →
      let left := e.requesters.filter fun r => r.pad != pad
      (left ≠ [] ∨ e.origin = .operator →
        takeWithdraw s pad song = (State.raise { s with rq := { s.rq with
          entries := s.rq.entries.map fun x => if x.id = e.id then
            { x with requesters := x.requesters.filter fun r => r.pad != pad } else x } } .queueChanged,
          ⟨.withdrawn, e.id, 0⟩)) ∧
      (left = [] → e.origin = .pad →
        ∃ t : State, takeWithdraw s pad song = (t.autoAdvance, ⟨.withdrawn, e.id, 0⟩) ∧
          t.rq = { s.rq with entries := s.rq.entries.filter fun x => x.id != e.id } ∧
          t.att = s.att.raise .queueChanged ∧ t.pbc = s.pbc ∧ t.tr = s.tr ∧ t.su = s.su ∧ t.llu = s.llu ∧
          t.mfe = s.mfe ∧ t.cmp = s.cmp ∧ t.link = s.link ∧ t.pending = s.pending ∧ t.resetLow = s.resetLow ∧
          t.blocks = s.blocks ∧ t.draws = s.draws ∧
          ∀ n : SlotName, t.slot n = if s.slotHolding e.id = some n then (s.slot n).emptied else s.slot n))

/-- RESOLVE. The refusals of either verdict come in their order: BAD_VALUE, NOT_FOUND, BAD_STATE. Verdict FOUND makes a
PENDING entry READY, sets its catalogue fields and lowers part choices above the parts count to 0; the reply carries the
entry's position. Verdict ABSENT removes a PENDING entry and tells each pad on its list DROPPED, NOT_IN_CATALOGUE; the
reply carries position 0, and auto-advance is tested in the same arrival (SongEnds says what that does). -/
def Obligations.ResolveSettlesEntry : Prop :=
  ∀ (s : State) (tag id parts : Byte) (title : List Half), LinkFree s → title.length ≤ 255 →
    let fields : List Byte := [parts, BitVec.ofNat 8 title.length] ++ title.flatMap le16
    let good := 1 ≤ parts.toNat ∧ parts.toNat ≤ 4 ∧ title.length ≤ 32 ∧ ∀ c ∈ title, 1 ≤ c.toNat ∧ c.toNat ≤ 4095
    (∀ found : Bool,
      let c : Instr := if found then .resolveFound tag id parts title else .resolveAbsent tag id parts title
      let m : Message := ⟨0x10, tag, [id, if found then 1 else 0] ++ fields⟩
      (¬ good → exec c s = .next (s.answered m .badValue [])) ∧
      (good → findEntry s.rq.entries id.toNat = none → exec c s = .next (s.answered m .notFound [])) ∧
      (good → ∀ e, findEntry s.rq.entries id.toNat = some e → e.state ≠ .pending →
        exec c s = .next (s.answered m .badState []))) ∧
    (good → ∀ e, findEntry s.rq.entries id.toNat = some e → e.state = .pending →
      exec (.resolveFound tag id parts title) s = .next (State.answered
        { s with
          rq := { s.rq with entries := s.rq.entries.map fun x => if x.id = id.toNat then
            { x with state := .ready
                     catalogue := some ⟨parts.toNat, title.map BitVec.toNat⟩
                     requesters := x.requesters.map fun r =>
                       if parts.toNat < r.part then { r with part := 0 } else r } else x }
          att := s.att.raise .queueChanged }
        ⟨0x10, tag, [id, 1] ++ fields⟩ .ok [id, BitVec.ofNat 8 (positionOf s.rq.entries id.toNat)]) ∧
      exec (.resolveAbsent tag id parts title) s = .next (State.answered
        (State.autoAdvance { s with
          rq := { s.rq with entries := s.rq.entries.filter fun x => x.id != id.toNat }
          pbc := { s.pbc with registry := s.pbc.registry.mapIdx fun i p =>
            if e.requesters.any (fun r => r.pad == i.val + 1) then
              { p with news := some ⟨.dropped .notInCatalogue, e.song⟩, newsCounter := (p.newsCounter + 1) % 16 }
            else p }
          att := s.att.raise .queueChanged })
        ⟨0x10, tag, [id, 0] ++ fields⟩ .ok [id, 0]))

/-- QUEUE_ADD: the refusals in their order, EXISTS carrying the waiting entry's id; else a PENDING OPERATOR entry
with an empty list stands in the named lane at the lane position clamped into 1 to the tail, and the reply carries
its id, that lane position and its position. NEW_REQUEST is not raised. -/
def Obligations.QueueAddMakesOperatorEntry : Prop :=
  ∀ (s : State) (tag lane lanePos : Byte) (song : Word), LinkFree s →
    let m : Message := ⟨0x11, tag, le32 song ++ [lane, lanePos]⟩
    let q := s.rq.entries
    let bad := 1 < lane.toNat ∨ song.toNat < 1 ∨ 999999 < song.toNat
    let l : QueueLane := if lane = 1 then .rush else .normal
    (bad → exec (.queueAdd tag song lane lanePos) s = .next (s.answered m .badValue [])) ∧
    (¬ bad → ∀ e, waitingSong q song.toNat = some e →
      exec (.queueAdd tag song lane lanePos) s = .next (s.answered m .exists [BitVec.ofNat 8 e.id])) ∧
    (¬ bad → waitingSong q song.toNat = none → 32 ≤ q.length ∨ (l = .rush ∧ 2 ≤ rushCount q) →
      exec (.queueAdd tag song lane lanePos) s = .next (s.answered m .full [])) ∧
    (¬ bad → waitingSong q song.toNat = none → q.length < 32 → (l = .rush → rushCount q < 2) →
      let p := max 1 (min ((laneEntries q l).length + 1) lanePos.toNat)
      let entry : Entry := { id := s.rq.freeId, song := song.toNat, lane := l, state := .pending,
                             origin := .operator, requesters := [], catalogue := none,
                             arrival := (s.rq.arrivals + 1) % 4294967296 }
      let placed := (laneEntries q l).take (p - 1) ++ entry :: (laneEntries q l).drop (p - 1)
      let q1 := (q.filter fun e => !e.waits) ++
        (if l = .rush then placed ++ laneEntries q .normal else laneEntries q .rush ++ placed)
      exec (.queueAdd tag song lane lanePos) s = .next (State.answered
        { s with
          rq := { s.rq with entries := q1, nextId := s.rq.freeId % 255 + 1,
                            arrivals := (s.rq.arrivals + 1) % 4294967296 }
          att := s.att.raise .queueChanged }
        m .ok [BitVec.ofNat 8 s.rq.freeId, BitVec.ofNat 8 p, BitVec.ofNat 8 (positionOf q1 s.rq.freeId)]))

/-- QUEUE_MOVE: the refusals in their order, a lane that names none with BAD_VALUE, an unknown id with NOT_FOUND, the
PLAYING entry with BAD_STATE, a full RUSH lane with FULL. A waiting entry is taken out, its lane set, and put back at
the clamped lane position; QUEUE_CHANGED is raised when the queue has changed, and auto-advance is tested in the same
arrival (SongEnds says what that does). That the reply carries the position before any cueing is the model's choice (log
entry 22). -/
def Obligations.QueueMovePlacesEntry : Prop :=
  ∀ (s : State) (tag id lane lanePos : Byte), LinkFree s →
    let m : Message := ⟨0x12, tag, [id, lane, lanePos]⟩
    let refused (c : ResultCode) := exec (.queueMove tag id lane lanePos) s = .next (s.answered m c [])
    (1 < lane.toNat → refused .badValue) ∧
    (lane.toNat ≤ 1 → findEntry s.rq.entries id.toNat = none → refused .notFound) ∧
    (lane.toNat ≤ 1 → ∀ e, findEntry s.rq.entries id.toNat = some e →
      let others := s.rq.entries.filter fun x => x.id != id.toNat
      let l : QueueLane := if lane = 1 then .rush else .normal
      (e.state = .playing → refused .badState) ∧
      (e.state ≠ .playing → l = .rush → 2 ≤ rushCount others → refused .full) ∧
      (e.state ≠ .playing → (l = .rush → rushCount others < 2) →
        let p := max 1 (min ((laneEntries others l).length + 1) lanePos.toNat)
        let placed := (laneEntries others l).take (p - 1) ++ { e with lane := l } :: (laneEntries others l).drop (p - 1)
        let q1 := (others.filter fun e => !e.waits) ++
          (if l = .rush then placed ++ laneEntries others .normal else laneEntries others .rush ++ placed)
        exec (.queueMove tag id lane lanePos) s = .next (State.answered
          (State.autoAdvance { s with
            rq := { s.rq with entries := q1 }
            att := if q1 = s.rq.entries then s.att else s.att.raise .queueChanged })
          m .ok [BitVec.ofNat 8 p, BitVec.ofNat 8 (positionOf q1 id.toNat)])))

/-- QUEUE_CANCEL: a waiting entry leaves the queue, the slot that holds it becomes EMPTY, each pad on its list is
told DROPPED, CANCELLED, QUEUE_CHANGED is raised, and auto-advance is tested in the same arrival (SongEnds says what
that does); the PLAYING entry is refused with BAD_STATE and an unknown id with NOT_FOUND. -/
def Obligations.QueueCancelRemovesEntry : Prop :=
  ∀ (s : State) (tag id : Byte), LinkFree s →
    (findEntry s.rq.entries id.toNat = none →
      exec (.queueCancel tag id) s = .next (s.answered ⟨0x13, tag, [id]⟩ .notFound [])) ∧
    (∀ e, findEntry s.rq.entries id.toNat = some e →
      (e.state = .playing →
        exec (.queueCancel tag id) s = .next (s.answered ⟨0x13, tag, [id]⟩ .badState [])) ∧
      (e.state ≠ .playing →
        exec (.queueCancel tag id) s = .next (State.answered
          (State.autoAdvance { s with
            rq := { s.rq with entries := s.rq.entries.filter fun x => x.id != id.toNat }
            slotA := if s.slotHolding id.toNat = some .a then s.slotA.emptied else s.slotA
            slotB := if s.slotHolding id.toNat = some .b then s.slotB.emptied else s.slotB
            pbc := { s.pbc with registry := s.pbc.registry.mapIdx fun i p =>
              if e.requesters.any (fun r => r.pad == i.val + 1) then
                { p with news := some ⟨.dropped .cancelled, e.song⟩, newsCounter := (p.newsCounter + 1) % 16 }
              else p }
            att := s.att.raise .queueChanged })
          ⟨0x13, tag, [id]⟩ .ok [])))

/-- QUEUE_READ, HISTORY_READ and POLICY: readings change nothing; QUEUE_READ gives the counts and, in list order
from the first position, at most the asked number of records of 88 bytes, every field of each; HISTORY_READ gives every
field of its record and refuses an index no record stands at; POLICY applies its values together, the limit clamped into 1..8. -/
def Obligations.QueueReadingsAndPolicy : Prop :=
  ∀ (s : State) (tag x y : Byte), LinkFree s →
    (32 < x.toNat ∨ y.toNat < 1 ∨ 8 < y.toNat →
      exec (.queueRead tag x y) s = .next (s.answered ⟨0x14, tag, [x, y]⟩ .badValue [])) ∧
    (x.toNat ≤ 32 → 1 ≤ y.toNat → y.toNat ≤ 8 → ∃ data records,
      exec (.queueRead tag x y) s = .next (s.answered ⟨0x14, tag, [x, y]⟩ .ok data) ∧
      records = (((if x = 0 then (playingEntry s.rq.entries).toList else []) ++
        (waiting s.rq.entries).drop (x.toNat - 1)).take y.toNat) ∧
      data.length = 4 + 88 * records.length ∧
      u8 data 0 = BitVec.ofNat 8 (waiting s.rq.entries).length ∧ u8 data 1 = BitVec.ofNat 8 (rushCount s.rq.entries) ∧
      u8 data 2 = (if (playingEntry s.rq.entries).isSome then 1 else 0) ∧
      u8 data 3 = BitVec.ofNat 8 records.length ∧
      ∀ k e, records[k]? = some e →
        u8 data (4 + 88 * k) = BitVec.ofNat 8 (positionOf s.rq.entries e.id) ∧
        u8 data (5 + 88 * k) = BitVec.ofNat 8 e.id ∧ u32 data (6 + 88 * k) = BitVec.ofNat 32 e.song ∧
        u8 data (10 + 88 * k) = (match e.lane with | .normal => 0 | .rush => 1) ∧
        u8 data (11 + 88 * k) =
          (match e.state with | .pending => 0 | .ready => 1 | .loading => 2 | .staged => 3 | .playing => 4) ∧
        u8 data (12 + 88 * k) = (match e.origin with | .pad => 0 | .operator => 1) ∧
        u32 data (13 + 88 * k) = BitVec.ofNat 32 e.arrival ∧ u8 data (17 + 88 * k) = BitVec.ofNat 8 e.requesters.length ∧
        (∀ j < 4,
          u8 data (18 + 88 * k + 2 * j) = BitVec.ofNat 8 ((e.requesters[j]?.map (·.pad)).getD 0) ∧
          u8 data (19 + 88 * k + 2 * j) = BitVec.ofNat 8 ((e.requesters[j]?.map (·.part)).getD 0)) ∧
        u8 data (26 + 88 * k) = BitVec.ofNat 8 ((e.catalogue.map (·.parts)).getD 0) ∧
        u8 data (27 + 88 * k) = BitVec.ofNat 8 ((e.catalogue.map (·.title.length)).getD 0) ∧
        ∀ j < 32, u16 data (28 + 88 * k + 2 * j) =
          BitVec.ofNat 16 (((e.catalogue.map (·.title)).getD []).getD j 0)) ∧
    (7 < x.toNat → exec (.historyRead tag x) s = .next (s.answered ⟨0x15, tag, [x]⟩ .badValue [])) ∧
    (x.toNat ≤ 7 → s.rq.history.length ≤ x.toNat →
      exec (.historyRead tag x) s = .next (s.answered ⟨0x15, tag, [x]⟩ .notFound [])) ∧
    (x.toNat ≤ 7 → ∀ h, s.rq.history[x.toNat]? = some h → ∃ data,
      exec (.historyRead tag x) s = .next (s.answered ⟨0x15, tag, [x]⟩ .ok data) ∧ data.length = 52 ∧
      u8 data 0 = BitVec.ofNat 8 s.rq.history.length ∧ u8 data 1 = BitVec.ofNat 8 h.id ∧
      u32 data 2 = BitVec.ofNat 32 h.song ∧ u8 data 6 = BitVec.ofNat 8 h.requesters.length ∧
      (∀ j < 4, u8 data (7 + 2 * j) = BitVec.ofNat 8 ((h.requesters[j]?.map (·.pad)).getD 0) ∧
        u8 data (8 + 2 * j) = BitVec.ofNat 8 ((h.requesters[j]?.map (·.part)).getD 0)) ∧
      u8 data 15 = (match h.finish with | .completed => 1 | .aborted => 2 | .skipped => 3) ∧
      ∀ k : Fin 4, u8 data (16 + 9 * k.val) = BitVec.ofNat 8 ((h.lanes.get k).part.getD 0) ∧
        u16 data (17 + 9 * k.val) = BitVec.ofNat 16 ((h.lanes.get k).score.getD 0xFFFF) ∧
        u16 data (19 + 9 * k.val) = BitVec.ofNat 16 (h.lanes.get k).scored ∧
        u16 data (21 + 9 * k.val) = BitVec.ofNat 16 (h.lanes.get k).empty ∧
        u16 data (23 + 9 * k.val) = BitVec.ofNat 16 (h.lanes.get k).void) ∧
    (1 < x.toNat → exec (.policy tag x y) s = .next (s.answered ⟨0x16, tag, [x, y]⟩ .badValue [])) ∧
    (x.toNat ≤ 1 → exec (.policy tag x y) s = .next (State.answered
      { s with rq := { s.rq with rushEnabled := x == 1, padLimit := max 1 (min 8 y.toNat) } }
      ⟨0x16, tag, [x, y]⟩ .ok [x, BitVec.ofNat 8 (max 1 (min 8 y.toNat))]))

/-- The queue and history stay within their bounds at every step. So, together, do the queue's order and the match of
queue, slots and Transport: at most one PLAYING entry, then the waiting RUSH entries, at most 2, then the NORMAL ones; no
two waiting entries of one song; distinct ids over queue and history; every slot and the entry it holds in matching
states, every LOADING, STAGED or PLAYING entry held by one slot, at most one slot ACTIVE, and the Transport IDLE exactly
when no entry is PLAYING. -/
def Obligations.QueueStaysBounded : Prop :=
  (∀ s t : State, s.rq.bounded → step s = .next t → t.rq.bounded) ∧
  (∀ s t : State, s.matched → step s = .next t → t.matched)

/-! ## Pad Bus Controller (Chapter 2) -/

/-- Where a round's next exchange goes once one completes: to the lowest ENROLLED address above every address
polled, its POLL carrying that pad's feedback; with none left, to the join window when the round's counter is 0,
and otherwise the round ends. A round to be ended ends. Nothing but the bus's own state changes. The completion of an
exchange that SOFT_RESET has marked ends the round and does nothing else, and that of an exchange with a pad released
meanwhile takes the round on and does nothing else, whatever frame or silence completes it (that a whole frame and the
reply timeout imply that the POLL has been sent: log entry 10). -/
def Obligations.RoundGoesOn : Prop :=
  (∀ (s : State) (ex : Exchange) (c : Instr), s.resetLow = false → s.pbc.exchange = some ex → ex.completedBy c →
    (ex.discarded = true → exec c s = .next (chooseNext { s with pbc := { s.pbc with
      exchange := none, roundInFlight := false, roundEnding := false } })) ∧
    (∀ i : Fin 8, ex.discarded = false → ex.target = .pad i → (s.pbc.registry.get i).state ≠ .enrolled →
      exec c s = .next (chooseNext s.afterExchange))) ∧
  ∀ s : State, s.afterExchange = { s with pbc := s.afterExchange.pbc } ∧
    (s.pbc.roundEnding = true → s.afterExchange.pbc.exchange = none ∧ s.afterExchange.pbc.roundInFlight = false) ∧
    (s.pbc.roundEnding = false →
      (∀ i : Fin 8, (s.pbc.registry.get i).state = .enrolled → s.pbc.lastPolled ≤ i.val →
        (∀ j < i, (s.pbc.registry.get j).state = .enrolled → j.val < s.pbc.lastPolled) →
        s.afterExchange.pbc = { s.pbc with
          lastPolled := i.val + 1
          exchange := some ⟨.pad i, .poll (i.val + 1)
            { lastOutcome := (s.pbc.registry.get i).lastOutcome, news := (s.pbc.registry.get i).news,
              newsCounter := (s.pbc.registry.get i).newsCounter,
              playingSong := ((playingEntry s.rq.entries).map (·.song)).getD 0,
              firstPosition := padFirstPosition s.rq.entries (i.val + 1) }, .sending, false⟩ }) ∧
      ((∀ i : Fin 8, (s.pbc.registry.get i).state = .enrolled → i.val < s.pbc.lastPolled) →
        (s.pbc.roundCounter = 0 →
          s.afterExchange.pbc = { s.pbc with exchange := some ⟨.joinWindow, .invite, .sending, false⟩ }) ∧
        (s.pbc.roundCounter ≠ 0 →
          s.afterExchange.pbc = { s.pbc with exchange := none, roundInFlight := false })))

/-- POLLING_ROUND: with the bus enabled, no round in flight and the pacing met, a round begins: the pacing mark
names this block completion, the counter advances modulo 4, and the lowest ENROLLED address is polled; with no address
ENROLLED the join window opens in a join round, and any other round ends at once. The POLL's feedback is that of the
registry and queue before the Transport's steps of this block completion or after them, which of the two being left open
(log entry 1). With the Transport IDLE nothing in the block completion touches either. -/
def Obligations.PollingRoundBegins : Prop :=
  ∀ (s : State) (input : BlockInput), s.resetLow = false → s.pbc.enabled = true → s.pbc.roundInFlight = false →
    (∀ m, s.pbc.pacingMark = some m → m + 2 ≤ s.blocks + 1) →
    let seen (v : State) (i : Fin 8) : Feedback :=
      { lastOutcome := (v.pbc.registry.get i).lastOutcome, news := (v.pbc.registry.get i).news,
        newsCounter := (v.pbc.registry.get i).newsCounter,
        playingSong := ((playingEntry v.rq.entries).map (·.song)).getD 0,
        firstPosition := padFirstPosition v.rq.entries (i.val + 1) }
    ∃ t, exec (.pollingRound input) s = .next t ∧ exec (.blockCompletion input) s = .next t ∧ t.blocks = s.blocks + 1 ∧
      t.pbc.pacingMark = some (s.blocks + 1) ∧ t.pbc.roundCounter = (s.pbc.roundCounter + 1) % 4 ∧
      t.pbc.enabled = true ∧ t.pbc.roundEnding = false ∧
      (s.tr.state = .idle → t.pbc.registry = s.pbc.registry ∧ t.rq = s.rq ∧ t.tr = s.tr ∧ t.llu = s.llu ∧
        t.cmp = s.cmp ∧ t.slotA = s.slotA ∧ t.slotB = s.slotB) ∧
      (∀ i : Fin 8, (s.pbc.registry.get i).state = .enrolled →
        (∀ j < i, (s.pbc.registry.get j).state ≠ .enrolled) → t.pbc.roundInFlight = true ∧
        t.pbc.lastPolled = i.val + 1 ∧
        ∃ feedback, t.pbc.exchange = some ⟨.pad i, .poll (i.val + 1) feedback, .sending, false⟩ ∧
          (feedback = seen s i ∨ feedback = seen t i)) ∧
      ((∀ i : Fin 8, (s.pbc.registry.get i).state ≠ .enrolled) →
        (t.pbc.roundCounter = 0 →
          t.pbc.roundInFlight = true ∧ t.pbc.exchange = some ⟨.joinWindow, .invite, .sending, false⟩) ∧
        (t.pbc.roundCounter ≠ 0 → t.pbc.roundInFlight = false ∧ t.pbc.exchange = none))

/-- A good completion that carries IDLE, or a REQUEST or WITHDRAW whose toggle differs from the expected one, only
lowers the pad's strike count by 1, never below 0, and the round goes on or ends (RoundGoesOn), in a round that PAD_BUS is
to end as well: no other record, and nothing of the other blocks, changes. That a
whole frame implies that the POLL has been sent is the model's choice (log entry 10). -/
def Obligations.IdleAndRepeatOnlyForgive : Prop :=
  ∀ (s : State) (i : Fin 8) (ex : Exchange) (toggle rush : Bool) (song : Word) (part : Byte) (c : Instr),
    s.polling i ex → part.toNat ≤ 4 → toggle ≠ (s.pbc.registry.get i).expectedToggle →
    (c = .idleRecord (BitVec.ofNat 8 (i.val + 1)) ∨
      c = .request (BitVec.ofNat 8 (i.val + 1)) toggle song part rush ∨
      c = .withdraw (BitVec.ofNat 8 (i.val + 1)) toggle song) →
    ∃ t, exec c s = .next t ∧
      t = chooseNext (State.afterExchange { s with pbc := { s.pbc with
        registry := s.pbc.registry.set i
          { s.pbc.registry.get i with strikes := (s.pbc.registry.get i).strikes - 1 } } }) ∧
      t.pbc.registry = s.pbc.registry.set i
        { s.pbc.registry.get i with strikes := (s.pbc.registry.get i).strikes - 1 } ∧
      t.rq = s.rq ∧ t.slotA = s.slotA ∧ t.slotB = s.slotB ∧ t.tr = s.tr ∧ t.mfe = s.mfe ∧ t.su = s.su ∧
      t.llu = s.llu ∧ t.cmp = s.cmp ∧ t.att.latched = s.att.latched ∧ t.att.mask = s.att.mask ∧ s.sameLink t

/-- A good completion with a REQUEST or WITHDRAW whose toggle is the expected one: the strike count falls by 1,
RQ takes the record, and its outcome is stored with the toggle, the expected toggle inverted; then the round goes on or
ends (RoundGoesOn), in a round that PAD_BUS is to end as well. That a whole frame implies
that the POLL has been sent is the model's choice (log entry 10). -/
def Obligations.RecordsReachTheQueue : Prop :=
  ∀ (s : State) (i : Fin 8) (ex : Exchange) (rush : Bool) (song : Word) (part : Byte), s.polling i ex →
    part.toNat ≤ 4 →
    let p := s.pbc.registry.get i
    let forgiven : State := { s with pbc := { s.pbc with
      registry := s.pbc.registry.set i { p with strikes := p.strikes - 1 } } }
    (∃ t, exec (.request (BitVec.ofNat 8 (i.val + 1)) p.expectedToggle song part rush) s = .next t ∧
      let r := takeRequest forgiven (i.val + 1) song.toNat part.toNat rush
      t = chooseNext (State.afterExchange { r.1 with pbc := { r.1.pbc with
        registry := r.1.pbc.registry.set i { r.1.pbc.registry.get i with
          lastOutcome := ⟨p.expectedToggle, r.2⟩, expectedToggle := !p.expectedToggle } } }) ∧
      t.rq = r.1.rq ∧ t.att.latched = r.1.att.latched ∧
      t.pbc.registry = s.pbc.registry.set i { p with
        strikes := p.strikes - 1, lastOutcome := ⟨p.expectedToggle, r.2⟩, expectedToggle := !p.expectedToggle } ∧
      t.slotA = s.slotA ∧ t.slotB = s.slotB ∧ t.tr = s.tr ∧ t.mfe = s.mfe ∧ t.su = s.su ∧ t.llu = s.llu ∧
      t.cmp = s.cmp ∧ s.sameLink t) ∧
    (∃ t, exec (.withdraw (BitVec.ofNat 8 (i.val + 1)) p.expectedToggle song) s = .next t ∧
      let r := takeWithdraw forgiven (i.val + 1) song.toNat
      t = chooseNext (State.afterExchange { r.1 with pbc := { r.1.pbc with
        registry := r.1.pbc.registry.set i { r.1.pbc.registry.get i with
          lastOutcome := ⟨p.expectedToggle, r.2⟩, expectedToggle := !p.expectedToggle } } }) ∧
      t.rq = r.1.rq ∧ t.att.latched = r.1.att.latched ∧
      t.pbc.registry = r.1.pbc.registry.set i { r.1.pbc.registry.get i with
        lastOutcome := ⟨p.expectedToggle, r.2⟩, expectedToggle := !p.expectedToggle } ∧
      t.slotA = r.1.slotA ∧ t.slotB = r.1.slotB ∧ t.tr = r.1.tr ∧ t.mfe = s.mfe ∧ t.su = r.1.su ∧
      t.llu = r.1.llu ∧ t.cmp = s.cmp ∧ s.sameLink t)

/-- A faulty completion of the exchange with an ENROLLED pad, by the reply timeout (which implies that the POLL has been
sent: log entry 10), by a character gap inside the
uplink frame, or by a whole frame whose check is wrong, whose address is another's, or whose record is no
well-formed IDLE, REQUEST or WITHDRAW: a strike, after which the round goes on or ends (RoundGoesOn), in a round that
PAD_BUS is to end as well, and nothing else. The strike that makes 8 silences the record and raises PAD_SILENCED. -/
def Obligations.FaultyExchangeStrikes : Prop :=
  ∀ (s : State) (i : Fin 8) (ex : Exchange) (c : Instr), s.polling i ex → (s.pbc.registry.get i).strikes < 8 →
    (((ex.stage = .sending ∨ ex.stage = .awaiting) ∧
        (c = .padReplyTimeout ∨ (c = .padSilencing .timeout ∧ (s.pbc.registry.get i).strikes = 7))) ∨
      ((∃ bytes, ex.stage = .receiving bytes) ∧
        (c = .uplinkCharacterGap ∨ (c = .padSilencing .characterGap ∧ (s.pbc.registry.get i).strikes = 7))) ∨
      (∃ bytes, oneUplinkFrame bytes = true ∧
        (crc (bytes.take (bytes.length - 2)) ≠ u16 bytes (bytes.length - 2) ∨
          (u8 bytes 0).toNat ≠ i.val + 1 ∨ 2 < u8 bytes 1 ∨ (u8 bytes 1 = 0 ∧ u8 bytes 2 ≠ 0) ∨
          (u8 bytes 1 = 1 ∧ (u8 bytes 2 ≠ 7 ∨ 4 < u8 bytes 8)) ∨ (u8 bytes 1 = 2 ∧ u8 bytes 2 ≠ 5)) ∧
        (c = .uplinkFaultyFrame bytes ∨ (c = .padSilencing (.frame bytes) ∧ (s.pbc.registry.get i).strikes = 7)))) →
    let p := s.pbc.registry.get i
    ∃ t, exec c s = .next t ∧
      (p.strikes < 7 → t = chooseNext (State.afterExchange { s with pbc := { s.pbc with
        registry := s.pbc.registry.set i { p with strikes := p.strikes + 1 } } })) ∧
      (p.strikes = 7 → t = chooseNext (State.afterExchange { s with
        pbc := { s.pbc with registry := s.pbc.registry.set i { p with strikes := 8, state := .silenced } }
        att := s.att.raise .padSilenced })) ∧
      (p.strikes < 7 → t.pbc.registry = s.pbc.registry.set i { p with strikes := p.strikes + 1 } ∧
        t.att.latched = s.att.latched) ∧
      (p.strikes = 7 → t.pbc.registry = s.pbc.registry.set i { p with strikes := 8, state := .silenced } ∧
        t.att.latched = (s.att.raise .padSilenced).latched) ∧
      t.rq = s.rq ∧ t.slotA = s.slotA ∧ t.slotB = s.slotB ∧ t.tr = s.tr ∧ t.mfe = s.mfe ∧ t.su = s.su ∧
      t.llu = s.llu ∧ t.cmp = s.cmp ∧ s.sameLink t

/-- A well-formed JOIN at the join window: re-joined on its ENROLLED record, refused on a SILENCED one, enrolled at
the lowest FREE address with PAD_JOINED, or refused with PAD_REFUSED when none is FREE; the ASSIGN that answers it
carries its serial and the address decided, 0 for a refusal. The ASSIGN sent, the reply timeout with no frame begun, a
character gap, or a whole frame that is no well-formed JOIN (its check wrong, an address other than 0, another record, a
body length other than 4, or serial 0) completes the window's exchange and ends the round, with no strike and nothing raised. That a whole frame
and the reply timeout imply that the INVITE has been sent is the model's choice (log entry 10). -/
def Obligations.JoinWindowEnrols : Prop :=
  (∀ (s : State) (ex : Exchange) (serial : Word), s.resetLow = false → s.pbc.exchange = some ex →
     ex.target = .joinWindow → ex.discarded = false → ex.stage ≠ .assigning → serial ≠ 0 →
     (∀ i j : Fin 8, (s.pbc.registry.get i).serial = some serial → (s.pbc.registry.get j).serial = some serial → i = j) →
     let assigned (a : Nat) : Exchange := { ex with sent := .assign serial a, stage := .assigning }
     (∀ i : Fin 8, (s.pbc.registry.get i).serial = some serial →
       ((s.pbc.registry.get i).state = .enrolled →
         exec (.join 0 serial) s = .next (chooseNext { s with pbc := { s.pbc with
           exchange := some (assigned (i.val + 1))
           registry := s.pbc.registry.set i { s.pbc.registry.get i with
             expectedToggle := false, lastOutcome := ⟨true, ⟨.none, 0, 0⟩⟩ } } })) ∧
       ((s.pbc.registry.get i).state ≠ .enrolled →
         exec (.join 0 serial) s = .next (chooseNext { s with pbc := { s.pbc with exchange := some (assigned 0) } }))) ∧
     ((∀ i : Fin 8, (s.pbc.registry.get i).serial ≠ some serial) →
       (∀ i : Fin 8, (s.pbc.registry.get i).state = .free → (∀ j < i, (s.pbc.registry.get j).state ≠ .free) →
         exec (.join 0 serial) s = .next (chooseNext { s with
           pbc := { s.pbc with
             exchange := some (assigned (i.val + 1))
             registry := s.pbc.registry.set i
               { state := .enrolled, serial := some serial, strikes := 0, expectedToggle := false,
                 lastOutcome := ⟨true, ⟨.none, 0, 0⟩⟩, news := none, newsCounter := 0 } }
           att := s.att.raise .padJoined })) ∧
       ((∀ i : Fin 8, (s.pbc.registry.get i).state ≠ .free) →
         exec (.join 0 serial) s = .next (chooseNext { s with
           pbc := { s.pbc with exchange := some (assigned 0) }
           att := s.att.raise .padRefused })))) ∧
  (∀ (s : State) (ex : Exchange), s.resetLow = false → s.pbc.exchange = some ex → ex.target = .joinWindow →
     let ended := Host.Outcome.next (φ := Fault) (ρ := Refusal) (chooseNext { s with pbc := { s.pbc with
       exchange := none, roundInFlight := false, roundEnding := false } })
     (ex.stage = .assigning → exec .assignSent s = ended) ∧
     (ex.stage = .sending ∨ ex.stage = .awaiting → exec .padReplyTimeout s = ended) ∧
     (∀ bytes, ex.stage = .receiving bytes → exec .uplinkCharacterGap s = ended) ∧
     (ex.stage ≠ .assigning →
       (∀ (a part : Byte) (toggle rush : Bool) (song : Word), exec (.idleRecord a) s = ended ∧
         exec (.request a toggle song part rush) s = ended ∧ exec (.withdraw a toggle song) s = ended) ∧
       (∀ (a : Byte) (serial : Word), a ≠ 0 ∨ serial = 0 → exec (.join a serial) s = ended) ∧
       (∀ bytes, oneUplinkFrame bytes = true →
         (crc (bytes.take (bytes.length - 2)) ≠ u16 bytes (bytes.length - 2) ∨ u8 bytes 0 ≠ 0 ∨ u8 bytes 1 ≠ 3 ∨
           u8 bytes 2 ≠ 4 ∨ u32 bytes 3 = 0) →
         exec (.uplinkFaultyFrame bytes) s = ended)))

/-- Uplink frames. The bytes of a record's frame from an address are read back as that record from that address.
Within an exchange's reception span the characters of a frame of m body bytes, taken one after another, are kept
until the 5 + m are in, and the last of them leaves what the frame received whole leaves. Outside that span, with no
exchange in flight or while its ASSIGN is being sent, a character changes nothing. While a POLL or INVITE is being sent
the character is ignored, or, where its last bit has left by then, begins the uplink frame: which of the two is a free
value (log entry 26). -/
def Obligations.UplinkFramesAreRead : Prop :=
  (∀ (address : Byte) (r : UplinkRecord), readUplink (uplinkBytes address r) = .carries address r) ∧
  (∀ (s : State) (ex : Exchange) (bytes : List Byte), s.resetLow = false → s.pbc.exchange = some ex →
     ex.stage = .awaiting → s.settled → oneUplinkFrame bytes = true →
     (∀ b rest, bytes = b :: rest → exec (.uplinkCharacterReceived b) s =
       .next { s with pbc := { s.pbc with exchange := some { ex with stage := .receiving [b] } } }) ∧
     (let characters := bytes.map Instr.uplinkCharacterReceived
      Sys2Proof.core.run characters.length { s with pending := characters } =
        exec (.uplinkFaultyFrame bytes) { s with pending := [] })) ∧
  (∀ (s : State) (b : Byte), s.resetLow = false →
     ((∀ ex, s.pbc.exchange = some ex → ex.stage = .assigning) →
       exec (.uplinkCharacterReceived b) s = .next (chooseNext s)) ∧
     (∀ ex, s.pbc.exchange = some ex → ex.stage = .sending →
       (Config.downlinkSent s.draws = false →
         exec (.uplinkCharacterReceived b) s = .next (chooseNext { s with draws := s.draws + 1 })) ∧
       (Config.downlinkSent s.draws = true → exec (.uplinkCharacterReceived b) s = .next (chooseNext { s with
         draws := s.draws + 1, pbc := { s.pbc with exchange := some { ex with stage := .receiving [b] } } }))))

/-- PAD_ADMIT makes a SILENCED record ENROLLED with strike count 0 and keeps its other fields; PAD_READ changes nothing
and gives every field of the record, the pad's waiting count and its first position (the score sent with a STARTED or
DROPPED news item: log entry 17); PAD_BUS 0 disables the bus and marks a round in
flight to end, and 1 enables it; that a later 1 does not take the mark away is the model's reading (log entry 11). An
address or enable value out of range is refused with BAD_VALUE, and PAD_ADMIT of any other
record with BAD_STATE. -/
def Obligations.PadMessages : Prop :=
  ∀ (s : State) (tag a : Byte), LinkFree s →
    (a.toNat < 1 ∨ 8 < a.toNat →
      exec (.padAdmit tag a) s = .next (s.answered ⟨0x18, tag, [a]⟩ .badValue []) ∧
      exec (.padRead tag a) s = .next (s.answered ⟨0x1A, tag, [a]⟩ .badValue [])) ∧
    (∀ i : Fin 8, a.toNat = i.val + 1 →
      let p := s.pbc.registry.get i
      (p.state ≠ .silenced →
        exec (.padAdmit tag a) s = .next (s.answered ⟨0x18, tag, [a]⟩ .badState [])) ∧
      (p.state = .silenced →
        exec (.padAdmit tag a) s = .next (State.answered
          { s with pbc := { s.pbc with registry := s.pbc.registry.set i { p with state := .enrolled, strikes := 0 } } }
          ⟨0x18, tag, [a]⟩ .ok [])) ∧
      (∃ data, exec (.padRead tag a) s = .next (s.answered ⟨0x1A, tag, [a]⟩ .ok data) ∧ data.length = 22 ∧
        u8 data 0 = (match p.state with | .free => 0 | .enrolled => 1 | .silenced => 2) ∧
        u32 data 1 = p.serial.getD 0 ∧ u8 data 5 = BitVec.ofNat 8 p.strikes ∧
        u8 data 6 = (if p.expectedToggle then 1 else 0) ∧ u8 data 7 = (if p.lastOutcome.toggle then 1 else 0) ∧
        u8 data 8 = (match p.lastOutcome.outcome.code with
          | .none => 0 | .accepted => 1 | .demoted => 2 | .merged => 3 | .duplicate => 4 | .mergeFull => 5 | .limit => 6
          | .queueFull => 7 | .badNumber => 8 | .withdrawn => 9 | .notWaiting => 10) ∧
        u8 data 9 = BitVec.ofNat 8 p.lastOutcome.outcome.id ∧
        u8 data 10 = BitVec.ofNat 8 p.lastOutcome.outcome.position ∧
        u8 data 11 = (match p.news with
          | none => 0 | some ⟨.started, _⟩ => 1 | some ⟨.finished _, _⟩ => 2 | some ⟨.dropped _, _⟩ => 3) ∧
        u8 data 12 = BitVec.ofNat 8 p.newsCounter ∧ u32 data 13 = BitVec.ofNat 32 ((p.news.map (·.song)).getD 0) ∧
        u16 data 17 = BitVec.ofNat 16 (match p.news with
          | none => 0 | some ⟨.finished score, _⟩ => score.getD 0xFFFF | some ⟨.started, _⟩ => 0xFFFF
          | some ⟨.dropped _, _⟩ => 0xFFFF) ∧
        u8 data 19 = (match p.news with
          | some ⟨.dropped .notInCatalogue, _⟩ => 1 | some ⟨.dropped .cancelled, _⟩ => 2 | _ => 0) ∧
        u8 data 20 = BitVec.ofNat 8 (padWaitingCount s.rq.entries (i.val + 1)) ∧
        u8 data 21 = BitVec.ofNat 8 (padFirstPosition s.rq.entries (i.val + 1)))) ∧
    (a = 1 → exec (.padBus tag a) s = .next (State.answered { s with pbc := { s.pbc with enabled := true } }
      ⟨0x1B, tag, [a]⟩ .ok [1])) ∧
    (a = 0 → exec (.padBus tag a) s = .next (State.answered { s with pbc := { s.pbc with
      enabled := false, roundEnding := s.pbc.roundEnding || s.pbc.roundInFlight } } ⟨0x1B, tag, [a]⟩ .ok [0])) ∧
    (1 < a.toNat → exec (.padBus tag a) s = .next (s.answered ⟨0x1B, tag, [a]⟩ .badValue []))

/-- PAD_RELEASE frees the record and takes the address off every requester list of the queue and the history; each
waiting PAD entry whose list becomes empty leaves the queue, QUEUE_CHANGED is raised if a list changed (stated
for a queue with distinct ids), and auto-advance is tested in the same arrival (SongEnds says what that does). A FREE
record is refused with NOT_FOUND, and an address outside 1..8 with BAD_VALUE. -/
def Obligations.PadReleaseFreesAddress : Prop :=
  (∀ (s : State) (tag a : Byte), LinkFree s → a.toNat < 1 ∨ 8 < a.toNat →
    exec (.padRelease tag a) s = .next (s.answered ⟨0x19, tag, [a]⟩ .badValue [])) ∧
  ∀ (s : State) (tag a : Byte) (i : Fin 8), LinkFree s → a.toNat = i.val + 1 →
    ((s.pbc.registry.get i).state = .free →
      exec (.padRelease tag a) s = .next (s.answered ⟨0x19, tag, [a]⟩ .notFound [])) ∧
    ((s.pbc.registry.get i).state ≠ .free → (s.rq.entries.map (·.id)).Nodup →
      let off (l : List Requester) := l.filter fun r => r.pad != i.val + 1
      let emptied (e : Entry) := e.waits && e.origin == .pad && !e.requesters.isEmpty && (off e.requesters).isEmpty
      ∃ t : State, exec (.padRelease tag a) s = .next (t.autoAdvance.answered ⟨0x19, tag, [a]⟩ .ok []) ∧
        t.pbc = { s.pbc with
          registry := s.pbc.registry.set i
            { state := .free, serial := none, strikes := 0, expectedToggle := false,
              lastOutcome := ⟨true, ⟨.none, 0, 0⟩⟩, news := none, newsCounter := 0 } } ∧
        t.rq = { s.rq with
          entries := (s.rq.entries.filter fun e => !emptied e).map fun e => { e with requesters := off e.requesters }
          history := s.rq.history.map fun h => { h with requesters := off h.requesters } } ∧
        t.att = (if (∀ e ∈ s.rq.entries, off e.requesters = e.requesters) ∧
            (∀ h ∈ s.rq.history, off h.requesters = h.requesters)
          then s.att else s.att.raise .queueChanged) ∧
        (∀ n : SlotName,
          (∀ e ∈ s.rq.entries, emptied e = true → s.slotHolding e.id = some n → t.slot n = (s.slot n).emptied) ∧
          ((∀ e ∈ s.rq.entries, emptied e = true → (s.slot n).holds e.id = false) → t.slot n = s.slot n)) ∧
        t.tr = s.tr ∧ t.mfe = s.mfe ∧ t.su = s.su ∧ t.llu = s.llu ∧ t.cmp = s.cmp ∧ t.link = s.link ∧
        t.pending = s.pending ∧ t.resetLow = s.resetLow ∧ t.blocks = s.blocks ∧ t.draws = s.draws)

/-- At every step each registry record keeps its serial, absent exactly when FREE, never 0 and held by no other record;
its strike count, 8 exactly when SILENCED; its news counter below 16; the cleared values of a FREE record's strikes,
toggle and outcome; and the cleared outcome wherever the outcome code is NONE. -/
def Obligations.RegistryStaysLawful : Prop :=
  ∀ s t : State, s.pbc.lawful → step s = .next t → t.pbc.lawful

/-! ## Song Store (Chapter 3) -/

/-- SLOT_OPEN: the refusals in their order; else the slot is FILLING for the entry with the size given, its coverage
and fault record cleared and the bytes below the size zero; the entry is LOADING, and QUEUE_CHANGED is raised. That every
other byte of its memory is as before is the model's choice (log entry 14). -/
def Obligations.SlotOpenClaimsSlot : Prop :=
  ∀ (s : State) (tag slot id : Byte) (size : Word), LinkFree s →
    let m : Message := ⟨0x20, tag, [slot, id] ++ le32 size⟩
    (1 < slot.toNat ∨ size.toNat < 64 ∨ 262144 < size.toNat →
      exec (.slotOpen tag slot id size) s = .next (s.answered m .badValue [])) ∧
    (∀ n : SlotName, slot = (match n with | .a => 0 | .b => 1) → 64 ≤ size.toNat → size.toNat ≤ 262144 →
      ((s.slot n).state ≠ .empty →
        exec (.slotOpen tag slot id size) s = .next (s.answered m .busy [])) ∧
      ((s.slot n).state = .empty → findEntry s.rq.entries id.toNat = none →
        exec (.slotOpen tag slot id size) s = .next (s.answered m .notFound [])) ∧
      ((s.slot n).state = .empty → ∀ e, findEntry s.rq.entries id.toNat = some e →
        (e.state ≠ .ready → exec (.slotOpen tag slot id size) s = .next (s.answered m .badState [])) ∧
        (e.state = .ready → ∃ image,
          (∀ a, memRead image a = if a < size.toNat then 0 else memRead (s.slot n).image a) ∧
          exec (.slotOpen tag slot id size) s = .next (State.answered
            (State.setSlot { s with
                rq := { s.rq with entries := s.rq.entries.map fun x =>
                  if x.id = id.toNat then { x with state := .loading } else x }
                att := s.att.raise .queueChanged }
              n { state := .filling, held := some ⟨id.toNat, size.toNat⟩, coverage := 0, image := image,
                  fault := ⟨.none, .none, 0⟩ })
            m .ok (le16 (BitVec.ofNat 16 ((size.toNat + 255) / 256)))))))

/-- SLOT_DATA, for a slot of a declared size within the image memory, which is canonical: the refusals in their order, a
slot byte that names neither slot among them; else the bytes stand from the offset on and no other byte changes, the granules they lie in are marked and no other mark changes,
and the reply counts the required granules covered and missing. -/
def Obligations.SlotDataWritesChunk : Prop :=
  (∀ (s : State) (tag slot : Byte) (offset : Word) (data : List Byte), LinkFree s → 1 ≤ data.length →
    data.length ≤ 1024 → 1 < slot.toNat → exec (.slotData tag slot offset data) s = .next (s.answered
      ⟨0x21, tag, [slot] ++ le32 offset ++ le16 (BitVec.ofNat 16 data.length) ++ data⟩ .badValue [])) ∧
  ∀ (s : State) (tag slot : Byte) (offset : Word) (data : List Byte) (n : SlotName), LinkFree s →
    1 ≤ data.length → data.length ≤ 1024 → slot = (match n with | .a => 0 | .b => 1) →
    let m : Message := ⟨0x21, tag, [slot] ++ le32 offset ++ le16 (BitVec.ofNat 16 data.length) ++ data⟩
    let x := s.slot n
    (x.state = .sealing → exec (.slotData tag slot offset data) s = .next (s.answered m .busy [])) ∧
    (x.state ≠ .sealing → x.state ≠ .filling →
      exec (.slotData tag slot offset data) s = .next (s.answered m .badState [])) ∧
    (∀ h, x.state = .filling → x.held = some h → h.size ≤ 262144 →
      (offset.toNat % 256 ≠ 0 ∨ h.size < offset.toNat + data.length →
        exec (.slotData tag slot offset data) s = .next (s.answered m .badValue [])) ∧
      (Memory.wf x.image = true → offset.toNat % 256 = 0 → offset.toNat + data.length ≤ h.size → ∃ image coverage,
        (∀ a, memRead image a = if offset.toNat ≤ a ∧ a < offset.toNat + data.length
          then data.getD (a - offset.toNat) 0 else memRead x.image a) ∧
        (∀ g, g < 1024 → coverage.getLsbD g = (x.coverage.getLsbD g ||
          (decide (offset.toNat / 256 ≤ g) && decide (g ≤ (offset.toNat + data.length - 1) / 256)))) ∧
        exec (.slotData tag slot offset data) s = .next (State.answered
          (s.setSlot n { x with image := image, coverage := coverage }) m .ok
          (le16 (BitVec.ofNat 16 (((List.range ((h.size + 255) / 256)).filter fun g => coverage.getLsbD g).length)) ++
           le16 (BitVec.ofNat 16 (((List.range ((h.size + 255) / 256)).filter fun g => !coverage.getLsbD g).length))))))

/-- SLOT_SEAL: a FILLING slot with every required granule covered becomes SEALING; with some missing it is refused
with INCOMPLETE, its fault record naming the lowest, and the reply carries their number and the lowest. Any other
state is refused with BAD_STATE, and a slot byte that names neither slot with BAD_VALUE. -/
def Obligations.SlotSealBeginsValidation : Prop :=
  (∀ (s : State) (tag slot : Byte), LinkFree s → 1 < slot.toNat →
    exec (.slotSeal tag slot) s = .next (s.answered ⟨0x22, tag, [slot]⟩ .badValue [])) ∧
  ∀ (s : State) (tag slot : Byte) (n : SlotName), LinkFree s → slot = (match n with | .a => 0 | .b => 1) →
    let x := s.slot n
    (x.state ≠ .filling → exec (.slotSeal tag slot) s = .next (s.answered ⟨0x22, tag, [slot]⟩ .badState [])) ∧
    (∀ h, x.state = .filling → x.held = some h →
      let missing := (List.range ((h.size + 255) / 256)).filter fun g => !x.coverage.getLsbD g
      (missing = [] → exec (.slotSeal tag slot) s =
        .next (State.answered (s.setSlot n { x with state := .sealing }) ⟨0x22, tag, [slot]⟩ .ok [])) ∧
      (∀ g, missing.head? = some g → exec (.slotSeal tag slot) s =
        .next (State.answered (s.setSlot n { x with fault := ⟨.incomplete, .none, g⟩ }) ⟨0x22, tag, [slot]⟩ .incomplete
          (le16 (BitVec.ofNat 16 missing.length) ++ le16 (BitVec.ofNat 16 g)))))

/-- SLOT_DISCARD: an ACTIVE slot is refused with BAD_STATE; an EMPTY one is left as it is; a FILLING, SEALING or STAGED
one becomes EMPTY, keeping its image and fault record, and its entry READY. SLOT_READ changes nothing and gives the
slot's state, entry, size, granules, fault record and, when STAGED or ACTIVE, its image's header. A slot byte that names
neither slot is refused with BAD_VALUE. That an emptied slot keeps its image is the model's choice
(log entry 14), and that an EMPTY slot reads with 0 granules is its reading (log entry 13). -/
def Obligations.SlotDiscardAndRead : Prop :=
  (∀ (s : State) (tag slot : Byte), LinkFree s → 1 < slot.toNat →
    exec (.slotDiscard tag slot) s = .next (s.answered ⟨0x23, tag, [slot]⟩ .badValue []) ∧
    exec (.slotRead tag slot) s = .next (s.answered ⟨0x24, tag, [slot]⟩ .badValue [])) ∧
  ∀ (s : State) (tag slot : Byte) (n : SlotName), LinkFree s → slot = (match n with | .a => 0 | .b => 1) →
    let x := s.slot n
    let required := (((x.held.map (·.size)).getD 0) + 255) / 256
    (x.state = .active → exec (.slotDiscard tag slot) s = .next (s.answered ⟨0x23, tag, [slot]⟩ .badState [])) ∧
    (x.state = .empty → exec (.slotDiscard tag slot) s = .next (s.answered ⟨0x23, tag, [slot]⟩ .ok [])) ∧
    (∀ h, x.state = .filling ∨ x.state = .sealing ∨ x.state = .staged → x.held = some h →
      exec (.slotDiscard tag slot) s = .next (State.answered
        (State.setSlot { s with
            rq := { s.rq with entries := s.rq.entries.map fun e =>
              if e.id = h.entryId then { e with state := .ready } else e }
            att := s.att.raise .queueChanged }
          n { x with state := .empty, held := none, coverage := 0 })
        ⟨0x23, tag, [slot]⟩ .ok [])) ∧
    (∃ data, exec (.slotRead tag slot) s = .next (s.answered ⟨0x24, tag, [slot]⟩ .ok data) ∧ data.length = 42 ∧
      u8 data 0 = (match x.state with | .empty => 0 | .filling => 1 | .sealing => 2 | .staged => 3 | .active => 4) ∧
      u8 data 1 = BitVec.ofNat 8 ((x.held.map (·.entryId)).getD 0) ∧
      u32 data 2 = BitVec.ofNat 32 ((x.held.map (·.size)).getD 0) ∧ u16 data 6 = BitVec.ofNat 16 required ∧
      u16 data 8 = BitVec.ofNat 16 ((List.range required).filter fun g => x.coverage.getLsbD g).length ∧
      u16 data 10 = BitVec.ofNat 16
        (((List.range required).find? fun g => !x.coverage.getLsbD g).getD 0xFFFF) ∧
      u8 data 12 = (match x.fault.code with
        | .none => 0 | .incomplete => 1 | .format => 2 | .songMismatch => 3 | .count => 4 | .range => 5 | .order => 6
        | .glyph => 7) ∧
      u8 data 13 = (match x.fault.locus with
        | .none => 0 | .header => 1 | .line _ => 2 | .syllable _ => 3 | .note _ _ => 4) ∧
      u8 data 14 = BitVec.ofNat 8 (match x.fault.locus with | .note p _ => p | _ => 0) ∧
      u16 data 15 = BitVec.ofNat 16 (match x.fault.locus with
        | .line i => i | .syllable i => i | .note _ i => i | _ => 0) ∧
      u32 data 17 = BitVec.ofNat 32 x.fault.value ∧
      (x.state = .staged ∨ x.state = .active →
        u32 data 21 = BitVec.ofNat 32 (imgSong x.image) ∧ u32 data 25 = BitVec.ofNat 32 (imgDuration x.image) ∧
        u8 data 29 = BitVec.ofNat 8 (imgParts x.image) ∧ u16 data 30 = BitVec.ofNat 16 (imgLines x.image) ∧
        u16 data 32 = BitVec.ofNat 16 (imgSyllables x.image) ∧
        ∀ p : Fin 4, u16 data (34 + 2 * p.val) = BitVec.ofNat 16 (imgNotes x.image (p.val + 1))) ∧
      (x.state ≠ .staged → x.state ≠ .active → ∀ k, 21 ≤ k → k < 42 → u8 data k = 0))

/-- VALIDATION_COMPLETION of a SEALING slot: the first of the six checks to fail decides; with none the slot and its
entry become STAGED, else the fault is recorded, the slot becomes EMPTY and its entry READY. SLOT_DONE and QUEUE_CHANGED
are raised in either case, and auto-advance is tested in the same arrival (SongEnds says what that does). An abandoned
validation has no completion. That the slot made EMPTY keeps its image bytes is the model's choice (log entry 14). -/
def Obligations.ValidationCompletes : Prop :=
  ∀ (s : State) (n : SlotName), s.resetLow = false →
    ((s.slot n).state ≠ .sealing → exec (.validationCompletion n) s = .next (chooseNext s)) ∧
    (∀ h, (s.slot n).state = .sealing → (s.slot n).held = some h →
      let x := s.slot n
      let song := ((findEntry s.rq.entries h.entryId).map (·.song)).getD 0
      let after (x' : Slot) (e' : EntryState) : State := State.autoAdvance (State.setSlot { s with
          rq := { s.rq with entries := s.rq.entries.map fun e =>
            if e.id = h.entryId then { e with state := e' } else e }
          att := (s.att.raise .slotDone).raise .queueChanged } n x')
      let found := [checkFormat x.image, checkSong x.image song, checkCount x.image h.size, checkRange x.image,
        checkOrder x.image, checkGlyphs x.image s.cmp.glyphs]
      ((∀ c ∈ found, c = none) →
        exec (.validationCompletion n) s = .next (chooseNext (after { x with state := .staged } .staged))) ∧
      (∀ f, found.findSome? id = some f → exec (.validationCompletion n) s =
        .next (chooseNext (after { x with state := .empty, held := none, coverage := 0, fault := f } .ready))))

/-- What an image that passes a check satisfies. Checks 1 to 3: the magic and version 1, the entry's song number, and a
length implied by the counts within the declared size, each fault carrying the value found. Check 6: every code of every
glyph run held by the store. Check 5, for an image that passes check 4: the lines take the syllables in turn and start in
order, and within a line the syllables, and within a part the notes, follow one another and end by the song's end; and no
other image fails it. Check 4, the field ranges, hold of every record: the header's fields, each part's note count
at most 2,048 and 0 beyond the parts count; each line has a row hint 0..3, a part mask of the song's parts, and 1 to 32
syllables within the syllable count; each syllable, with its part mask, and each note lies within its ranges. -/
def Obligations.RangeCheckCoversEveryRecord : Prop :=
  (∀ (m : ImageMemory) (song size : Nat) (g : GlyphStore),
    let version := (memRead m 4).toNat
    let length := 26 + 5 * imgLines m + 40 * imgSyllables m +
      8 * (imgNotes m 1 + imgNotes m 2 + imgNotes m 3 + imgNotes m 4)
    checkFormat m = (if memRead m 0 = 0x4E ∧ memRead m 1 = 0x4A ∧ memRead m 2 = 0x53 ∧ memRead m 3 = 0x47 ∧ version = 1
      then none else some ⟨.format, .header, version⟩) ∧
    checkSong m song = (if imgSong m = song then none else some ⟨.songMismatch, .header, imgSong m⟩) ∧
    checkCount m size = (if length ≤ size then none else some ⟨.count, .header, length⟩) ∧
    (checkGlyphs m g = none ↔ ∀ j < imgSyllables m, ∀ c ∈ (syllableAt m j).run, glyphOf g c ≠ none)) ∧
  (∀ m : ImageMemory, checkRange m = none →
    let ends (j : Nat) := (syllableAt m j).start + (syllableAt m j).duration
    let noteEnds (p i : Nat) := (noteAt m p i).start + (noteAt m p i).duration
    let startOf (i : Nat) := (syllableAt m (lineAt m i).first).start
    (checkOrder m = none ↔
      (lineAt m 0).first = 0 ∧
      (∀ i, i + 1 < imgLines m → (lineAt m (i + 1)).first = (lineAt m i).first + (lineAt m i).count ∧
        startOf i ≤ startOf (i + 1)) ∧
      (lineAt m (imgLines m - 1)).first + (lineAt m (imgLines m - 1)).count = imgSyllables m ∧
      (∀ i < imgLines m, ∀ j, (lineAt m i).first ≤ j → j + 1 < (lineAt m i).first + (lineAt m i).count →
        ends j ≤ (syllableAt m (j + 1)).start) ∧
      (∀ p, 1 ≤ p → p ≤ 4 → ∀ i, i + 1 < imgNotes m p → noteEnds p i ≤ (noteAt m p (i + 1)).start) ∧
      (∀ j < imgSyllables m, ends j ≤ imgDuration m) ∧
      (∀ p, 1 ≤ p → p ≤ 4 → ∀ i < imgNotes m p, noteEnds p i ≤ imgDuration m))) ∧
  ∀ m : ImageMemory, checkRange m = none →
    (1 ≤ imgParts m ∧ imgParts m ≤ 4 ∧ 1 ≤ imgLines m ∧ imgLines m ≤ 512 ∧ 1 ≤ imgSyllables m ∧
      imgSyllables m ≤ 4096 ∧ 1 ≤ imgSong m ∧ imgSong m ≤ 999999 ∧ 1000 ≤ imgDuration m ∧
      imgDuration m ≤ 1200000 ∧
      (∀ p, 1 ≤ p → p ≤ 4 → imgNotes m p ≤ 2048 ∧ (imgParts m < p → imgNotes m p = 0)) ∧
      imgNotes m 1 + imgNotes m 2 + imgNotes m 3 + imgNotes m 4 ≤ 4096) ∧
    (∀ i < imgLines m, (lineAt m i).hint ≤ 3 ∧ 0 < (lineAt m i).mask ∧ (lineAt m i).mask < 2 ^ imgParts m ∧
      (lineAt m i).first < imgSyllables m ∧ 1 ≤ (lineAt m i).count ∧ (lineAt m i).count ≤ 32 ∧
      (lineAt m i).first + (lineAt m i).count ≤ imgSyllables m) ∧
    (∀ j < imgSyllables m, (syllableAt m j).start ≤ 1200000 ∧ 1 ≤ (syllableAt m j).duration ∧
      (syllableAt m j).duration ≤ 60000 ∧ 0 < (syllableAt m j).mask ∧ (syllableAt m j).mask < 2 ^ imgParts m ∧
      1 ≤ (syllableAt m j).runLength ∧ (syllableAt m j).runLength ≤ 16 ∧
      ∀ c ∈ (syllableAt m j).run, 1 ≤ c ∧ c ≤ 4095) ∧
    (∀ p, 1 ≤ p → p ≤ 4 → ∀ i < imgNotes m p, (noteAt m p i).start ≤ 1200000 ∧ 1 ≤ (noteAt m p i).duration ∧
      (noteAt m p i).duration ≤ 60000 ∧ (noteAt m p i).code ≤ 63 ∧ (noteAt m p i).unscored ≤ 1)

/-- Both image memories stay canonical at every step: addresses strictly rising below 262,144, no zero byte listed. -/
def Obligations.ImagesStayCanonical : Prop :=
  ∀ s t : State, s.imagesCanonical → step s = .next t → t.imagesCanonical

/-! ## Transport (Chapter 4) -/

/-- Cueing and START. Cueing a STAGED entry held by slot n: the slot becomes ACTIVE and the entry PLAYING at the head of
the queue; the Transport enters CUED with the slot's duration, every count and the clock 0, rate, key and settings kept;
the lanes resolve their parts and are armed; the rows open on each slot's first line; the pads on the list are told
STARTED; SONG_STARTED and QUEUE_CHANGED are raised. START in IDLE cues the entry of its id, or with id 0 the waiting
entry at position 1, and the reply carries id and duration. Outside IDLE it is refused with BAD_STATE; with id 0, no
waiting entry or one at position 1 that is not STAGED, BAD_STATE; with an id no entry has, NOT_FOUND; with that of an
entry not STAGED, BAD_STATE. -/
def Obligations.StartCuesSongOrRefuses : Prop :=
  (∀ (s : State) (e : Entry) (n : SlotName), s.slotHolding e.id = some n →
     let image := (s.slot n).image
     let t := s.cue e
     t.slot n = { s.slot n with state := .active } ∧ (∀ k, k ≠ n → t.slot k = s.slot k) ∧
     t.rq = { s.rq with entries := { e with state := .playing } :: s.rq.entries.filter fun x => x.id != e.id } ∧
     t.tr = { s.tr with
       state := .cued, t := 0, duration := imgDuration image, slew := 0, syncTimer := 0, settleCount := 0,
       holdCount := 0, cueStallCount := 0, resultCountdown := 0, finish := none, epoch := 0, jumpCount := 0 } ∧
     t.pbc = { s.pbc with registry := s.pbc.registry.mapIdx fun i p =>
       if e.requesters.any (fun r => r.pad == i.val + 1) then
         { p with news := some ⟨.started, e.song⟩, newsCounter := (p.newsCounter + 1) % 16 } else p } ∧
     t.su.bindings = s.su.bindings ∧ t.su.level = s.su.level ∧ t.su.fold = s.su.fold ∧ t.su.latency = s.su.latency ∧
     (∀ k : Fin 4, (t.su.lanes.get k).part =
         (match s.su.bindings.get k with
           | .off => none
           | .fixed q => if q ≤ imgParts image then some q else none
           | .auto => match e.requesters[k.val]? with
             | some r => if 1 ≤ r.part ∧ r.part ≤ imgParts image then some r.part else some (k.val % imgParts image + 1)
             | none => some (k.val % imgParts image + 1)) ∧
       (t.su.lanes.get k).state =
         (if (t.su.lanes.get k).part = none then .idle
          else if (s.mfe.channels.get k).latest.presence = .present then .armed else .suspended) ∧
       (t.su.lanes.get k).tolerance = (match s.su.level with | .easy => 24 | .normal => 16 | .strict => 8) ∧
       (t.su.lanes.get k).fold = s.su.fold ∧ (t.su.lanes.get k).latency = s.su.latency ∧
       (t.su.lanes.get k).noteCount = ((t.su.lanes.get k).part.map (imgNotes image)).getD 0 ∧
       (t.su.lanes.get k).outcomes = List.replicate (t.su.lanes.get k).noteCount .pending ∧
       (t.su.lanes.get k).cursor = 0 ∧ (t.su.lanes.get k).openNote = none ∧ (t.su.lanes.get k).lastEpoch = 0 ∧
       (t.su.lanes.get k).sumAw = 0 ∧ (t.su.lanes.get k).sumW = 0 ∧ (t.su.lanes.get k).scored = 0 ∧
       (t.su.lanes.get k).empty = 0 ∧ (t.su.lanes.get k).void = 0 ∧ (t.su.lanes.get k).lastClosed = none) ∧
     t.llu.mode = .lyrics ∧ t.llu.songLeadIn = s.llu.leadIn ∧ t.llu.songLinger = s.llu.linger ∧
     t.llu.leadIn = s.llu.leadIn ∧ t.llu.linger = s.llu.linger ∧
     (∀ k : Fin 4, t.llu.rows.get k =
       ⟨none, none, (List.range (imgLines image)).find? (fun i => (lineAt image i).hint == k.val), 0⟩) ∧
     t.mfe = s.mfe ∧ t.cmp = s.cmp ∧ t.att = (s.att.raise .songStarted).raise .queueChanged ∧ t.link = s.link ∧
     t.pending = s.pending ∧ t.resetLow = s.resetLow ∧ t.blocks = s.blocks ∧ t.draws = s.draws) ∧
  (∀ (s : State) (tag id : Byte) (e : Entry) (n : SlotName), LinkFree s → s.tr.state = .idle →
     (id = 0 ∧ (waiting s.rq.entries).head? = some e ∨ id ≠ 0 ∧ findEntry s.rq.entries id.toNat = some e) →
     e.state = .staged → s.slotHolding e.id = some n →
     exec (.start tag id) s = .next ((s.cue e).answered ⟨0x28, tag, [id]⟩ .ok
       ([BitVec.ofNat 8 e.id] ++ le32 (BitVec.ofNat 32 (imgDuration (s.slot n).image))))) ∧
  (∀ (s : State) (tag id : Byte), LinkFree s →
     let refused (c : ResultCode) := exec (.start tag id) s = .next (s.answered ⟨0x28, tag, [id]⟩ c [])
     (s.tr.state ≠ .idle → refused .badState) ∧
     (s.tr.state = .idle → id = 0 → (∀ e, (waiting s.rq.entries).head? = some e → e.state ≠ .staged) →
       refused .badState) ∧
     (s.tr.state = .idle → id ≠ 0 → findEntry s.rq.entries id.toNat = none → refused .notFound) ∧
     (s.tr.state = .idle → id ≠ 0 → ∀ e, findEntry s.rq.entries id.toNat = some e → e.state ≠ .staged →
       refused .badState))

/-- SYNC, its position clamped into the duration and its error taken against the clock as it stands: refused in IDLE
and RESULT; START in CUED; SLACK, SLEW or JUMP by the error's magnitude in PLAY and RECOVER; RELOCK in HOLD; IGNORED in
PAUSED. A start more than 200 ticks in, a jump and a relock rebuild the row slots. -/
def Obligations.SyncCorrectsClock : Prop :=
  ∀ (s : State) (tag : Byte) (position : Word), LinkFree s →
    let p := min position.toNat s.tr.duration
    let e : Int := (p : Int) - ((s.tr.t / 256 : Nat) : Int)
    let m : Message := ⟨0x29, tag, le32 position⟩
    let reply (a : Byte) : List Byte := le32 (BitVec.ofNat 32 p) ++ le32 (BitVec.ofInt 32 e) ++ [a]
    let answers (t : State) (a : Byte) := exec (.sync tag position) s = .next (State.answered t m .ok (reply a))
    (s.tr.state = .idle ∨ s.tr.state = .result →
      exec (.sync tag position) s = .next (s.answered m .badState [])) ∧
    (s.tr.state = .cued →
      let t : State := { s with tr := { s.tr with t := 256 * p, syncTimer := 0, state := .play } }
      answers (if 200 < p then t.rebuild else t) 0) ∧
    (s.tr.state = .play ∨ s.tr.state = .recover →
      (e.natAbs ≤ 15 → answers { s with tr := { s.tr with syncTimer := 0, slew := 0 } } 1) ∧
      (15 < e.natAbs → e.natAbs ≤ 200 → answers { s with tr := { s.tr with syncTimer := 0, slew := 256 * e } } 2) ∧
      (200 < e.natAbs → answers (State.rebuild { s with tr := { s.tr with
        syncTimer := 0, t := 256 * p, slew := 0, jumpCount := min 65535 (s.tr.jumpCount + 1),
        epoch := (s.tr.epoch + 1) % 256 } }) 3)) ∧
    (s.tr.state = .hold →
      (s.tr.settle ≠ 0 → answers (State.rebuild { s with tr := { s.tr with
        t := 256 * p, slew := 0, syncTimer := 0, epoch := (s.tr.epoch + 1) % 256, state := .recover,
        settleCount := s.tr.settle } }) 4) ∧
      (s.tr.settle = 0 → answers (State.rebuild { s with tr := { s.tr with
        t := 256 * p, slew := 0, syncTimer := 0, epoch := (s.tr.epoch + 1) % 256, state := .play } }) 4)) ∧
    (s.tr.state = .paused → answers s 5)

/-- PAUSE freezes the clock in PLAY or RECOVER. RESUME, in PAUSED, raises the epoch, rebuilds the rows, and enters
RECOVER with the settle count set, or PLAY when the settle setting is 0. Any other state refuses them. RATE and KEY, in
every transport state: the clamped value replaces the old one and nothing else changes. -/
def Obligations.PauseResumeRateKey : Prop :=
  (∀ (s : State) (tag : Byte), LinkFree s →
     (s.tr.state = .play ∨ s.tr.state = .recover → exec (.pause tag) s = .next (State.answered
       { s with tr := { s.tr with state := .paused, slew := 0, settleCount := 0 } } ⟨0x2A, tag, []⟩ .ok
       (le32 (BitVec.ofNat 32 (s.tr.t / 256))))) ∧
     (s.tr.state ≠ .play → s.tr.state ≠ .recover →
       exec (.pause tag) s = .next (s.answered ⟨0x2A, tag, []⟩ .badState [])) ∧
     (s.tr.state = .paused → s.tr.settle ≠ 0 → exec (.resume tag) s = .next (State.answered
       (State.rebuild { s with tr := { s.tr with
         epoch := (s.tr.epoch + 1) % 256, state := .recover, settleCount := s.tr.settle } }) ⟨0x2B, tag, []⟩ .ok [4])) ∧
     (s.tr.state = .paused → s.tr.settle = 0 → exec (.resume tag) s = .next (State.answered
       (State.rebuild { s with tr := { s.tr with epoch := (s.tr.epoch + 1) % 256, state := .play } })
       ⟨0x2B, tag, []⟩ .ok [2])) ∧
     (s.tr.state ≠ .paused → exec (.resume tag) s = .next (s.answered ⟨0x2B, tag, []⟩ .badState []))) ∧
  (∀ (s : State) (tag : Byte) (r : Half) (k : Byte), LinkFree s →
     exec (.rate tag r) s = .next (State.answered
       { s with tr := { s.tr with rate := max 384 (min 640 r.toNat) } } ⟨0x2C, tag, le16 r⟩ .ok
       (le16 (BitVec.ofNat 16 (max 384 (min 640 r.toNat))))) ∧
     exec (.key tag k) s = .next (State.answered
       { s with tr := { s.tr with key := max (-6) (min 6 k.toInt) } } ⟨0x2D, tag, [k]⟩ .ok
       [BitVec.ofInt 8 (max (-6) (min 6 k.toInt))]))

/-- STOP, TRANSPORT_SET and TRANSPORT_READ. STOP is refused with BAD_VALUE for a flag above 1 and with BAD_STATE in
IDLE and RESULT; with the flag set (the result interval not being 0) the song enters RESULT as ABORTED, its lanes closed
and its rows cleared. TRANSPORT_SET applies its five values clamped, and turning auto-advance on in IDLE cues a STAGED
first entry in the same arrival. TRANSPORT_READ changes nothing and gives the Transport's fields. -/
def Obligations.StopAndSettings : Prop :=
  (∀ (s : State) (tag flag : Byte), LinkFree s →
     let m : Message := ⟨0x2E, tag, [flag]⟩
     (1 < flag.toNat → exec (.stop tag flag) s = .next (s.answered m .badValue [])) ∧
     (flag.toNat ≤ 1 → s.tr.state = .idle ∨ s.tr.state = .result →
       exec (.stop tag flag) s = .next (s.answered m .badState [])) ∧
     (flag = 1 → s.tr.state ≠ .idle → s.tr.state ≠ .result → s.tr.resultInterval ≠ 0 →
       exec (.stop tag flag) s = .next (State.answered
         { s with
           tr := { s.tr with state := .result, slew := 0, syncTimer := 0, settleCount := 0, holdCount := 0,
                             finish := some .aborted, resultCountdown := s.tr.resultInterval }
           su := { s.su with lanes := s.su.lanes.map fun l => l.close s.songImage .aborted }
           llu := { s.llu with mode := .results, rows := s.llu.rows.map fun r => ⟨none, none, none, r.late⟩ } }
         m .ok [2]))) ∧
  (∀ (s : State) (tag auto : Byte) (y e h r : Half), LinkFree s →
     let m : Message := ⟨0x2F, tag, [auto] ++ le16 y ++ le16 e ++ le16 h ++ le16 r⟩
     let set : State := { s with tr := { s.tr with
       autoAdvance := auto == 1, syncTimeout := max 20 (min 200 y.toNat), settle := min 100 e.toNat,
       holdLimit := max 500 (min 6000 h.toNat), resultInterval := min 1500 r.toNat } }
     let data := [auto] ++ le16 (BitVec.ofNat 16 set.tr.syncTimeout) ++ le16 (BitVec.ofNat 16 set.tr.settle) ++
       le16 (BitVec.ofNat 16 set.tr.holdLimit) ++ le16 (BitVec.ofNat 16 set.tr.resultInterval)
     (1 < auto.toNat → exec (.transportSet tag auto y e h r) s = .next (s.answered m .badValue [])) ∧
     (auto.toNat ≤ 1 →
       (auto = 0 ∨ s.tr.state ≠ .idle ∨ (∀ x, (waiting s.rq.entries).head? = some x → x.state ≠ .staged) →
         exec (.transportSet tag auto y e h r) s = .next (set.answered m .ok data)) ∧
       (∀ x, auto = 1 → s.tr.state = .idle → (waiting s.rq.entries).head? = some x → x.state = .staged →
         exec (.transportSet tag auto y e h r) s = .next ((set.cue x).answered m .ok data)))) ∧
  (∀ (s : State) (tag : Byte), LinkFree s → ∃ data,
     exec (.transportRead tag) s = .next (s.answered ⟨0x30, tag, []⟩ .ok data) ∧ data.length = 33 ∧
     u8 data 0 = (match s.tr.state with
       | .idle => 0 | .cued => 1 | .play => 2 | .hold => 3 | .recover => 4 | .paused => 5 | .result => 6) ∧
     u32 data 1 = BitVec.ofNat 32 s.tr.t ∧ u32 data 5 = BitVec.ofNat 32 (s.tr.t / 256) ∧
     u32 data 9 = BitVec.ofNat 32 s.tr.duration ∧ u16 data 13 = BitVec.ofNat 16 s.tr.rate ∧
     u8 data 15 = BitVec.ofInt 8 s.tr.key ∧ u32 data 16 = BitVec.ofInt 32 s.tr.slew ∧
     u16 data 20 = BitVec.ofNat 16 s.tr.jumpCount ∧ u8 data 22 = BitVec.ofNat 8 s.tr.epoch ∧
     u8 data 23 = BitVec.ofNat 8 (((playingEntry s.rq.entries).map (·.id)).getD 0) ∧
     u8 data 24 = BitVec.ofNat 8 s.tr.syncTimer ∧ u8 data 25 = BitVec.ofNat 8 s.tr.settleCount ∧
     u16 data 26 = BitVec.ofNat 16 s.tr.holdCount ∧ u16 data 28 = BitVec.ofNat 16 s.tr.cueStallCount ∧
     u16 data 30 = BitVec.ofNat 16 s.tr.resultCountdown ∧
     u8 data 32 = (match s.tr.finish with | none => 0 | some .completed => 1 | some .aborted => 2 | some .skipped => 3))

/-- BLOCK_COMPLETION in each state, where it brings no song's end, and CUE_STALL, SYNC_TIMEOUT and SETTLE_SPENT, which
are the block completions at which those things happen. The clock stands outside PLAY and RECOVER; there it takes 5R and
the slew step. The cue stall count rises in CUED to 1,000, raising CUE_STALL when it reaches it; the sync timer rises,
and at its timeout freezes the clock in HOLD and raises SYNC_LOST; a settle count of 0 in RECOVER leads to PLAY and any
other falls by 1; the hold count rises and the result countdown falls. Each lane takes its channel's new block record
(OpenNoteTakesBlock says what it makes of it), and nothing else of the Scoring Unit changes. -/
def Obligations.ClockRuns : Prop :=
  ∀ (s : State) (input : BlockInput), s.resetLow = false →
    let step : Int := if 256 ≤ s.tr.slew then 256 else if s.tr.slew ≤ -256 then -256 else s.tr.slew
    let advanced : Int := s.tr.t + 5 * s.tr.rate + step
    let ticked : Transport := { s.tr with t := advanced.toNat, slew := s.tr.slew - step, syncTimer := s.tr.syncTimer + 1 }
    let goesOn := 0 < s.tr.duration ∧ advanced < 256 * s.tr.duration
    let leaves (c : Instr) (tr : Transport) (att : Attention) := ∃ t, exec c s = .next t ∧ s.blockKeeps t ∧
      t.blocks = s.blocks + 1 ∧ t.tr = tr ∧ att.agreesOffMics t.att ∧
      t.su = { s.su with lanes := s.su.lanes.mapIdx fun k l => l.block s.songImage (t.mfe.channels.get k).latest }
    (s.tr.state = .idle ∨ s.tr.state = .paused → leaves (.blockCompletion input) s.tr s.att) ∧
    (s.tr.state = .cued → s.tr.cueStallCount ≠ 999 →
      leaves (.blockCompletion input) { s.tr with cueStallCount := min 1000 (s.tr.cueStallCount + 1) } s.att) ∧
    (s.tr.state = .cued → s.tr.cueStallCount = 999 →
      leaves (.cueStall input) { s.tr with cueStallCount := 1000 } (s.att.raise .cueStall) ∧
      exec (.blockCompletion input) s = exec (.cueStall input) s) ∧
    (s.tr.state = .play ∨ s.tr.state = .recover → goesOn → s.tr.syncTimeout ≤ s.tr.syncTimer + 1 →
      leaves (.syncTimeout input) { ticked with state := .hold, slew := 0, holdCount := 0, settleCount := 0 }
        (s.att.raise .syncLost) ∧
      exec (.blockCompletion input) s = exec (.syncTimeout input) s) ∧
    (s.tr.state = .play → goesOn → s.tr.syncTimer + 1 < s.tr.syncTimeout →
      leaves (.blockCompletion input) ticked s.att) ∧
    (s.tr.state = .recover → goesOn → s.tr.syncTimer + 1 < s.tr.syncTimeout →
      (s.tr.settleCount = 0 → leaves (.settleSpent input) { ticked with state := .play } s.att ∧
        exec (.blockCompletion input) s = exec (.settleSpent input) s) ∧
      (s.tr.settleCount ≠ 0 →
        leaves (.blockCompletion input) { ticked with settleCount := s.tr.settleCount - 1 } s.att)) ∧
    (s.tr.state = .hold → s.tr.holdCount + 1 < s.tr.holdLimit →
      leaves (.blockCompletion input) { s.tr with holdCount := s.tr.holdCount + 1 } s.att) ∧
    (s.tr.state = .result → 1 < s.tr.resultCountdown →
      leaves (.blockCompletion input) { s.tr with resultCountdown := s.tr.resultCountdown - 1 } s.att)

/-- SONG_END and HOLD_LIMIT bring RESULT: the clock stands at the duration, or where HOLD froze it; the lanes are closed
with COMPLETED or ABORTED; the rows are cleared for the results; the result countdown starts; and the block is stamped
RESULT with that position, whatever the result interval. With a result interval of 0, which STOP with the flag set may
meet too, at RESULT_COUNTDOWN_SPENT, and at STOP with the flag clear the song finishes; then auto-advance is tested in the
same arrival: it cues the entry at position 1 when that is STAGED, the Transport IDLE and auto-advance on, and else
changes nothing. That the finish of a result interval of 0 follows the records of its block is the model's reading (log
entry 23), and so is that a finish by STOP keeps the fields R96 does not name (log entry 16); that the emptied slot keeps
its image is its choice (log entry 14). -/
def Obligations.SongEnds : Prop :=
  (∀ (s : State) (c : Instr) (input : BlockInput) (kind : FinishKind) (clock : Nat), s.resetLow = false →
     let step : Int := if 256 ≤ s.tr.slew then 256 else if s.tr.slew ≤ -256 then -256 else s.tr.slew
     (c = .songEnd input ∧ (s.tr.state = .play ∨ s.tr.state = .recover) ∧
         256 * (s.tr.duration : Int) ≤ s.tr.t + 5 * s.tr.rate + step ∧ kind = .completed ∧ clock = 256 * s.tr.duration ∨
       c = .holdLimit input ∧ s.tr.state = .hold ∧ s.tr.holdLimit ≤ s.tr.holdCount + 1 ∧ kind = .aborted ∧
         clock = s.tr.t) →
     let closed : State := { s with
       tr := { s.tr with state := .result, t := clock, slew := 0, syncTimer := 0, settleCount := 0, holdCount := 0,
                         finish := some kind, resultCountdown := s.tr.resultInterval }
       su := { s.su with lanes := s.su.lanes.map fun l => l.close s.songImage kind }
       llu := { s.llu with mode := .results, rows := s.llu.rows.map fun r => ⟨none, none, none, r.late⟩ } }
     exec (.blockCompletion input) s = exec c s ∧
     (∃ t, exec c s = .next t ∧ ∀ k : Fin 4,
       (t.mfe.channels.get k).latest.stamp = ⟨.result, clock / 256, s.tr.key, s.tr.epoch⟩) ∧
     (s.tr.resultInterval ≠ 0 → ∃ t, exec c s = .next t ∧ t.tr = closed.tr ∧ t.su = closed.su ∧ t.llu = closed.llu ∧
       t.rq = s.rq ∧ t.slotA = s.slotA ∧ t.slotB = s.slotB ∧ t.cmp = s.cmp ∧ t.pbc.registry = s.pbc.registry ∧
       s.sameLink t ∧ s.att.agreesOffMics t.att) ∧
     (∀ e n, s.tr.resultInterval = 0 → playingEntry s.rq.entries = some e → s.activeSlot = some n →
       ∃ f t, State.songFinished { closed with mfe := t.mfe } f kind e n ∧ exec c s = .next t ∧
         t.tr = f.autoAdvance.tr ∧ t.su = f.autoAdvance.su ∧ t.rq = f.autoAdvance.rq ∧
         t.slotA = f.autoAdvance.slotA ∧ t.slotB = f.autoAdvance.slotB ∧ t.llu = f.autoAdvance.llu ∧ t.cmp = s.cmp ∧
         t.pbc.registry = f.autoAdvance.pbc.registry ∧ s.sameLink t ∧ f.autoAdvance.att.agreesOffMics t.att)) ∧
  (∀ (s : State) (input : BlockInput) (kind : FinishKind) (e : Entry) (n : SlotName), s.resetLow = false →
     s.tr.state = .result → s.tr.resultCountdown ≤ 1 → s.tr.finish = some kind → playingEntry s.rq.entries = some e →
     s.activeSlot = some n →
     exec (.blockCompletion input) s = exec (.resultCountdownSpent input) s ∧
     ∃ f t, s.songFinished f kind e n ∧ exec (.resultCountdownSpent input) s = .next t ∧ t.tr = f.autoAdvance.tr ∧
       t.rq = f.autoAdvance.rq ∧ t.slotA = f.autoAdvance.slotA ∧ t.slotB = f.autoAdvance.slotB ∧
       t.llu = f.autoAdvance.llu ∧ t.cmp = s.cmp ∧ t.pbc.registry = f.autoAdvance.pbc.registry ∧ s.sameLink t ∧
       f.autoAdvance.att.agreesOffMics t.att ∧
       t.su = { f.autoAdvance.su with
         lanes := f.autoAdvance.su.lanes.mapIdx fun k l =>
           l.block f.autoAdvance.songImage (t.mfe.channels.get k).latest }) ∧
  (∀ (s : State) (tag : Byte) (e : Entry) (n : SlotName), LinkFree s → s.tr.state ≠ .idle → s.tr.state ≠ .result →
     playingEntry s.rq.entries = some e → s.activeSlot = some n →
     ∃ f, State.songFinished { s with su := { s.su with lanes := s.su.lanes.map fun l => l.close s.songImage .skipped } }
         f .skipped e n ∧
       exec (.stop tag 0) s = .next (f.autoAdvance.answered ⟨0x2E, tag, [0]⟩ .ok [3])) ∧
  (∀ (s : State) (tag : Byte) (e : Entry) (n : SlotName), LinkFree s → s.tr.state ≠ .idle → s.tr.state ≠ .result →
     s.tr.resultInterval = 0 → playingEntry s.rq.entries = some e → s.activeSlot = some n →
     ∃ f, State.songFinished { s with
         tr := { s.tr with state := .result, slew := 0, syncTimer := 0, settleCount := 0, holdCount := 0,
                           finish := some .aborted, resultCountdown := 0 }
         su := { s.su with lanes := s.su.lanes.map fun l => l.close s.songImage .aborted }
         llu := { s.llu with mode := .results, rows := s.llu.rows.map fun r => ⟨none, none, none, r.late⟩ } }
         f .aborted e n ∧
       exec (.stop tag 1) s = .next (f.autoAdvance.answered ⟨0x2E, tag, [1]⟩ .ok [2])) ∧
  (∀ s : State,
     (∀ e, s.tr.state = .idle → s.tr.autoAdvance = true → (waiting s.rq.entries).head? = some e → e.state = .staged →
       s.autoAdvance = s.cue e) ∧
     (s.tr.state ≠ .idle ∨ s.tr.autoAdvance = false ∨
         (∀ e, (waiting s.rq.entries).head? = some e → e.state ≠ .staged) →
       s.autoAdvance = s))

/-! ## Microphone Front End (Chapter 5) -/

/-- BLOCK_COMPLETION, and PRESENCE_CHANGE when a presence changes: each channel's window takes in its 480 samples; its
presence follows the fifth reading in a row that disagrees; its record carries the measures of its samples and window,
the candidate and voiced flags, the settings in force and the stamp the Transport's steps leave: RESULT at the duration,
or where HOLD froze the clock, for the block at which the song ends or is given up, whatever the result interval, and else
the Transport as the block completion leaves it; its candidate run, overload state and episodes follow. MIC_ABSENT and
MIC_OVERLOAD are raised, and the MIC_ABSENT condition is given. -/
def Obligations.BlockRecordsAreMade : Prop :=
  ∀ (s : State) (input : BlockInput), s.resetLow = false → (∀ k : Fin 4, (s.mfe.channels.get k).window.length = 1920) →
    let step : Int := if 256 ≤ s.tr.slew then 256 else if s.tr.slew ≤ -256 then -256 else s.tr.slew
    let songEnds : Prop := (s.tr.state = .play ∨ s.tr.state = .recover) ∧
      256 * s.tr.duration ≤ (s.tr.t + 5 * s.tr.rate + step).toNat
    let givenUp : Prop := s.tr.state = .hold ∧ s.tr.holdLimit ≤ s.tr.holdCount + 1
    ∃ t, exec (.blockCompletion input) s = .next t ∧
      ((∃ k : Fin 4, (t.mfe.channels.get k).presence ≠ (s.mfe.channels.get k).presence) →
        exec (.presenceChange input) s = .next t) ∧
      t.mfe.mode = s.mfe.mode ∧ t.mfe.count = s.mfe.count ∧ t.mfe.voicing = s.mfe.voicing ∧
      t.mfe.clarity = s.mfe.clarity ∧
      (∀ k : Fin 4,
        let before := s.mfe.channels.get k
        let after := t.mfe.channels.get k
        let samples := (input.get k).samples.toList.map BitVec.toInt
        let reading : Presence := if (input.get k).linkHigh then .present else .absent
        after.window = before.window.drop 480 ++ (input.get k).samples.toList ∧
        (reading = before.presence → after.presence = before.presence ∧ after.changeCount = 0) ∧
        (reading ≠ before.presence → before.changeCount ≠ 4 →
          after.presence = before.presence ∧ after.changeCount = before.changeCount + 1) ∧
        (reading ≠ before.presence → before.changeCount = 4 → after.presence = reading ∧ after.changeCount = 0) ∧
        after.latest.presence = after.presence ∧
        after.latest.level = levelOf (samples.map fun x => x.natAbs * x.natAbs).sum ∧
        (after.latest.clarity, after.latest.period) = analyse (after.window.map BitVec.toInt) ∧
        after.latest.pitch = pitchOf after.latest.period ∧
        (after.latest.candidate = true ↔ s.mfe.voicing ≤ after.latest.level ∧ s.mfe.clarity ≤ after.latest.clarity ∧
          after.latest.pitch ≠ none) ∧
        after.candidateRun = (if after.latest.candidate then min 8 (before.candidateRun + 1) else 0) ∧
        (s.mfe.mode = .debounce → (after.latest.voiced = true ↔ s.mfe.count + 1 ≤ after.candidateRun)) ∧
        (s.mfe.mode = .blank → after.latest.voiced = after.latest.candidate) ∧
        (after.latest.overload = true ↔ 8 ≤ (samples.filter fun x => decide (32700 ≤ x.natAbs)).length) ∧
        (after.latest.overload = false → after.overload = .clear ∧ after.episodes = before.episodes) ∧
        (after.latest.overload = true →
          (before.overload = .clear → after.overload = .pending ∧ after.episodes = before.episodes) ∧
          (before.overload = .pending → after.overload = .sustained ∧ after.episodes = min 255 (before.episodes + 1)) ∧
          (before.overload = .sustained → after.overload = .sustained ∧ after.episodes = before.episodes)) ∧
        after.latest.mode = s.mfe.mode ∧ after.latest.count = s.mfe.count ∧
        (songEnds → after.latest.stamp = ⟨.result, s.tr.duration, s.tr.key, s.tr.epoch⟩) ∧
        (givenUp → after.latest.stamp = ⟨.result, s.tr.t / 256, s.tr.key, s.tr.epoch⟩) ∧
        (¬songEnds → ¬givenUp → after.latest.stamp = ⟨t.tr.state, t.tr.t / 256, t.tr.key, t.tr.epoch⟩)) ∧
      t.att.mask = s.att.mask ∧
      (t.att.micAbsentHolds = true ↔ ∃ k : Fin 4, (t.mfe.channels.get k).presence = .absent) ∧
      (AttentionSet.has s.att.mask .micAbsent = false → (AttentionSet.has t.att.latched .micAbsent = true ↔
        AttentionSet.has s.att.latched .micAbsent = true ∨
        ∃ k : Fin 4, (s.mfe.channels.get k).presence = .present ∧ (t.mfe.channels.get k).presence = .absent)) ∧
      (AttentionSet.has s.att.mask .micOverload = false → (AttentionSet.has t.att.latched .micOverload = true ↔
        AttentionSet.has s.att.latched .micOverload = true ∨
        ∃ k : Fin 4, (t.mfe.channels.get k).overload = .sustained))

/-- The model's whole-number measures are the manual's formulas: the level of a sum of squares, the clarity of a
similarity of at most 1, and the pitch of a period. Of an analysis window, the lag of the greatest similarity is the
smallest of 27 to 873 that has it; where it is above 0 the clarity is that similarity's and the period that lag's, refined
by its neighbours' similarities but at the two end lags, and else both are 0. A quotient by a sum of squares or a
denominator of 0 counts as 0, as the manual has it. That the formulas are worked out exactly, with no rounding but the
final one, is the model's reading (log entry 20). -/
def Obligations.MeasuresAreTheFormulas : Prop :=
  levelOf 0 = -192 ∧
  (∀ e : Nat, 0 < e → levelOf e =
    max (-192) (min 0 ⌊40 * Real.logb 10 (Real.sqrt ((e : ℝ) / 480) / 32767)⌋)) ∧
  (∀ (aa : Nat) (x : Similarity), 0 < aa → 0 < x.den → 0 < x.num → x.num.natAbs * x.num.natAbs ≤ aa * x.den →
    (clarityOf aa x : Int) = ⌊255 * ((x.num : ℝ) / Real.sqrt ((aa : ℝ) * (x.den : ℝ)))⌋) ∧
  (∀ period : Nat, (period < 437 ∨ 13963 < period → pitchOf period = none) ∧
    (437 ≤ period → period ≤ 13963 → ∃ p : Nat, pitchOf period = some p ∧
      (p : Int) = ⌊192 * Real.logb 2 (768000 / (55 * (period : ℝ))) + 1 / 2⌋ ∧ p ≤ 960)) ∧
  (∀ w : List Int, w.length = 1920 →
    let x (n : Nat) : ℝ := ((w.getD n 0 : Int) : ℝ)
    let sum (f : Nat → ℝ) : ℝ := ((List.range 960).map f).sum
    let sim (lag : Nat) : ℝ := sum (fun n => x (960 + n) * x (960 + n - lag)) /
      Real.sqrt (sum (fun n => x (960 + n) ^ 2) * sum fun n => x (960 + n - lag) ^ 2)
    ∃ lag, 27 ≤ lag ∧ lag ≤ 873 ∧ (∀ k, 27 ≤ k → k ≤ 873 → sim k ≤ sim lag) ∧
      (∀ k, 27 ≤ k → k < lag → sim k < sim lag) ∧
      (sim lag ≤ 0 → analyse w = (0, 0)) ∧
      (0 < sim lag →
        let offset : ℝ := if lag = 27 ∨ lag = 873 then 0
          else (sim (lag - 1) - sim (lag + 1)) / (2 * (sim (lag - 1) - 2 * sim lag + sim (lag + 1)))
        ((analyse w).1 : Int) = ⌊255 * sim lag⌋ ∧ ((analyse w).2 : Int) = ⌊16 * ((lag : ℝ) + offset) + 1 / 2⌋))

/-- MIC_SET and SCORE_SET apply their values clamped, and refuse a byte that names none of theirs with BAD_VALUE; BIND
replaces one channel's binding, in IDLE alone. MIC_READ gives the channel's latest record and counters, and LANE_READ
the lane, every field of each, and of a lane in IDLE the cleared values; neither changes anything. The accuracy byte of a
last closed note that is not SCORED is the model's choice (log entry 24), and that an IDLE lane's T, fold and L read as
cleared during a song too is its reading (log entry 28). A channel outside 1..4 is refused with BAD_VALUE. -/
def Obligations.MicAndScoringMessages : Prop :=
  (∀ (s : State) (tag a b : Byte) (x y : Half), LinkFree s →
     let m : Message := ⟨0x38, tag, [a, b] ++ le16 x ++ le16 y⟩
     (1 < a.toNat → exec (.micSet tag a b x y) s = .next (s.answered m .badValue [])) ∧
     (a.toNat ≤ 1 →
       let voicing := max (-160) (min (-20) x.toInt)
       exec (.micSet tag a b x y) s = .next (State.answered
         { s with mfe := { s.mfe with mode := if a = 0 then .debounce else .blank, count := min 7 b.toNat,
                                      voicing := voicing, clarity := min 255 y.toNat } } m .ok
         ([a, BitVec.ofNat 8 (min 7 b.toNat)] ++ le16 (BitVec.ofInt 16 voicing) ++
           le16 (BitVec.ofNat 16 (min 255 y.toNat)))))) ∧
  (∀ (s : State) (tag a b : Byte) (x : Half), LinkFree s →
     let m : Message := ⟨0x41, tag, [a, b] ++ le16 x⟩
     (2 < a.toNat ∨ 1 < b.toNat → exec (.scoreSet tag a b x) s = .next (s.answered m .badValue [])) ∧
     (a.toNat ≤ 2 → b.toNat ≤ 1 → exec (.scoreSet tag a b x) s = .next (State.answered
       { s with su := { s.su with level := if a = 0 then .easy else if a = 1 then .normal else .strict,
                                  fold := b == 1, latency := min 300 x.toNat } } m .ok
       ([a, if a = 0 then 24 else if a = 1 then 16 else 8, b] ++ le16 (BitVec.ofNat 16 (min 300 x.toNat)))))) ∧
  (∀ (s : State) (tag c a b : Byte), LinkFree s →
     (c.toNat < 1 ∨ 4 < c.toNat →
       exec (.bind tag c a b) s = .next (s.answered ⟨0x40, tag, [c, a, b]⟩ .badValue []) ∧
       exec (.micRead tag c) s = .next (s.answered ⟨0x39, tag, [c]⟩ .badValue []) ∧
       exec (.laneRead tag c) s = .next (s.answered ⟨0x42, tag, [c]⟩ .badValue [])) ∧
     (2 < a.toNat ∨ (a = 1 ∧ (b.toNat < 1 ∨ 4 < b.toNat)) →
       exec (.bind tag c a b) s = .next (s.answered ⟨0x40, tag, [c, a, b]⟩ .badValue [])) ∧
     (∀ k : Fin 4, c.toNat = k.val + 1 → a.toNat ≤ 2 → (a = 1 → 1 ≤ b.toNat ∧ b.toNat ≤ 4) →
       (s.tr.state ≠ .idle → exec (.bind tag c a b) s = .next (s.answered ⟨0x40, tag, [c, a, b]⟩ .badState [])) ∧
       (s.tr.state = .idle → exec (.bind tag c a b) s = .next (State.answered
         { s with su := { s.su with
             bindings := s.su.bindings.set k (if a = 0 then .off else if a = 1 then .fixed b.toNat else .auto) } }
         ⟨0x40, tag, [c, a, b]⟩ .ok [c, a, if a = 1 then b else 0])))) ∧
  (∀ (s : State) (tag c : Byte) (k : Fin 4), LinkFree s → c.toNat = k.val + 1 → ∃ data,
     let x := s.mfe.channels.get k
     exec (.micRead tag c) s = .next (s.answered ⟨0x39, tag, [c]⟩ .ok data) ∧ data.length = 23 ∧ u8 data 0 = c ∧
     u8 data 1 = (match x.latest.presence with | .absent => 0 | .present => 1) ∧
     u16 data 2 = BitVec.ofInt 16 x.latest.level ∧ u8 data 4 = BitVec.ofNat 8 x.latest.clarity ∧
     u16 data 5 = BitVec.ofNat 16 x.latest.period ∧ u16 data 7 = BitVec.ofNat 16 (x.latest.pitch.getD 0xFFFF) ∧
     u8 data 9 = (if x.latest.candidate then 1 else 0) + (if x.latest.voiced then 2 else 0) +
       (if x.latest.overload then 4 else 0) ∧
     u8 data 10 = (match x.latest.mode with | .debounce => 0 | .blank => 1) ∧
     u8 data 11 = BitVec.ofNat 8 x.latest.count ∧
     u8 data 12 = (match x.latest.stamp.state with
       | .idle => 0 | .cued => 1 | .play => 2 | .hold => 3 | .recover => 4 | .paused => 5 | .result => 6) ∧
     u32 data 13 = BitVec.ofNat 32 x.latest.stamp.position ∧
     u8 data 17 = BitVec.ofInt 8 x.latest.stamp.key ∧ u8 data 18 = BitVec.ofNat 8 x.latest.stamp.epoch ∧
     u8 data 19 = BitVec.ofNat 8 x.changeCount ∧ u8 data 20 = BitVec.ofNat 8 x.candidateRun ∧
     u8 data 21 = (match x.overload with | .clear => 0 | .pending => 1 | .sustained => 2) ∧
     u8 data 22 = BitVec.ofNat 8 x.episodes) ∧
  (∀ (s : State) (tag c : Byte) (k : Fin 4), LinkFree s → c.toNat = k.val + 1 → ∃ data,
     let held := s.su.lanes.get k
     let l : Lane := if held.state = .idle then
         { state := .idle, part := none, noteCount := 0, tolerance := 16, fold := true, latency := 60, cursor := 0,
           openNote := none, lastEpoch := 0, outcomes := [], sumAw := 0, sumW := 0, scored := 0, empty := 0,
           void := 0, lastClosed := none }
       else held
     exec (.laneRead tag c) s = .next (s.answered ⟨0x42, tag, [c]⟩ .ok data) ∧ data.length = 45 ∧
     u8 data 0 = (match l.state with | .idle => 0 | .armed => 1 | .scoring => 2 | .suspended => 3 | .closed => 4) ∧
     u8 data 1 = (match s.su.bindings.get k with | .off => 0 | .fixed _ => 1 | .auto => 2) ∧
     u8 data 2 = BitVec.ofNat 8 (match s.su.bindings.get k with | .fixed p => p | _ => 0) ∧
     u8 data 3 = BitVec.ofNat 8 (l.part.getD 0) ∧ u16 data 4 = BitVec.ofNat 16 l.noteCount ∧
     u8 data 6 = BitVec.ofNat 8 l.tolerance ∧ u8 data 7 = (if l.fold then 1 else 0) ∧
     u16 data 8 = BitVec.ofNat 16 l.latency ∧ u16 data 10 = BitVec.ofNat 16 l.cursor ∧
     u16 data 12 = BitVec.ofNat 16 ((l.openNote.map (·.index)).getD 0xFFFF) ∧
     u16 data 14 = BitVec.ofNat 16 ((l.openNote.map (·.counted)).getD 0) ∧
     u32 data 16 = BitVec.ofNat 32 ((l.openNote.map (·.points)).getD 0) ∧
     u16 data 20 = BitVec.ofNat 16 ((l.openNote.map (·.windowBlocks)).getD 0) ∧
     u8 data 22 = BitVec.ofNat 8 l.lastEpoch ∧ u32 data 23 = BitVec.ofNat 32 l.sumAw ∧
     u32 data 27 = BitVec.ofNat 32 l.sumW ∧
     u16 data 31 = BitVec.ofNat 16 (if l.sumW = 0 then 0xFFFF else 100 * l.sumAw / l.sumW) ∧
     u16 data 33 = BitVec.ofNat 16 l.scored ∧ u16 data 35 = BitVec.ofNat 16 l.empty ∧
     u16 data 37 = BitVec.ofNat 16 l.void ∧
     u16 data 39 = BitVec.ofNat 16
       (l.noteCount - (l.scored + l.empty + l.void + (if l.openNote = none then 0 else 1))) ∧
     u16 data 41 = BitVec.ofNat 16 ((l.lastClosed.map (·.index)).getD 0xFFFF) ∧
     u8 data 43 = (match l.lastClosed.map (·.outcome) with
       | none => 0 | some .pending => 0 | some .opened => 1 | some .scored => 2 | some .empty => 3 | some .void => 4) ∧
     u8 data 44 = BitVec.ofNat 8 (((l.lastClosed.map (·.accuracy)).getD none).getD 0))

/-! ## Scoring Unit (Chapter 6) -/

/-- What a lane makes of a block. IDLE and CLOSED lanes take none. The record's presence and stamp move ARMED, SCORING and
SUSPENDED; a lane left ARMED does nothing more (that its last epoch stays is the model's choice: log entry 27). In the others the cursor moves over the notes that end at or before the
compensated position, each given its final outcome, stops at the first that does not, and that note, its window reached,
is opened under PLAY in a SCORING lane or is VOID; a block not of PLAY, of another epoch or in a SUSPENDED lane makes the
open note VOID. The open note takes the block; sums, last epoch and last closed note follow. So, with the sums, a lane
with a note open takes a block whose compensated position lies before the note's end. A block stamped PLAY,
of the same epoch and with the microphone present, raises the window blocks, and unless it is an overload block or one
that BLANK mode leaves out counts with its points: 4, 2, 1 or 0 by the deviation from the note's code and the key shift,
folded into one octave when the fold is on, and 0 for an unvoiced block. Any other block makes the note VOID. -/
def Obligations.OpenNoteTakesBlock : Prop :=
  (∀ (m : ImageMemory) (l : Lane) (r : BlockRecord), l.lawful →
    let t := l.block m r
    (l.state = .idle ∨ l.state = .closed → t = l) ∧
    (l.state = .armed ∨ l.state = .scoring ∨ l.state = .suspended →
      t.lawful ∧ t.part = l.part ∧ t.noteCount = l.noteCount ∧ t.tolerance = l.tolerance ∧ t.fold = l.fold ∧
      t.latency = l.latency ∧
      (r.presence = .absent → t.state = .suspended) ∧
      (r.presence = .present →
        (l.state = .suspended → t.state = if r.stamp.state = .cued then .armed else .scoring) ∧
        (l.state = .armed → t.state = if r.stamp.state = .play then .scoring else .armed) ∧
        (l.state = .scoring → t.state = .scoring)) ∧
      (t.state = .armed → t = { l with state := .armed }) ∧
      (∀ p, l.part = some p → t.state ≠ .armed →
        let c : Int := (r.stamp.position : Int) - l.latency
        let starts (i : Nat) : Int := (noteAt m p i).start
        let ends (i : Nat) : Int := (noteAt m p i).start + (noteAt m p i).duration
        let live : Bool := decide (r.stamp.state = .play) && decide (t.state = .scoring)
        let cut : Bool := decide (r.stamp.state ≠ .play ∨ t.state = .suspended ∨ r.stamp.epoch ≠ l.lastEpoch)
        let opens (i : Nat) : Bool := decide ((noteAt m p i).unscored = 0) && live
        let points (i : Nat) : Nat := match r.voiced, r.pitch with
          | true, some pitch =>
            let d : Int := (pitch : Int) - 16 * ((noteAt m p i).code + r.stamp.key)
            let off := (if l.fold then (d + 96) % 192 - 96 else d).natAbs
            if off ≤ l.tolerance then 4 else if off ≤ 2 * l.tolerance then 2 else if off ≤ 3 * l.tolerance then 1 else 0
          | _, _ => 0
        let counted (o : OpenNote) : OpenNote :=
          if r.overload = true ∨ (r.mode = .blank ∧ o.windowBlocks + 1 ≤ r.count) then
            { o with windowBlocks := o.windowBlocks + 1 }
          else ⟨o.index, o.counted + 1, o.points + points o.index, o.windowBlocks + 1⟩
        let accuracy (o : OpenNote) := 100 * o.points / (4 * o.counted)
        let k := t.cursor
        t.lastEpoch = r.stamp.epoch ∧
        -- the cursor, and the notes it passes
        l.cursor ≤ k ∧ k ≤ l.noteCount ∧ (∀ i, l.cursor ≤ i → i < k → ends i ≤ c) ∧ (k < l.noteCount → c < ends k) ∧
        (∀ i, i < l.cursor ∨ k < i → t.outcomeAt i = l.outcomeAt i) ∧
        (∀ i, l.cursor ≤ i → i < k →
          (l.outcomeAt i = .pending → t.outcomeAt i = if opens i then .empty else .void) ∧
          (l.outcomeAt i = .void → t.outcomeAt i = .void) ∧
          (∀ o, l.openNote = some o → o.index = i →
            t.outcomeAt i = if cut then .void else if o.counted = 0 then .empty else .scored)) ∧
        -- the note it stops at
        (k = l.noteCount → t.openNote = none) ∧
        (k < l.noteCount →
          (l.outcomeAt k = .pending → starts k ≤ c → opens k = true →
            t.outcomeAt k = .opened ∧ t.openNote = some (counted ⟨k, 0, 0, 0⟩)) ∧
          (l.outcomeAt k = .pending → starts k ≤ c → opens k = false → t.outcomeAt k = .void ∧ t.openNote = none) ∧
          (l.outcomeAt k = .pending → c < starts k → t.outcomeAt k = .pending ∧ t.openNote = none) ∧
          (l.outcomeAt k = .void → t.outcomeAt k = .void ∧ t.openNote = none) ∧
          (∀ o, l.openNote = some o → o.index = k →
            (cut = true → t.outcomeAt k = .void ∧ t.openNote = none) ∧
            (cut = false → t.outcomeAt k = .opened ∧ t.openNote = some (counted o)))) ∧
        -- the sums, and the last closed note
        (∀ o, l.openNote = some o → o.index < k → cut = false → o.counted ≠ 0 →
          t.sumAw = l.sumAw + accuracy o * min (noteAt m p o.index).duration 2000 ∧
          t.sumW = l.sumW + min (noteAt m p o.index).duration 2000) ∧
        ((∀ o, l.openNote = some o → o.index < k → cut = true ∨ o.counted = 0) →
          t.sumAw = l.sumAw ∧ t.sumW = l.sumW) ∧
        let voided := k < l.noteCount ∧ l.outcomeAt k = .pending ∧ starts k ≤ c ∧ opens k = false
        (voided → t.lastClosed = some ⟨k, .void, none⟩) ∧
        (¬ voided → l.cursor < k → l.outcomeAt (k - 1) ≠ .scored → l.outcomeAt (k - 1) ≠ .empty →
          t.lastClosed = some ⟨k - 1, t.outcomeAt (k - 1),
            if t.outcomeAt (k - 1) = .scored then l.openNote.map accuracy else none⟩) ∧
        (¬ voided → k = l.cursor →
          t.lastClosed = if cut = true ∧ l.openNote ≠ none then some ⟨k, .void, none⟩ else l.lastClosed)))) ∧
  ∀ (m : ImageMemory) (l : Lane) (r : BlockRecord) (p : Nat) (o : OpenNote), l.lawful → l.state = .scoring →
    l.part = some p → l.openNote = some o →
    let note := noteAt m p l.cursor
    (r.presence = .present → r.stamp.state = .play → r.stamp.epoch = l.lastEpoch →
      (r.stamp.position : Int) - l.latency < note.start + note.duration →
      let leftOut := r.overload = true ∨ (r.mode = .blank ∧ o.windowBlocks + 1 ≤ r.count)
      (leftOut → l.block m r = { l with openNote := some { o with windowBlocks := o.windowBlocks + 1 } }) ∧
      (¬ leftOut →
        (r.voiced = false → l.block m r = { l with
          openNote := some { o with windowBlocks := o.windowBlocks + 1, counted := o.counted + 1 } }) ∧
        (∀ pitch, r.voiced = true → r.pitch = some pitch →
          let d : Int := (pitch : Int) - 16 * (note.code + r.stamp.key)
          let off := (if l.fold then (d + 96) % 192 - 96 else d).natAbs
          let points := if off ≤ l.tolerance then 4 else if off ≤ 2 * l.tolerance then 2
            else if off ≤ 3 * l.tolerance then 1 else 0
          l.block m r = { l with
            openNote := some ⟨o.index, o.counted + 1, o.points + points, o.windowBlocks + 1⟩ }))) ∧
    (r.presence = .absent ∨ r.stamp.state ≠ .play ∨ r.stamp.epoch ≠ l.lastEpoch →
      (l.block m r).outcomeAt l.cursor = .void ∧ l.void + 1 ≤ (l.block m r).void ∧
      (l.block m r).sumAw = l.sumAw ∧ (l.block m r).sumW = l.sumW)

/-- The close of a lane that takes part in the song: no note stays OPEN or PENDING. Every PENDING note becomes VOID; the
OPEN note becomes VOID for ABORTED and SKIPPED, and for COMPLETED EMPTY when no block was counted, else SCORED with
accuracy 100·points/(4·counted) rounded down and its duration, at most 2,000, as weight. Decided notes stand. -/
def Obligations.LanesCloseEveryNote : Prop :=
  ∀ (m : ImageMemory) (l : Lane) (kind : FinishKind), l.lawful →
    (l.state = .armed ∨ l.state = .scoring ∨ l.state = .suspended →
      let t := l.close m kind
      t.state = .closed ∧ t.part = l.part ∧ t.noteCount = l.noteCount ∧ t.cursor = l.noteCount ∧ t.openNote = none ∧
      (∀ i < l.noteCount, l.outcomeAt i = .pending → t.outcomeAt i = .void) ∧
      (∀ i, l.outcomeAt i = .scored ∨ l.outcomeAt i = .empty ∨ l.outcomeAt i = .void →
        t.outcomeAt i = l.outcomeAt i) ∧
      (l.openNote = none → t.sumAw = l.sumAw ∧ t.sumW = l.sumW ∧ t.scored = l.scored ∧ t.empty = l.empty) ∧
      (∀ o, l.openNote = some o →
        (kind ≠ .completed → t.outcomeAt l.cursor = .void ∧ t.sumAw = l.sumAw ∧ t.sumW = l.sumW ∧
          t.scored = l.scored ∧ t.empty = l.empty) ∧
        (kind = .completed → o.counted = 0 → t.outcomeAt l.cursor = .empty ∧ t.sumAw = l.sumAw ∧ t.sumW = l.sumW ∧
          t.scored = l.scored ∧ t.empty = l.empty + 1) ∧
        (kind = .completed → o.counted ≠ 0 →
          let weight := min (noteAt m (l.part.getD 0) l.cursor).duration 2000
          t.outcomeAt l.cursor = .scored ∧ t.sumAw = l.sumAw + 100 * o.points / (4 * o.counted) * weight ∧
          t.sumW = l.sumW + weight ∧ t.scored = l.scored + 1 ∧ t.empty = l.empty))) ∧
    (l.state = .idle ∨ l.state = .closed → l.close m kind = l)

/-- Every lane's notes, cursor and counters keep in step at every step: decided notes before the cursor, PENDING ones
after it, at most one OPEN, and each counter the number of its notes. -/
def Obligations.LanesStayLawful : Prop :=
  ∀ s t : State, s.su.lawful → step s = .next t → t.su.lawful

/-! ## Lyric Layout Unit (Chapter 7) -/

/-- The frame steps run until none applies, and a rebuild. A frame start takes a row slot through frame steps alone,
each of them promotion, removal or the next line reached with the effect `RowStep` gives it, the late count included, to
a slot at which no step applies: a deferred line waits for a shown line not yet ended, a shown line with nothing deferred
is not at its hide tick, and a next line with nothing deferred is not at its show tick. A rebuild shows the slot's last
line that is due and not yet hidden, defers nothing, takes as next the first line not yet due, and keeps the late
count. -/
def Obligations.RowSlotsFollowClock : Prop :=
  (∀ (v : LineView) (k : Nat) (r : RowSlot), imgLines v.image ≤ 512 →
     let after := settleRow v k 1536 r
     Relation.ReflTransGen (RowStep v k) r after ∧ (∀ r', ¬ RowStep v k after r') ∧
     (∀ l d, after.shown = some l → after.deferred = some d → v.t < 256 * lineEnd v.image l.index) ∧
     (∀ l, after.shown = some l → after.deferred = none → v.t < 256 * (lineEnd v.image l.index + v.linger)) ∧
     (∀ n, after.next = some n → after.deferred = none → v.t < 256 * (lineStart v.image n - v.leadIn))) ∧
  (∀ (v : LineView) (k : Nat) (r : RowSlot),
     let after := rebuildRow v k r
     let due (i : Nat) := i < imgLines v.image ∧ (lineAt v.image i).hint = k ∧ 256 * (lineStart v.image i - v.leadIn) ≤ v.t ∧
       v.t < 256 * (lineEnd v.image i + v.linger)
     let notYet (i : Nat) := i < imgLines v.image ∧ (lineAt v.image i).hint = k ∧ v.t < 256 * (lineStart v.image i - v.leadIn)
     after.late = r.late ∧ after.deferred = none ∧
     (∀ i, due i → (∀ j, due j → j ≤ i) → after.shown = some (layLine v.image v.glyphs i)) ∧
     ((∀ i, ¬ due i) → after.shown = none) ∧
     (∀ i, notYet i → (∀ j, notYet j → i ≤ j) → after.next = some i) ∧
     ((∀ i, ¬ notYet i) → after.next = none))

/-- The layout of a line and the wipe. A line's width is the sum of its glyphs' widths; it begins at column
60 + (1,800 − w)/2, or at 60 when wider; its glyphs stand edge to edge, and one is drawn exactly when its right edge is
at most 1,860. A syllable's wipe column is its left edge before its start, its right edge from its end on, and between
them grows with the clock by the exact quotient rounded down. -/
def Obligations.LinesAreLaidOutAndWiped : Prop :=
  (∀ (m : ImageMemory) (g : GlyphStore) (i : Nat),
     let l := layLine m g i
     let codes := (lineSyllables m i).flatMap fun j => (syllableAt m j).run
     l.index = i ∧ l.width = (codes.map (glyphWidth g)).sum ∧
     l.x0 = (if l.width ≤ 1800 then 60 + (1800 - l.width) / 2 else 60) ∧ l.glyphs.map (·.code) = codes ∧
     l.syllables.length = (lineSyllables m i).length ∧
     (∀ n p, l.glyphs[n]? = some p → p.left = l.x0 + ((codes.take n).map (glyphWidth g)).sum ∧
       p.width = glyphWidth g p.code ∧ (p.drawn = true ↔ p.left + p.width ≤ 1860)) ∧
     (∀ n j p, (lineSyllables m i)[n]? = some j → l.syllables[n]? = some p →
       p.width = ((syllableAt m j).run.map (glyphWidth g)).sum ∧
       p.left = l.x0 + ((((lineSyllables m i).take n).flatMap fun j => (syllableAt m j).run).map (glyphWidth g)).sum)) ∧
  (∀ (t : Nat) (y : SyllableRec) (p : PlacedSyllable), 1 ≤ y.duration →
     let c := wipeColumn t y p
     (t < 256 * y.start → c = p.left) ∧
     (256 * (y.start + y.duration) ≤ t → c = p.left + p.width) ∧
     (256 * y.start ≤ t → t < 256 * (y.start + y.duration) → p.left ≤ c ∧
       (c - p.left) * (256 * y.duration) ≤ p.width * (t - 256 * y.start) ∧
       p.width * (t - 256 * y.start) < (c - p.left + 1) * (256 * y.duration)) ∧
     ∀ t', t ≤ t' → c ≤ wipeColumn t' y p)

/-! ## Lyric Layout Unit and Compositor messages -/

/-- LAYOUT_SET, BAND_MAP, ROW_PLACE, PALETTE and BANNER_SET apply their values together, clamped where the manual clamps
them, and refuse a byte that names none of theirs with BAD_VALUE, applying nothing. LAYOUT_READ and COMPOSITOR_READ
change nothing and give every field of the units. -/
def Obligations.ScreenMessages : Prop :=
  (∀ (s : State) (tag : Byte) (a b : Half), LinkFree s →
     exec (.layoutSet tag a b) s = .next (State.answered
       { s with llu := { s.llu with leadIn := max 500 (min 10000 a.toNat), linger := min 3000 b.toNat } }
       ⟨0x48, tag, le16 a ++ le16 b⟩ .ok
       (le16 (BitVec.ofNat 16 (max 500 (min 10000 a.toNat))) ++ le16 (BitVec.ofNat 16 (min 3000 b.toNat)))) ∧
     (4084 < b.toNat →
       exec (.bannerSet tag a b) s = .next (s.answered ⟨0x53, tag, le16 a ++ le16 b⟩ .badValue [])) ∧
     (b.toNat ≤ 4084 → exec (.bannerSet tag a b) s = .next (State.answered
       { s with cmp := { s.cmp with bannerWindow := min 60000 a.toNat, digitBase := b.toNat } }
       ⟨0x53, tag, le16 a ++ le16 b⟩ .ok (le16 (BitVec.ofNat 16 (min 60000 a.toNat)) ++ le16 b)))) ∧
  (∀ (s : State) (tag : Byte) (codes : Oct Byte), LinkFree s →
     let m : Message := ⟨0x50, tag, codes.toList⟩
     ((∃ i, 4 < (codes.get i).toNat) → exec (.bandMap tag codes) s = .next (s.answered m .badValue [])) ∧
     ((∀ i, (codes.get i).toNat ≤ 4) → ∃ bands : Oct BandCode,
       (∀ i, bands.get i = (if codes.get i = 0 then .pass else if codes.get i = 1 then .lyric
         else if codes.get i = 2 then .dim else if codes.get i = 3 then .banner else .blank)) ∧
       exec (.bandMap tag codes) s =
         .next (State.answered { s with cmp := { s.cmp with bands := bands } } m .ok codes.toList))) ∧
  (∀ (s : State) (tag slot band offset : Byte), LinkFree s →
     let m : Message := ⟨0x51, tag, [slot, band, offset]⟩
     (3 < slot.toNat ∨ 7 < band.toNat → exec (.rowPlace tag slot band offset) s = .next (s.answered m .badValue [])) ∧
     (∀ k : Fin 4, slot.toNat = k.val → band.toNat ≤ 7 → exec (.rowPlace tag slot band offset) s = .next (State.answered
       { s with cmp := { s.cmp with placement := s.cmp.placement.set k ⟨band.toNat, min 87 offset.toNat⟩ } } m .ok
       [band, BitVec.ofNat 8 (min 87 offset.toNat)]))) ∧
  (∀ (s : State) (tag entry : Byte) (c : RGB), LinkFree s →
     let m : Message := ⟨0x52, tag, [entry, c.red, c.green, c.blue]⟩
     (7 < entry.toNat → exec (.palette tag entry c) s = .next (s.answered m .badValue [])) ∧
     (∀ i : Fin 8, entry.toNat = i.val → exec (.palette tag entry c) s = .next (State.answered
       { s with cmp := { s.cmp with palette := s.cmp.palette.set i c } } m .ok [entry, c.red, c.green, c.blue]))) ∧
  (∀ (s : State) (tag : Byte), LinkFree s → ∃ data,
     exec (.layoutRead tag) s = .next (s.answered ⟨0x49, tag, []⟩ .ok data) ∧ data.length = 141 ∧
     u16 data 0 = BitVec.ofNat 16 s.llu.leadIn ∧ u16 data 2 = BitVec.ofNat 16 s.llu.linger ∧
     u16 data 4 = BitVec.ofNat 16 s.llu.songLeadIn ∧ u16 data 6 = BitVec.ofNat 16 s.llu.songLinger ∧
     u8 data 8 = (match s.llu.mode with | .none => 0 | .lyrics => 1 | .results => 2) ∧
     ∀ k : Fin 4,
       u16 data (9 + 33 * k.val) = BitVec.ofNat 16 (((s.llu.rows.get k).shown.map (·.index)).getD 0xFFFF) ∧
       (match (s.llu.rows.get k).shown with
         | none => ∀ j, 11 + 33 * k.val ≤ j → j < 36 + 33 * k.val → u8 data j = 0
         | some l =>
           u8 data (11 + 33 * k.val) = BitVec.ofNat 8 (lineAt s.songImage l.index).mask ∧
           u32 data (12 + 33 * k.val) = BitVec.ofNat 32 (lineStart s.songImage l.index) ∧
           u32 data (16 + 33 * k.val) = BitVec.ofNat 32 (lineEnd s.songImage l.index) ∧
           u32 data (20 + 33 * k.val) = BitVec.ofNat 32 (lineStart s.songImage l.index - s.llu.songLeadIn) ∧
           u32 data (24 + 33 * k.val) = BitVec.ofNat 32 (lineEnd s.songImage l.index + s.llu.songLinger) ∧
           u16 data (28 + 33 * k.val) = BitVec.ofNat 16 l.x0 ∧ u16 data (30 + 33 * k.val) = BitVec.ofNat 16 l.width ∧
           u16 data (32 + 33 * k.val) = BitVec.ofNat 16 l.glyphs.length ∧
           u16 data (34 + 33 * k.val) = BitVec.ofNat 16 (l.glyphs.filter (·.drawn)).length) ∧
       u16 data (36 + 33 * k.val) = BitVec.ofNat 16 ((s.llu.rows.get k).deferred.getD 0xFFFF) ∧
       u16 data (38 + 33 * k.val) = BitVec.ofNat 16 ((s.llu.rows.get k).next.getD 0xFFFF) ∧
       u16 data (40 + 33 * k.val) = BitVec.ofNat 16 (s.llu.rows.get k).late) ∧
  (∀ (s : State) (tag : Byte) (code : Half), LinkFree s →
     (4095 < code.toNat →
       exec (.compositorRead tag code) s = .next (s.answered ⟨0x57, tag, le16 code⟩ .badValue [])) ∧
     (code.toNat ≤ 4095 → ∃ data,
       let held := if code = 0 then none else glyphOf s.cmp.glyphs code.toNat
       exec (.compositorRead tag code) s = .next (s.answered ⟨0x57, tag, le16 code⟩ .ok data) ∧ data.length = 57 ∧
       (∀ i : Fin 8, u8 data i.val = (match s.cmp.bands.get i with
         | .pass => 0 | .lyric => 1 | .dim => 2 | .banner => 3 | .blank => 4)) ∧
       (∀ k : Fin 4, u8 data (8 + 2 * k.val) = BitVec.ofNat 8 (s.cmp.placement.get k).band ∧
         u8 data (9 + 2 * k.val) = BitVec.ofNat 8 (s.cmp.placement.get k).offset) ∧
       (∀ i : Fin 8, u8 data (16 + 3 * i.val) = (s.cmp.palette.get i).red ∧
         u8 data (17 + 3 * i.val) = (s.cmp.palette.get i).green ∧ u8 data (18 + 3 * i.val) = (s.cmp.palette.get i).blue) ∧
       u16 data 40 = BitVec.ofNat 16 s.cmp.bannerWindow ∧ u16 data 42 = BitVec.ofNat 16 s.cmp.digitBase ∧
       u8 data 44 = (match s.cmp.video with | .unlocked => 0 | .locked => 1) ∧
       u8 data 45 = BitVec.ofNat 8 s.cmp.staleCount ∧ u8 data 46 = BitVec.ofNat 8 s.cmp.freshRun ∧
       u8 data 47 = (if s.cmp.bannerShown then 1 else 0) ∧ u16 data 48 = BitVec.ofNat 16 s.cmp.glyphs.length ∧
       u32 data 50 = BitVec.ofNat 32 (glyphBytes s.cmp.glyphs) ∧ u8 data 54 = (if held.isSome then 1 else 0) ∧
       u8 data 55 = BitVec.ofNat 8 ((held.map (·.width)).getD 0) ∧
       (u8 data 56 = 0 ∨ u8 data 56 = 1) ∧
       (u8 data 56 = 1 ↔ code ≠ 0 ∧ ∃ n : SlotName, ((s.slot n).state = .staged ∨ (s.slot n).state = .active) ∧
         ∃ j < imgSyllables (s.slot n).image, code.toNat ∈ (syllableAt (s.slot n).image j).run)))

/-- GLYPH_LOAD, GLYPH_DROP and GLYPH_CLEAR: the refusals in their order; else the code holds the glyph of that width
with its packed coverage, and every other code what it held; or the code's glyph goes; or the store is empty. A code that
a STAGED or ACTIVE slot references is not dropped, nor the store cleared while a slot is STAGED or ACTIVE. -/
def Obligations.GlyphMessages : Prop :=
  (∀ (s : State) (tag width : Byte) (code : Half) (coverage : List Byte), LinkFree s →
     coverage.length = 12 * width.toNat → width.toNat ≤ 91 →
     let m : Message := ⟨0x54, tag, le16 code ++ [width] ++ coverage⟩
     let c := code.toNat
     let others := glyphBytes (s.cmp.glyphs.filter fun e => e.1 != c)
     let bad := c < 1 ∨ 4095 < c ∨ width.toNat < 4 ∨ 64 < width.toNat
     (bad → exec (.glyphLoad tag code width coverage) s = .next (s.answered m .badValue [])) ∧
     (¬ bad → 1048576 < others + 12 * width.toNat →
       exec (.glyphLoad tag code width coverage) s = .next (s.answered m .full [])) ∧
     (¬ bad → others + 12 * width.toNat ≤ 1048576 → ∃ g : GlyphStore, ∃ x : Glyph,
       x.width = width.toNat ∧ x.coverage.length = 48 * width.toNat ∧
       (∀ k < 12 * width.toNat, ∀ j < 4,
         x.coverage.getD (4 * k + j) 0 = ((coverage.getD k 0) >>> (2 * j)).setWidth 2) ∧
       glyphOf g c = some x ∧ (∀ d, d ≠ c → glyphOf g d = glyphOf s.cmp.glyphs d) ∧
       glyphBytes g = others + 12 * width.toNat ∧
       exec (.glyphLoad tag code width coverage) s = .next (State.answered { s with cmp := { s.cmp with glyphs := g } } m .ok
         ([if (glyphOf s.cmp.glyphs c).isSome then 1 else 0] ++ le16 (BitVec.ofNat 16 g.length) ++
           le32 (BitVec.ofNat 32 (glyphBytes g)))))) ∧
  (∀ (s : State) (tag : Byte) (code : Half), LinkFree s →
     let m : Message := ⟨0x55, tag, le16 code⟩
     let c := code.toNat
     let left := s.cmp.glyphs.filter fun e => e.1 != c
     let used := ∃ n : SlotName, ((s.slot n).state = .staged ∨ (s.slot n).state = .active) ∧
       ∃ j < imgSyllables (s.slot n).image, c ∈ (syllableAt (s.slot n).image j).run
     (c < 1 ∨ 4095 < c → exec (.glyphDrop tag code) s = .next (s.answered m .badValue [])) ∧
     (1 ≤ c → c ≤ 4095 → glyphOf s.cmp.glyphs c = none →
       exec (.glyphDrop tag code) s = .next (s.answered m .notFound [])) ∧
     (1 ≤ c → c ≤ 4095 → glyphOf s.cmp.glyphs c ≠ none → used →
       exec (.glyphDrop tag code) s = .next (s.answered m .badState [])) ∧
     (1 ≤ c → c ≤ 4095 → glyphOf s.cmp.glyphs c ≠ none → ¬ used →
       glyphOf left c = none ∧ (∀ d, d ≠ c → glyphOf left d = glyphOf s.cmp.glyphs d) ∧
       exec (.glyphDrop tag code) s = .next (State.answered { s with cmp := { s.cmp with glyphs := left } } m .ok
         (le16 (BitVec.ofNat 16 left.length) ++ le32 (BitVec.ofNat 32 (glyphBytes left)))))) ∧
  (∀ (s : State) (tag : Byte), LinkFree s →
     let inUse := ∃ n : SlotName, (s.slot n).state = .staged ∨ (s.slot n).state = .active
     (inUse → exec (.glyphClear tag) s = .next (s.answered ⟨0x56, tag, []⟩ .badState [])) ∧
     (¬ inUse → exec (.glyphClear tag) s =
       .next (State.answered { s with cmp := { s.cmp with glyphs := [] } } ⟨0x56, tag, []⟩ .ok [])))

/-! ## Compositor (Chapter 8) -/

/-- VIDEO_FRAME_START, and VIDEO_LOSS and VIDEO_RESTORE where it brings them: the row slots take their frame steps in mode
LYRICS; the video state follows the frames received; VIDEO_LOST is raised at a loss and its condition given; and the
frame's content is fixed, the banner with it. INPUT_FRAME_COMPLETION: a valid frame is held, an invalid one discarded. -/
def Obligations.FrameStartFixesContent : Prop :=
  (∀ s : State, s.resetLow = false → ∃ t f, exec .videoFrameStart s = .next t ∧ t.cmp.frame = some f ∧
     t.rq = s.rq ∧ t.pbc = s.pbc ∧ t.slotA = s.slotA ∧ t.slotB = s.slotB ∧ t.tr = s.tr ∧ t.mfe = s.mfe ∧ t.su = s.su ∧
     t.blocks = s.blocks ∧ s.sameLink t ∧
     (s.llu.mode ≠ .lyrics → t.llu = s.llu) ∧
     (s.llu.mode = .lyrics → t.llu = { s.llu with
       rows := s.llu.rows.mapIdx fun k r => settleRow s.lineView k.val 1536 r }) ∧
     t.cmp.bands = s.cmp.bands ∧ t.cmp.placement = s.cmp.placement ∧ t.cmp.palette = s.cmp.palette ∧
     t.cmp.glyphs = s.cmp.glyphs ∧ t.cmp.bannerWindow = s.cmp.bannerWindow ∧ t.cmp.digitBase = s.cmp.digitBase ∧
     t.cmp.heldFrame = s.cmp.heldFrame ∧ t.cmp.freshInput = false ∧
     (s.cmp.video = .locked → s.cmp.freshInput = true → t.cmp.video = .locked ∧ t.cmp.staleCount = 0) ∧
     (s.cmp.video = .locked → s.cmp.freshInput = false → s.cmp.staleCount < 2 →
       t.cmp.video = .locked ∧ t.cmp.staleCount = s.cmp.staleCount + 1) ∧
     (s.cmp.video = .locked → s.cmp.freshInput = false → 2 ≤ s.cmp.staleCount →
       t.cmp.video = .unlocked ∧ t.cmp.staleCount = 3 ∧ t.cmp.freshRun = 0 ∧ exec .videoLoss s = .next t ∧
       t.att.latched = (s.att.raise .videoLost).latched) ∧
     (s.cmp.video = .unlocked → s.cmp.freshInput = true → s.cmp.freshRun = 0 →
       t.cmp.video = .unlocked ∧ t.cmp.freshRun = 1) ∧
     (s.cmp.video = .unlocked → s.cmp.freshInput = true → 1 ≤ s.cmp.freshRun →
       t.cmp.video = .locked ∧ t.cmp.freshRun = 2 ∧ t.cmp.staleCount = 0 ∧ exec .videoRestore s = .next t) ∧
     (s.cmp.video = .unlocked → s.cmp.freshInput = false → t.cmp.video = .unlocked ∧ t.cmp.freshRun = 0) ∧
     (s.cmp.video = .unlocked ∨ s.cmp.freshInput = true ∨ s.cmp.staleCount < 2 → t.att.latched = s.att.latched) ∧
     (t.att.videoLostHolds = true ↔ t.cmp.video = .unlocked) ∧
     f.bands = s.cmp.bands ∧ f.placement = s.cmp.placement ∧ f.palette = s.cmp.palette ∧
     f.digitBase = s.cmp.digitBase ∧ f.glyphs = s.cmp.glyphs ∧
     (t.cmp.video = .locked → f.video = s.cmp.heldFrame) ∧ (t.cmp.video = .unlocked → f.video = none) ∧
     (∀ k : Fin 4, f.rows.get k = (match s.llu.mode with
       | .none => .empty
       | .results => .result (match (s.su.lanes.get k).state, (s.su.lanes.get k).part with
         | .closed, some part => some ⟨part, if (s.su.lanes.get k).sumW = 0 then none
           else some (100 * (s.su.lanes.get k).sumAw / (s.su.lanes.get k).sumW)⟩
         | _, _ => none)
       | .lyrics => match (t.llu.rows.get k).shown with
         | none => .empty
         | some l => .line l.glyphs (wipedSyllables s.songImage s.tr.t l))) ∧
     t.cmp.bannerShown = f.banner.isSome ∧
     (∀ title, f.banner = some title ↔ title ≠ [] ∧
       (∃ e c, (waiting s.rq.entries).head? = some e ∧ e.catalogue = some c ∧ c.title = title) ∧
       (s.tr.state = .idle ∨ s.tr.state = .result ∨
         (s.tr.state = .play ∧ 256 * (s.tr.duration - s.cmp.bannerWindow) ≤ s.tr.t)))) ∧
  (∀ (s : State) (frame : InputFrame), s.resetLow = false →
     (frame.length = 1080 → (∀ l ∈ frame, l.length = 1920) → exec (.inputFrameCompletion frame) s =
       .next (chooseNext { s with cmp := { s.cmp with heldFrame := some frame, freshInput := true } })) ∧
     (frame.length ≠ 1080 ∨ (∃ l ∈ frame, l.length ≠ 1920) →
       exec (.inputFrameCompletion frame) s = .next (chooseNext s)))

/-- The pixels of a frame. A blended component is (c·a + v·(255 − a))/255 to the nearest whole number, exactly c at
coverage 3 and exactly v at 0. A pixel under no drawn glyph keeps the value beneath; under one, it takes the palette
colour of its entry left of the wipe column and entry 0 from it on, blended by the stored glyph's coverage there. A LINE
record draws its drawn glyphs with their syllables' wipe columns and sung colours, a syllable's colour being its one part
or 5; a RESULT record draws the swatch and the score from the digit base, and a banner its title, each centred with
absent codes left out and glyphs past column 1,859 not drawn. PASS and BLANK bands show the video and black with nothing
over them; LYRIC and DIM bands the video, or the video halved, and over it, in slot order, the rows whose 48 lines stand
there; a BANNER band the video with the banner over its lines 43 to 90. -/
def Obligations.PixelsAreBlended : Prop :=
  (∀ (c v : Byte) (cover : BitVec 2),
     let a : Int := 85 * cover.toNat
     let exact : Int := c.toNat * a + v.toNat * (255 - a)
     255 * ((blend c v cover).toNat : Int) - exact ≤ 127 ∧ exact - 255 * ((blend c v cover).toNat : Int) ≤ 127) ∧
  (∀ c v : Byte, blend c v 3 = c ∧ blend c v 0 = v) ∧
  (∀ (f : FrameContent) (col line : Nat), line < 1080 →
     (∀ k : Fin 4, (f.placement.get k).band ≤ 7 ∧ (f.placement.get k).offset ≤ 87) →
     let video : RGB := match f.video with
       | none => ⟨0, 0, 0⟩
       | some v => (v.getD line []).getD col ⟨0, 0, 0⟩
     ∀ b : Fin 8, 135 * b.val ≤ line → line < 135 * b.val + 135 →
       (f.bands.get b = .pass → framePixel f col line = video) ∧
       (f.bands.get b = .blank → framePixel f col line = ⟨0, 0, 0⟩) ∧
       (f.bands.get b = .banner → line < 135 * b.val + 43 ∨ 135 * b.val + 91 ≤ line → framePixel f col line = video) ∧
       (f.bands.get b = .dim →
         (∀ k : Fin 4, (f.placement.get k).band = b.val → line < 135 * b.val + (f.placement.get k).offset ∨
           135 * b.val + (f.placement.get k).offset + 48 ≤ line) →
         framePixel f col line = ⟨video.red >>> 1, video.green >>> 1, video.blue >>> 1⟩) ∧
       (f.bands.get b = .lyric ∨ f.bands.get b = .dim →
         let under : RGB := if f.bands.get b = .lyric then video
           else ⟨video.red >>> 1, video.green >>> 1, video.blue >>> 1⟩
         let standing := ([0, 1, 2, 3] : List (Fin 4)).filter fun k => decide ((f.placement.get k).band = b.val ∧
           135 * b.val + (f.placement.get k).offset ≤ line ∧ line < 135 * b.val + (f.placement.get k).offset + 48)
         framePixel f col line = standing.foldl (fun pixel k =>
           (rowInk f (f.rows.get k)).foldl (inkOver f (line - 135 * b.val - (f.placement.get k).offset) col) pixel) under) ∧
       (f.bands.get b = .banner → 135 * b.val + 43 ≤ line → line < 135 * b.val + 91 →
         (f.banner = none → framePixel f col line = video) ∧
         (∀ title, f.banner = some title → framePixel f col line =
           (centredRun f.glyphs (title.map fun c => (c, 6))).foldl (inkOver f (line - 135 * b.val - 43) col) video))) ∧
  (∀ (f : FrameContent) (row col : Nat) (under : RGB) (inks : List Ink),
     let covers (k : Ink) := k.left ≤ col ∧ col < k.left + k.width
     let pixel := inks.foldl (inkOver f row col) under
     ((∀ k ∈ inks, ¬ covers k) → pixel = under) ∧
     (∀ before k after, inks = before ++ k :: after → covers k → (∀ j ∈ before ++ after, ¬ covers j) →
       (∀ g, glyphOf f.glyphs k.code = some g → col - k.left < g.width →
         ∀ i : Fin 8, i.val = (if col < k.wipe then k.entry else 0) →
           let a := g.coverage.getD (row * g.width + (col - k.left)) 0
           let c := f.palette.get i
           pixel = ⟨blend c.red under.red a, blend c.green under.green a, blend c.blue under.blue a⟩) ∧
       ((∀ g, glyphOf f.glyphs k.code = some g → g.width ≤ col - k.left) → pixel = under))) ∧
  (∀ (f : FrameContent) (glyphs : List PlacedGlyph) (syllables : List WipedSyllable),
     (∀ p ∈ glyphs, p.syllable < syllables.length) →
     ∀ k : Ink, k ∈ rowInk f (.line glyphs syllables) ↔ ∃ p ∈ glyphs, ∃ y, p.drawn = true ∧
       syllables[p.syllable]? = some y ∧ k = ⟨p.code, p.left, p.width, y.wipe, y.colour⟩) ∧
  (∀ (m : ImageMemory) (t : Nat) (l : ShownLine) (n j : Nat) (p : PlacedSyllable),
     (lineSyllables m l.index)[n]? = some j → l.syllables[n]? = some p →
     (wipedSyllables m t l)[n]? =
       some ⟨p.left, p.width, wipeColumn t (syllableAt m j) p, sungColour (syllableAt m j).mask⟩) ∧
  (∀ mask < 16, (∀ q : Fin 4, mask = 2 ^ q.val → sungColour mask = q.val + 1) ∧
     (∀ i j : Nat, i < j → mask.testBit i = true → mask.testBit j = true → sungColour mask = 5)) ∧
  (∀ (f : FrameContent) (part score : Nat),
     rowInk f .empty = [] ∧ rowInk f (.result none) = [] ∧ rowInk f (.result (some ⟨part, none⟩)) = [] ∧
     (f.digitBase = 0 → rowInk f (.result (some ⟨part, some score⟩)) = []) ∧
     (f.digitBase ≠ 0 →
       let digits (ds : List Nat) := rowInk f (.result (some ⟨part, some score⟩)) =
         centredRun f.glyphs ((f.digitBase + 11, part) :: ds.map fun d => (f.digitBase + d, 7))
       (score < 10000 → digits [score / 1000, score / 100 % 10, 10, score / 10 % 10, score % 10]) ∧
       (score = 10000 → digits [1, 0, 0, 10, 0, 0]))) ∧
  (∀ (g : GlyphStore) (run : List (Nat × Nat)),
     let kept := run.filter fun x => (glyphOf g x.1).isSome
     let widths := kept.map fun x => glyphWidth g x.1
     let left (n : Nat) := (if widths.sum ≤ 1800 then 60 + (1800 - widths.sum) / 2 else 60) + (widths.take n).sum
     ∀ k : Ink, k ∈ centredRun g run ↔ ∃ n c e, kept[n]? = some (c, e) ∧ left n + glyphWidth g c ≤ 1860 ∧
       k = ⟨c, left n, glyphWidth g c, left n + glyphWidth g c, e⟩)

/-! ## What every step keeps -/

/-- The Control Link's queue, formed reply, transmitter and gap timer, and the pending notice, stay in step at every
step. -/
def Obligations.LinkStaysLawful : Prop :=
  ∀ s t : State, s.linkLawful ∧ s.att.lawful → step s = .next t → t.linkLawful ∧ t.att.lawful

/-- The settings, the Transport's fields and the glyph store's bytes stay within their ranges at every step, from a state
in which queue, slots and Transport match: the clock and duration, the slew, the sync timer, the settle, hold, cue stall
and jump counts, the result countdown and the epoch. -/
def Obligations.RangesAreKept : Prop :=
  ∀ s t : State, s.settingsInRange ∧ s.tr.lawful ∧ s.cmp.storeFits → s.matched → step s = .next t →
    t.settingsInRange ∧ t.tr.lawful ∧ t.cmp.storeFits

/-- The state after power-on reset keeps every condition that the steps keep. -/
def Obligations.ResetIsLawful : Prop :=
  State.reset.imagesCanonical ∧ State.reset.rq.bounded ∧ State.reset.matched ∧ State.reset.pbc.lawful ∧ State.reset.su.lawful ∧
    State.reset.settingsInRange ∧ State.reset.tr.lawful ∧ State.reset.cmp.storeFits ∧ State.reset.linkLawful ∧
    State.reset.att.lawful
end

