-- ==== Sys2Proof/Laws/Message.lean ====
section
/-! SUPPORT. The bytes of a multi-byte field read back, and each kind's payload read back as its request
(R212, R213). -/

namespace Sys2Proof.Machine

/-! ## Fields -/

/-- The two bytes of a field put together again. -/
theorem join16 (h : Half) : (((h >>> 8).setWidth 8 : Byte) ++ (h.setWidth 8 : Byte) : Half) = h := by
  refine BitVec.eq_of_getLsbD_eq fun i hi => ?_
  rw [BitVec.getLsbD_append]
  split
  · simp_all
  · simp [show 8 + (i - 8) = i by omega, show i - 8 < 8 by omega]

/-- The four bytes of a field put together again. -/
theorem join32 (w : Word) :
    (((w >>> 24).setWidth 8 : Byte) ++ ((w >>> 16).setWidth 8 : Byte) ++ ((w >>> 8).setWidth 8 : Byte) ++
      (w.setWidth 8 : Byte) : Word) = w := by
  refine BitVec.eq_of_getLsbD_eq fun i hi => ?_
  simp only [BitVec.getLsbD_append, BitVec.getLsbD_setWidth, BitVec.getLsbD_ushiftRight]
  split
  · simp_all
  · split
    · simp_all [show 8 + (i - 8) = i by omega]
    · split
      · simp_all [show 16 + (i - 8 - 8) = i by omega]
      · simp [show 24 + (i - 8 - 8 - 8) = i by omega, show i - 8 - 8 - 8 < 8 by omega]

theorem le16_length (h : Half) : (le16 h).length = 2 := rfl
theorem le32_length (w : Word) : (le32 w).length = 4 := rfl

theorem u8_append_right (p q : List Byte) (i : Nat) (h : p.length ≤ i) : u8 (p ++ q) i = u8 q (i - p.length) := by
  simp [u8, List.getD_eq_getElem?_getD, List.getElem?_append_right h]

theorem u8_append_left (p q : List Byte) (i : Nat) (h : i < p.length) : u8 (p ++ q) i = u8 p i := by
  simp [u8, List.getD_eq_getElem?_getD, List.getElem?_append_left h]

theorem u16_append_right (p q : List Byte) (i : Nat) (h : p.length ≤ i) : u16 (p ++ q) i = u16 q (i - p.length) := by
  simp only [u16, u8_append_right p q i h, u8_append_right p q (i + 1) (by omega)]
  rw [show i + 1 - p.length = i - p.length + 1 by omega]

theorem u16_append_left (p q : List Byte) (i : Nat) (h : i + 1 < p.length) : u16 (p ++ q) i = u16 p i := by
  simp only [u16, u8_append_left p q i (by omega), u8_append_left p q (i + 1) h]

theorem u32_append_right (p q : List Byte) (i : Nat) (h : p.length ≤ i) : u32 (p ++ q) i = u32 q (i - p.length) := by
  simp only [u32, u8_append_right p q i h, u8_append_right p q (i + 1) (by omega),
    u8_append_right p q (i + 2) (by omega), u8_append_right p q (i + 3) (by omega)]
  rw [show i + 1 - p.length = i - p.length + 1 by omega, show i + 2 - p.length = i - p.length + 2 by omega,
    show i + 3 - p.length = i - p.length + 3 by omega]

theorem u32_append_left (p q : List Byte) (i : Nat) (h : i + 3 < p.length) : u32 (p ++ q) i = u32 p i := by
  simp only [u32, u8_append_left p q i (by omega), u8_append_left p q (i + 1) (by omega),
    u8_append_left p q (i + 2) (by omega), u8_append_left p q (i + 3) h]

/-- A two-byte field read back. -/
@[simp] theorem u16_le16 (h : Half) : u16 (le16 h) 0 = h := join16 h

/-- A four-byte field read back. -/
@[simp] theorem u32_le32 (w : Word) : u32 (le32 w) 0 = w := join32 w

@[simp] theorem u16_le16_append (h : Half) (q : List Byte) : u16 (le16 h ++ q) 0 = h := join16 h
@[simp] theorem u32_le32_append (w : Word) (q : List Byte) : u32 (le32 w ++ q) 0 = w := join32 w
@[simp] theorem u8_cons_zero (b : Byte) (q : List Byte) : u8 (b :: q) 0 = b := rfl
@[simp] theorem u8_cons_succ (b : Byte) (q : List Byte) (i : Nat) : u8 (b :: q) (i + 1) = u8 q i := rfl
@[simp] theorem u16_cons_succ (b : Byte) (q : List Byte) (i : Nat) : u16 (b :: q) (i + 1) = u16 q i := rfl
@[simp] theorem u32_cons_succ (b : Byte) (q : List Byte) (i : Nat) : u32 (b :: q) (i + 1) = u32 q i := rfl

/-- A run of two-byte fields read back. -/
theorem halves_flatMap (t : List Half) (p : List Byte) :
    halves (p ++ t.flatMap le16) p.length t.length = t := by
  induction t generalizing p with
  | nil => rfl
  | cons h t ih =>
    simp only [List.flatMap_cons, List.length_cons, halves]
    rw [u16_append_right p _ _ (le_refl _), Nat.sub_self, u16_le16_append, ← List.append_assoc]
    have := ih (p ++ le16 h)
    simp only [List.length_append, le16_length] at this
    rw [this]

/-! ## Requests -/

/-- Reading what a request's kind and payload carry gives the request (R192, R212). -/
theorem readMessage_payload (r : Request) (h : r.keepsLength = true) : readMessage r.kind r.payload = .request r := by
  cases r with
  | resolve i v p t =>
    simp only [Request.keepsLength, decide_eq_true_eq] at h
    have hm : (t.length % 256) = t.length := Nat.mod_eq_of_lt (by omega)
    have hl : (List.flatMap le16 t).length = 2 * t.length := by
      induction t with
      | nil => rfl
      | cons a t ih => simp_all [List.flatMap_cons, le16_length]; omega
    have hh := halves_flatMap t [i, v, p, BitVec.ofNat 8 t.length]
    simp only [List.length_cons, List.length_nil] at hh
    simp [readMessage, Request.kind, Request.payload, ifLength, u8, hm, hl, -List.length_flatMap] at hh ⊢
    simp [hh]
    omega
  | slotData n o d =>
    simp only [Request.keepsLength, Bool.and_eq_true, decide_eq_true_eq] at h
    have hm : d.length % 65536 = d.length := Nat.mod_eq_of_lt (by omega)
    have e : Request.payload (.slotData n o d) =
        n :: (le32 o ++ (le16 (BitVec.ofNat 16 d.length) ++ d)) := by simp [Request.payload]
    have h0 : u8 (Request.payload (.slotData n o d)) 0 = n := by rw [e]; rfl
    have h1 : u32 (Request.payload (.slotData n o d)) 1 = o := by rw [e, u32_cons_succ, u32_le32_append]
    have h5 : (u16 (Request.payload (.slotData n o d)) 5).toNat = d.length := by
      rw [e, u16_cons_succ, u16_append_right _ _ _ (by rw [le32_length]), le32_length, u16_le16_append]
      simp [hm]
    have hd : (Request.payload (.slotData n o d)).drop 7 = d := by rw [e]; rfl
    have hl : (Request.payload (.slotData n o d)).length = 7 + d.length := by
      rw [e]; simp [le32_length, le16_length]; omega
    simp only [readMessage, Request.kind]
    simp [ifLength, h0, h1, h5, hd, hl]
    omega
  | glyphLoad c w v =>
    simp only [Request.keepsLength, beq_iff_eq] at h
    have e : Request.payload (.glyphLoad c w v) = le16 c ++ (w :: v) := by simp [Request.payload]
    have h0 : u16 (Request.payload (.glyphLoad c w v)) 0 = c := by rw [e, u16_le16_append]
    have h2 : u8 (Request.payload (.glyphLoad c w v)) 2 = w := by
      rw [e, u8_append_right _ _ _ (by rw [le16_length]), le16_length]; rfl
    have hd : (Request.payload (.glyphLoad c w v)).drop 3 = v := by rw [e]; rfl
    have hl : (Request.payload (.glyphLoad c w v)).length = 3 + 12 * w.toNat := by
      rw [e]; simp [le16_length, h]; omega
    simp only [readMessage, Request.kind]
    simp [ifLength, h0, h2, hd, hl]
  | echo b =>
    simp only [Request.keepsLength, decide_eq_true_eq] at h
    simp [readMessage, Request.kind, Request.payload, ifLength, h]
  | queueAdd n l p =>
    have h4 : u8 (le32 n ++ [l, p]) 4 = l := rfl
    have h5 : u8 (le32 n ++ [l, p]) 5 = p := rfl
    simp [readMessage, Request.kind, Request.payload, ifLength, le32_length, h4, h5]
  | slotOpen n i z =>
    have e : Request.payload (.slotOpen n i z) = n :: i :: le32 z := rfl
    simp [readMessage, Request.kind, e, ifLength, le32_length]
  | transportSet a y e h' r =>
    have e1 : Request.payload (.transportSet a y e h' r) = a :: (le16 y ++ (le16 e ++ (le16 h' ++ le16 r))) := by
      simp [Request.payload]
    have h3 : u16 (Request.payload (.transportSet a y e h' r)) 3 = e := by
      rw [e1, u16_cons_succ, u16_append_right _ _ _ (by rw [le16_length]), le16_length, u16_le16_append]
    have h5 : u16 (Request.payload (.transportSet a y e h' r)) 5 = h' := by
      rw [e1, u16_cons_succ, u16_append_right _ _ _ (by rw [le16_length]; omega), le16_length,
        u16_append_right _ _ _ (by rw [le16_length]), le16_length, u16_le16_append]
    have h7 : u16 (Request.payload (.transportSet a y e h' r)) 7 = r := by
      rw [e1, u16_cons_succ, u16_append_right _ _ _ (by rw [le16_length]; omega), le16_length,
        u16_append_right _ _ _ (by rw [le16_length]; omega), le16_length,
        u16_append_right _ _ _ (by rw [le16_length]), le16_length, u16_le16]
    simp only [readMessage, Request.kind]
    simp [ifLength, h3, h5, h7]
    simp [e1, le16_length]
  | micSet m q v c =>
    have e : Request.payload (.micSet m q v c) = m :: q :: (le16 v ++ le16 c) := by simp [Request.payload]
    have h4 : u16 (Request.payload (.micSet m q v c)) 4 = c := by
      rw [e, u16_cons_succ, u16_cons_succ, u16_append_right _ _ _ (by rw [le16_length]), le16_length, u16_le16]
    simp only [readMessage, Request.kind]
    simp [ifLength, h4]
    simp [e, le16_length]
  | scoreSet l f x =>
    have e : Request.payload (.scoreSet l f x) = l :: f :: le16 x := by simp [Request.payload]
    simp [readMessage, Request.kind, e, ifLength, le16_length]
  | layoutSet a b =>
    have h2 : u16 (le16 a ++ le16 b) 2 = b := by
      rw [u16_append_right _ _ _ (by rw [le16_length]), le16_length, u16_le16]
    simp [readMessage, Request.kind, Request.payload, ifLength, le16_length, h2]
  | bannerSet a b =>
    have h2 : u16 (le16 a ++ le16 b) 2 = b := by
      rw [u16_append_right _ _ _ (by rw [le16_length]), le16_length, u16_le16]
    simp [readMessage, Request.kind, Request.payload, ifLength, le16_length, h2]
  | bandMap c => rfl
  | _ => simp [readMessage, Request.kind, Request.payload, ifLength, le16_length, le32_length]

end Sys2Proof.Machine
end

