-- ==== Sys2Proof/Laws/State.lean ====
section
/-! SUPPORT. What each update of the state leaves in each field, so that no later proof unfolds an update. -/

namespace Sys2Proof.Machine

@[simp] theorem State.setRq_pending (s : State) (x : RequestQueue) : (s.setRq x).pending = s.pending := rfl
@[simp] theorem State.setRq_resetLow (s : State) (x : RequestQueue) : (s.setRq x).resetLow = s.resetLow := rfl
@[simp] theorem State.setRq_blocks (s : State) (x : RequestQueue) : (s.setRq x).blocks = s.blocks := rfl
@[simp] theorem State.setRq_draws (s : State) (x : RequestQueue) : (s.setRq x).draws = s.draws := rfl
@[simp] theorem State.setRq_rq (s : State) (x : RequestQueue) : (s.setRq x).rq = x := rfl
@[simp] theorem State.setRq_pbc (s : State) (x : RequestQueue) : (s.setRq x).pbc = s.pbc := rfl
@[simp] theorem State.setRq_slotA (s : State) (x : RequestQueue) : (s.setRq x).slotA = s.slotA := rfl
@[simp] theorem State.setRq_slotB (s : State) (x : RequestQueue) : (s.setRq x).slotB = s.slotB := rfl
@[simp] theorem State.setRq_tr (s : State) (x : RequestQueue) : (s.setRq x).tr = s.tr := rfl
@[simp] theorem State.setRq_mfe (s : State) (x : RequestQueue) : (s.setRq x).mfe = s.mfe := rfl
@[simp] theorem State.setRq_su (s : State) (x : RequestQueue) : (s.setRq x).su = s.su := rfl
@[simp] theorem State.setRq_llu (s : State) (x : RequestQueue) : (s.setRq x).llu = s.llu := rfl
@[simp] theorem State.setRq_cmp (s : State) (x : RequestQueue) : (s.setRq x).cmp = s.cmp := rfl
@[simp] theorem State.setRq_att (s : State) (x : RequestQueue) : (s.setRq x).att = s.att := rfl
@[simp] theorem State.setRq_link (s : State) (x : RequestQueue) : (s.setRq x).link = s.link := rfl

@[simp] theorem State.setPbc_pending (s : State) (x : PadBus) : (s.setPbc x).pending = s.pending := rfl
@[simp] theorem State.setPbc_resetLow (s : State) (x : PadBus) : (s.setPbc x).resetLow = s.resetLow := rfl
@[simp] theorem State.setPbc_blocks (s : State) (x : PadBus) : (s.setPbc x).blocks = s.blocks := rfl
@[simp] theorem State.setPbc_draws (s : State) (x : PadBus) : (s.setPbc x).draws = s.draws := rfl
@[simp] theorem State.setPbc_rq (s : State) (x : PadBus) : (s.setPbc x).rq = s.rq := rfl
@[simp] theorem State.setPbc_pbc (s : State) (x : PadBus) : (s.setPbc x).pbc = x := rfl
@[simp] theorem State.setPbc_slotA (s : State) (x : PadBus) : (s.setPbc x).slotA = s.slotA := rfl
@[simp] theorem State.setPbc_slotB (s : State) (x : PadBus) : (s.setPbc x).slotB = s.slotB := rfl
@[simp] theorem State.setPbc_tr (s : State) (x : PadBus) : (s.setPbc x).tr = s.tr := rfl
@[simp] theorem State.setPbc_mfe (s : State) (x : PadBus) : (s.setPbc x).mfe = s.mfe := rfl
@[simp] theorem State.setPbc_su (s : State) (x : PadBus) : (s.setPbc x).su = s.su := rfl
@[simp] theorem State.setPbc_llu (s : State) (x : PadBus) : (s.setPbc x).llu = s.llu := rfl
@[simp] theorem State.setPbc_cmp (s : State) (x : PadBus) : (s.setPbc x).cmp = s.cmp := rfl
@[simp] theorem State.setPbc_att (s : State) (x : PadBus) : (s.setPbc x).att = s.att := rfl
@[simp] theorem State.setPbc_link (s : State) (x : PadBus) : (s.setPbc x).link = s.link := rfl

@[simp] theorem State.setTr_pending (s : State) (x : Transport) : (s.setTr x).pending = s.pending := rfl
@[simp] theorem State.setTr_resetLow (s : State) (x : Transport) : (s.setTr x).resetLow = s.resetLow := rfl
@[simp] theorem State.setTr_blocks (s : State) (x : Transport) : (s.setTr x).blocks = s.blocks := rfl
@[simp] theorem State.setTr_draws (s : State) (x : Transport) : (s.setTr x).draws = s.draws := rfl
@[simp] theorem State.setTr_rq (s : State) (x : Transport) : (s.setTr x).rq = s.rq := rfl
@[simp] theorem State.setTr_pbc (s : State) (x : Transport) : (s.setTr x).pbc = s.pbc := rfl
@[simp] theorem State.setTr_slotA (s : State) (x : Transport) : (s.setTr x).slotA = s.slotA := rfl
@[simp] theorem State.setTr_slotB (s : State) (x : Transport) : (s.setTr x).slotB = s.slotB := rfl
@[simp] theorem State.setTr_tr (s : State) (x : Transport) : (s.setTr x).tr = x := rfl
@[simp] theorem State.setTr_mfe (s : State) (x : Transport) : (s.setTr x).mfe = s.mfe := rfl
@[simp] theorem State.setTr_su (s : State) (x : Transport) : (s.setTr x).su = s.su := rfl
@[simp] theorem State.setTr_llu (s : State) (x : Transport) : (s.setTr x).llu = s.llu := rfl
@[simp] theorem State.setTr_cmp (s : State) (x : Transport) : (s.setTr x).cmp = s.cmp := rfl
@[simp] theorem State.setTr_att (s : State) (x : Transport) : (s.setTr x).att = s.att := rfl
@[simp] theorem State.setTr_link (s : State) (x : Transport) : (s.setTr x).link = s.link := rfl

@[simp] theorem State.setMfe_pending (s : State) (x : MicFrontEnd) : (s.setMfe x).pending = s.pending := rfl
@[simp] theorem State.setMfe_resetLow (s : State) (x : MicFrontEnd) : (s.setMfe x).resetLow = s.resetLow := rfl
@[simp] theorem State.setMfe_blocks (s : State) (x : MicFrontEnd) : (s.setMfe x).blocks = s.blocks := rfl
@[simp] theorem State.setMfe_draws (s : State) (x : MicFrontEnd) : (s.setMfe x).draws = s.draws := rfl
@[simp] theorem State.setMfe_rq (s : State) (x : MicFrontEnd) : (s.setMfe x).rq = s.rq := rfl
@[simp] theorem State.setMfe_pbc (s : State) (x : MicFrontEnd) : (s.setMfe x).pbc = s.pbc := rfl
@[simp] theorem State.setMfe_slotA (s : State) (x : MicFrontEnd) : (s.setMfe x).slotA = s.slotA := rfl
@[simp] theorem State.setMfe_slotB (s : State) (x : MicFrontEnd) : (s.setMfe x).slotB = s.slotB := rfl
@[simp] theorem State.setMfe_tr (s : State) (x : MicFrontEnd) : (s.setMfe x).tr = s.tr := rfl
@[simp] theorem State.setMfe_mfe (s : State) (x : MicFrontEnd) : (s.setMfe x).mfe = x := rfl
@[simp] theorem State.setMfe_su (s : State) (x : MicFrontEnd) : (s.setMfe x).su = s.su := rfl
@[simp] theorem State.setMfe_llu (s : State) (x : MicFrontEnd) : (s.setMfe x).llu = s.llu := rfl
@[simp] theorem State.setMfe_cmp (s : State) (x : MicFrontEnd) : (s.setMfe x).cmp = s.cmp := rfl
@[simp] theorem State.setMfe_att (s : State) (x : MicFrontEnd) : (s.setMfe x).att = s.att := rfl
@[simp] theorem State.setMfe_link (s : State) (x : MicFrontEnd) : (s.setMfe x).link = s.link := rfl

@[simp] theorem State.setSu_pending (s : State) (x : ScoringUnit) : (s.setSu x).pending = s.pending := rfl
@[simp] theorem State.setSu_resetLow (s : State) (x : ScoringUnit) : (s.setSu x).resetLow = s.resetLow := rfl
@[simp] theorem State.setSu_blocks (s : State) (x : ScoringUnit) : (s.setSu x).blocks = s.blocks := rfl
@[simp] theorem State.setSu_draws (s : State) (x : ScoringUnit) : (s.setSu x).draws = s.draws := rfl
@[simp] theorem State.setSu_rq (s : State) (x : ScoringUnit) : (s.setSu x).rq = s.rq := rfl
@[simp] theorem State.setSu_pbc (s : State) (x : ScoringUnit) : (s.setSu x).pbc = s.pbc := rfl
@[simp] theorem State.setSu_slotA (s : State) (x : ScoringUnit) : (s.setSu x).slotA = s.slotA := rfl
@[simp] theorem State.setSu_slotB (s : State) (x : ScoringUnit) : (s.setSu x).slotB = s.slotB := rfl
@[simp] theorem State.setSu_tr (s : State) (x : ScoringUnit) : (s.setSu x).tr = s.tr := rfl
@[simp] theorem State.setSu_mfe (s : State) (x : ScoringUnit) : (s.setSu x).mfe = s.mfe := rfl
@[simp] theorem State.setSu_su (s : State) (x : ScoringUnit) : (s.setSu x).su = x := rfl
@[simp] theorem State.setSu_llu (s : State) (x : ScoringUnit) : (s.setSu x).llu = s.llu := rfl
@[simp] theorem State.setSu_cmp (s : State) (x : ScoringUnit) : (s.setSu x).cmp = s.cmp := rfl
@[simp] theorem State.setSu_att (s : State) (x : ScoringUnit) : (s.setSu x).att = s.att := rfl
@[simp] theorem State.setSu_link (s : State) (x : ScoringUnit) : (s.setSu x).link = s.link := rfl

@[simp] theorem State.setLlu_pending (s : State) (x : LayoutUnit) : (s.setLlu x).pending = s.pending := rfl
@[simp] theorem State.setLlu_resetLow (s : State) (x : LayoutUnit) : (s.setLlu x).resetLow = s.resetLow := rfl
@[simp] theorem State.setLlu_blocks (s : State) (x : LayoutUnit) : (s.setLlu x).blocks = s.blocks := rfl
@[simp] theorem State.setLlu_draws (s : State) (x : LayoutUnit) : (s.setLlu x).draws = s.draws := rfl
@[simp] theorem State.setLlu_rq (s : State) (x : LayoutUnit) : (s.setLlu x).rq = s.rq := rfl
@[simp] theorem State.setLlu_pbc (s : State) (x : LayoutUnit) : (s.setLlu x).pbc = s.pbc := rfl
@[simp] theorem State.setLlu_slotA (s : State) (x : LayoutUnit) : (s.setLlu x).slotA = s.slotA := rfl
@[simp] theorem State.setLlu_slotB (s : State) (x : LayoutUnit) : (s.setLlu x).slotB = s.slotB := rfl
@[simp] theorem State.setLlu_tr (s : State) (x : LayoutUnit) : (s.setLlu x).tr = s.tr := rfl
@[simp] theorem State.setLlu_mfe (s : State) (x : LayoutUnit) : (s.setLlu x).mfe = s.mfe := rfl
@[simp] theorem State.setLlu_su (s : State) (x : LayoutUnit) : (s.setLlu x).su = s.su := rfl
@[simp] theorem State.setLlu_llu (s : State) (x : LayoutUnit) : (s.setLlu x).llu = x := rfl
@[simp] theorem State.setLlu_cmp (s : State) (x : LayoutUnit) : (s.setLlu x).cmp = s.cmp := rfl
@[simp] theorem State.setLlu_att (s : State) (x : LayoutUnit) : (s.setLlu x).att = s.att := rfl
@[simp] theorem State.setLlu_link (s : State) (x : LayoutUnit) : (s.setLlu x).link = s.link := rfl

@[simp] theorem State.setCmp_pending (s : State) (x : Compositor) : (s.setCmp x).pending = s.pending := rfl
@[simp] theorem State.setCmp_resetLow (s : State) (x : Compositor) : (s.setCmp x).resetLow = s.resetLow := rfl
@[simp] theorem State.setCmp_blocks (s : State) (x : Compositor) : (s.setCmp x).blocks = s.blocks := rfl
@[simp] theorem State.setCmp_draws (s : State) (x : Compositor) : (s.setCmp x).draws = s.draws := rfl
@[simp] theorem State.setCmp_rq (s : State) (x : Compositor) : (s.setCmp x).rq = s.rq := rfl
@[simp] theorem State.setCmp_pbc (s : State) (x : Compositor) : (s.setCmp x).pbc = s.pbc := rfl
@[simp] theorem State.setCmp_slotA (s : State) (x : Compositor) : (s.setCmp x).slotA = s.slotA := rfl
@[simp] theorem State.setCmp_slotB (s : State) (x : Compositor) : (s.setCmp x).slotB = s.slotB := rfl
@[simp] theorem State.setCmp_tr (s : State) (x : Compositor) : (s.setCmp x).tr = s.tr := rfl
@[simp] theorem State.setCmp_mfe (s : State) (x : Compositor) : (s.setCmp x).mfe = s.mfe := rfl
@[simp] theorem State.setCmp_su (s : State) (x : Compositor) : (s.setCmp x).su = s.su := rfl
@[simp] theorem State.setCmp_llu (s : State) (x : Compositor) : (s.setCmp x).llu = s.llu := rfl
@[simp] theorem State.setCmp_cmp (s : State) (x : Compositor) : (s.setCmp x).cmp = x := rfl
@[simp] theorem State.setCmp_att (s : State) (x : Compositor) : (s.setCmp x).att = s.att := rfl
@[simp] theorem State.setCmp_link (s : State) (x : Compositor) : (s.setCmp x).link = s.link := rfl

@[simp] theorem State.setAtt_pending (s : State) (x : Attention) : (s.setAtt x).pending = s.pending := rfl
@[simp] theorem State.setAtt_resetLow (s : State) (x : Attention) : (s.setAtt x).resetLow = s.resetLow := rfl
@[simp] theorem State.setAtt_blocks (s : State) (x : Attention) : (s.setAtt x).blocks = s.blocks := rfl
@[simp] theorem State.setAtt_draws (s : State) (x : Attention) : (s.setAtt x).draws = s.draws := rfl
@[simp] theorem State.setAtt_rq (s : State) (x : Attention) : (s.setAtt x).rq = s.rq := rfl
@[simp] theorem State.setAtt_pbc (s : State) (x : Attention) : (s.setAtt x).pbc = s.pbc := rfl
@[simp] theorem State.setAtt_slotA (s : State) (x : Attention) : (s.setAtt x).slotA = s.slotA := rfl
@[simp] theorem State.setAtt_slotB (s : State) (x : Attention) : (s.setAtt x).slotB = s.slotB := rfl
@[simp] theorem State.setAtt_tr (s : State) (x : Attention) : (s.setAtt x).tr = s.tr := rfl
@[simp] theorem State.setAtt_mfe (s : State) (x : Attention) : (s.setAtt x).mfe = s.mfe := rfl
@[simp] theorem State.setAtt_su (s : State) (x : Attention) : (s.setAtt x).su = s.su := rfl
@[simp] theorem State.setAtt_llu (s : State) (x : Attention) : (s.setAtt x).llu = s.llu := rfl
@[simp] theorem State.setAtt_cmp (s : State) (x : Attention) : (s.setAtt x).cmp = s.cmp := rfl
@[simp] theorem State.setAtt_att (s : State) (x : Attention) : (s.setAtt x).att = x := rfl
@[simp] theorem State.setAtt_link (s : State) (x : Attention) : (s.setAtt x).link = s.link := rfl

@[simp] theorem State.setLink_pending (s : State) (x : ControlLink) : (s.setLink x).pending = s.pending := rfl
@[simp] theorem State.setLink_resetLow (s : State) (x : ControlLink) : (s.setLink x).resetLow = s.resetLow := rfl
@[simp] theorem State.setLink_blocks (s : State) (x : ControlLink) : (s.setLink x).blocks = s.blocks := rfl
@[simp] theorem State.setLink_draws (s : State) (x : ControlLink) : (s.setLink x).draws = s.draws := rfl
@[simp] theorem State.setLink_rq (s : State) (x : ControlLink) : (s.setLink x).rq = s.rq := rfl
@[simp] theorem State.setLink_pbc (s : State) (x : ControlLink) : (s.setLink x).pbc = s.pbc := rfl
@[simp] theorem State.setLink_slotA (s : State) (x : ControlLink) : (s.setLink x).slotA = s.slotA := rfl
@[simp] theorem State.setLink_slotB (s : State) (x : ControlLink) : (s.setLink x).slotB = s.slotB := rfl
@[simp] theorem State.setLink_tr (s : State) (x : ControlLink) : (s.setLink x).tr = s.tr := rfl
@[simp] theorem State.setLink_mfe (s : State) (x : ControlLink) : (s.setLink x).mfe = s.mfe := rfl
@[simp] theorem State.setLink_su (s : State) (x : ControlLink) : (s.setLink x).su = s.su := rfl
@[simp] theorem State.setLink_llu (s : State) (x : ControlLink) : (s.setLink x).llu = s.llu := rfl
@[simp] theorem State.setLink_cmp (s : State) (x : ControlLink) : (s.setLink x).cmp = s.cmp := rfl
@[simp] theorem State.setLink_att (s : State) (x : ControlLink) : (s.setLink x).att = s.att := rfl
@[simp] theorem State.setLink_link (s : State) (x : ControlLink) : (s.setLink x).link = x := rfl

@[simp] theorem State.setCounts_pending (s : State) (n d : Nat) : (s.setCounts n d).pending = s.pending := rfl
@[simp] theorem State.setCounts_resetLow (s : State) (n d : Nat) : (s.setCounts n d).resetLow = s.resetLow := rfl
@[simp] theorem State.setCounts_blocks (s : State) (n d : Nat) : (s.setCounts n d).blocks = n := rfl
@[simp] theorem State.setCounts_draws (s : State) (n d : Nat) : (s.setCounts n d).draws = d := rfl
@[simp] theorem State.setCounts_rq (s : State) (n d : Nat) : (s.setCounts n d).rq = s.rq := rfl
@[simp] theorem State.setCounts_pbc (s : State) (n d : Nat) : (s.setCounts n d).pbc = s.pbc := rfl
@[simp] theorem State.setCounts_slotA (s : State) (n d : Nat) : (s.setCounts n d).slotA = s.slotA := rfl
@[simp] theorem State.setCounts_slotB (s : State) (n d : Nat) : (s.setCounts n d).slotB = s.slotB := rfl
@[simp] theorem State.setCounts_tr (s : State) (n d : Nat) : (s.setCounts n d).tr = s.tr := rfl
@[simp] theorem State.setCounts_mfe (s : State) (n d : Nat) : (s.setCounts n d).mfe = s.mfe := rfl
@[simp] theorem State.setCounts_su (s : State) (n d : Nat) : (s.setCounts n d).su = s.su := rfl
@[simp] theorem State.setCounts_llu (s : State) (n d : Nat) : (s.setCounts n d).llu = s.llu := rfl
@[simp] theorem State.setCounts_cmp (s : State) (n d : Nat) : (s.setCounts n d).cmp = s.cmp := rfl
@[simp] theorem State.setCounts_att (s : State) (n d : Nat) : (s.setCounts n d).att = s.att := rfl
@[simp] theorem State.setCounts_link (s : State) (n d : Nat) : (s.setCounts n d).link = s.link := rfl

@[simp] theorem State.setSlot_pending (s : State) (k : SlotName) (x : Slot) : (s.setSlot k x).pending = s.pending := by cases k <;> rfl
@[simp] theorem State.setSlot_resetLow (s : State) (k : SlotName) (x : Slot) : (s.setSlot k x).resetLow = s.resetLow := by cases k <;> rfl
@[simp] theorem State.setSlot_blocks (s : State) (k : SlotName) (x : Slot) : (s.setSlot k x).blocks = s.blocks := by cases k <;> rfl
@[simp] theorem State.setSlot_draws (s : State) (k : SlotName) (x : Slot) : (s.setSlot k x).draws = s.draws := by cases k <;> rfl
@[simp] theorem State.setSlot_rq (s : State) (k : SlotName) (x : Slot) : (s.setSlot k x).rq = s.rq := by cases k <;> rfl
@[simp] theorem State.setSlot_pbc (s : State) (k : SlotName) (x : Slot) : (s.setSlot k x).pbc = s.pbc := by cases k <;> rfl
@[simp] theorem State.setSlot_tr (s : State) (k : SlotName) (x : Slot) : (s.setSlot k x).tr = s.tr := by cases k <;> rfl
@[simp] theorem State.setSlot_mfe (s : State) (k : SlotName) (x : Slot) : (s.setSlot k x).mfe = s.mfe := by cases k <;> rfl
@[simp] theorem State.setSlot_su (s : State) (k : SlotName) (x : Slot) : (s.setSlot k x).su = s.su := by cases k <;> rfl
@[simp] theorem State.setSlot_llu (s : State) (k : SlotName) (x : Slot) : (s.setSlot k x).llu = s.llu := by cases k <;> rfl
@[simp] theorem State.setSlot_cmp (s : State) (k : SlotName) (x : Slot) : (s.setSlot k x).cmp = s.cmp := by cases k <;> rfl
@[simp] theorem State.setSlot_att (s : State) (k : SlotName) (x : Slot) : (s.setSlot k x).att = s.att := by cases k <;> rfl
@[simp] theorem State.setSlot_link (s : State) (k : SlotName) (x : Slot) : (s.setSlot k x).link = s.link := by cases k <;> rfl
@[simp] theorem State.setSlot_slot (s : State) (k : SlotName) (x : Slot) : (s.setSlot k x).slot k = x := by cases k <;> rfl
theorem State.setSlot_other (s : State) {k j : SlotName} (x : Slot) (h : j ≠ k) : (s.setSlot k x).slot j = s.slot j := by
  cases k <;> cases j <;> first | rfl | exact absurd rfl h

@[simp] theorem State.setRq_slot (s : State) (x : RequestQueue) (k : SlotName) : (s.setRq x).slot k = s.slot k := by cases k <;> rfl
@[simp] theorem State.setPbc_slot (s : State) (x : PadBus) (k : SlotName) : (s.setPbc x).slot k = s.slot k := by cases k <;> rfl
@[simp] theorem State.setTr_slot (s : State) (x : Transport) (k : SlotName) : (s.setTr x).slot k = s.slot k := by cases k <;> rfl
@[simp] theorem State.setMfe_slot (s : State) (x : MicFrontEnd) (k : SlotName) : (s.setMfe x).slot k = s.slot k := by cases k <;> rfl
@[simp] theorem State.setSu_slot (s : State) (x : ScoringUnit) (k : SlotName) : (s.setSu x).slot k = s.slot k := by cases k <;> rfl
@[simp] theorem State.setLlu_slot (s : State) (x : LayoutUnit) (k : SlotName) : (s.setLlu x).slot k = s.slot k := by cases k <;> rfl
@[simp] theorem State.setCmp_slot (s : State) (x : Compositor) (k : SlotName) : (s.setCmp x).slot k = s.slot k := by cases k <;> rfl
@[simp] theorem State.setAtt_slot (s : State) (x : Attention) (k : SlotName) : (s.setAtt x).slot k = s.slot k := by cases k <;> rfl
@[simp] theorem State.setLink_slot (s : State) (x : ControlLink) (k : SlotName) : (s.setLink x).slot k = s.slot k := by cases k <;> rfl

@[simp] theorem State.setRq_self (s : State) : s.setRq s.rq = s := rfl
@[simp] theorem State.setRq_twice (s : State) (x y : RequestQueue) : (s.setRq x).setRq y = s.setRq y := rfl
@[simp] theorem State.setPbc_self (s : State) : s.setPbc s.pbc = s := rfl
@[simp] theorem State.setPbc_twice (s : State) (x y : PadBus) : (s.setPbc x).setPbc y = s.setPbc y := rfl
@[simp] theorem State.setTr_self (s : State) : s.setTr s.tr = s := rfl
@[simp] theorem State.setTr_twice (s : State) (x y : Transport) : (s.setTr x).setTr y = s.setTr y := rfl
@[simp] theorem State.setMfe_self (s : State) : s.setMfe s.mfe = s := rfl
@[simp] theorem State.setMfe_twice (s : State) (x y : MicFrontEnd) : (s.setMfe x).setMfe y = s.setMfe y := rfl
@[simp] theorem State.setSu_self (s : State) : s.setSu s.su = s := rfl
@[simp] theorem State.setSu_twice (s : State) (x y : ScoringUnit) : (s.setSu x).setSu y = s.setSu y := rfl
@[simp] theorem State.setLlu_self (s : State) : s.setLlu s.llu = s := rfl
@[simp] theorem State.setLlu_twice (s : State) (x y : LayoutUnit) : (s.setLlu x).setLlu y = s.setLlu y := rfl
@[simp] theorem State.setCmp_self (s : State) : s.setCmp s.cmp = s := rfl
@[simp] theorem State.setCmp_twice (s : State) (x y : Compositor) : (s.setCmp x).setCmp y = s.setCmp y := rfl
@[simp] theorem State.setAtt_self (s : State) : s.setAtt s.att = s := rfl
@[simp] theorem State.setAtt_twice (s : State) (x y : Attention) : (s.setAtt x).setAtt y = s.setAtt y := rfl
@[simp] theorem State.setLink_self (s : State) : s.setLink s.link = s := rfl
@[simp] theorem State.setLink_twice (s : State) (x y : ControlLink) : (s.setLink x).setLink y = s.setLink y := rfl

@[simp] theorem State.raise_pending (s : State) (m : Member) : (s.raise m).pending = s.pending := rfl
@[simp] theorem State.raise_resetLow (s : State) (m : Member) : (s.raise m).resetLow = s.resetLow := rfl
@[simp] theorem State.raise_blocks (s : State) (m : Member) : (s.raise m).blocks = s.blocks := rfl
@[simp] theorem State.raise_draws (s : State) (m : Member) : (s.raise m).draws = s.draws := rfl
@[simp] theorem State.raise_rq (s : State) (m : Member) : (s.raise m).rq = s.rq := rfl
@[simp] theorem State.raise_pbc (s : State) (m : Member) : (s.raise m).pbc = s.pbc := rfl
@[simp] theorem State.raise_slotA (s : State) (m : Member) : (s.raise m).slotA = s.slotA := rfl
@[simp] theorem State.raise_slotB (s : State) (m : Member) : (s.raise m).slotB = s.slotB := rfl
@[simp] theorem State.raise_tr (s : State) (m : Member) : (s.raise m).tr = s.tr := rfl
@[simp] theorem State.raise_mfe (s : State) (m : Member) : (s.raise m).mfe = s.mfe := rfl
@[simp] theorem State.raise_su (s : State) (m : Member) : (s.raise m).su = s.su := rfl
@[simp] theorem State.raise_llu (s : State) (m : Member) : (s.raise m).llu = s.llu := rfl
@[simp] theorem State.raise_cmp (s : State) (m : Member) : (s.raise m).cmp = s.cmp := rfl
@[simp] theorem State.raise_link (s : State) (m : Member) : (s.raise m).link = s.link := rfl
@[simp] theorem State.raise_att (s : State) (m : Member) : (s.raise m).att = s.att.raise m := rfl
@[simp] theorem State.raise_slot (s : State) (m : Member) (k : SlotName) : (s.raise m).slot k = s.slot k := by cases k <;> rfl
@[simp] theorem State.raiseIf_pending (s : State) (c : Bool) (m : Member) : (s.raiseIf c m).pending = s.pending := by cases c <;> rfl
@[simp] theorem State.raiseIf_resetLow (s : State) (c : Bool) (m : Member) : (s.raiseIf c m).resetLow = s.resetLow := by cases c <;> rfl
@[simp] theorem State.raiseIf_blocks (s : State) (c : Bool) (m : Member) : (s.raiseIf c m).blocks = s.blocks := by cases c <;> rfl
@[simp] theorem State.raiseIf_draws (s : State) (c : Bool) (m : Member) : (s.raiseIf c m).draws = s.draws := by cases c <;> rfl
@[simp] theorem State.raiseIf_rq (s : State) (c : Bool) (m : Member) : (s.raiseIf c m).rq = s.rq := by cases c <;> rfl
@[simp] theorem State.raiseIf_pbc (s : State) (c : Bool) (m : Member) : (s.raiseIf c m).pbc = s.pbc := by cases c <;> rfl
@[simp] theorem State.raiseIf_slotA (s : State) (c : Bool) (m : Member) : (s.raiseIf c m).slotA = s.slotA := by cases c <;> rfl
@[simp] theorem State.raiseIf_slotB (s : State) (c : Bool) (m : Member) : (s.raiseIf c m).slotB = s.slotB := by cases c <;> rfl
@[simp] theorem State.raiseIf_tr (s : State) (c : Bool) (m : Member) : (s.raiseIf c m).tr = s.tr := by cases c <;> rfl
@[simp] theorem State.raiseIf_mfe (s : State) (c : Bool) (m : Member) : (s.raiseIf c m).mfe = s.mfe := by cases c <;> rfl
@[simp] theorem State.raiseIf_su (s : State) (c : Bool) (m : Member) : (s.raiseIf c m).su = s.su := by cases c <;> rfl
@[simp] theorem State.raiseIf_llu (s : State) (c : Bool) (m : Member) : (s.raiseIf c m).llu = s.llu := by cases c <;> rfl
@[simp] theorem State.raiseIf_cmp (s : State) (c : Bool) (m : Member) : (s.raiseIf c m).cmp = s.cmp := by cases c <;> rfl
@[simp] theorem State.raiseIf_link (s : State) (c : Bool) (m : Member) : (s.raiseIf c m).link = s.link := by cases c <;> rfl
@[simp] theorem State.raiseIf_true (s : State) (m : Member) : s.raiseIf true m = s.raise m := rfl
@[simp] theorem State.raiseIf_false (s : State) (m : Member) : s.raiseIf false m = s := rfl

@[simp] theorem State.setEntries_pending (s : State) (q : List Entry) : (s.setEntries q).pending = s.pending := rfl
@[simp] theorem State.setEntries_resetLow (s : State) (q : List Entry) : (s.setEntries q).resetLow = s.resetLow := rfl
@[simp] theorem State.setEntries_blocks (s : State) (q : List Entry) : (s.setEntries q).blocks = s.blocks := rfl
@[simp] theorem State.setEntries_draws (s : State) (q : List Entry) : (s.setEntries q).draws = s.draws := rfl
@[simp] theorem State.setEntries_pbc (s : State) (q : List Entry) : (s.setEntries q).pbc = s.pbc := rfl
@[simp] theorem State.setEntries_slotA (s : State) (q : List Entry) : (s.setEntries q).slotA = s.slotA := rfl
@[simp] theorem State.setEntries_slotB (s : State) (q : List Entry) : (s.setEntries q).slotB = s.slotB := rfl
@[simp] theorem State.setEntries_tr (s : State) (q : List Entry) : (s.setEntries q).tr = s.tr := rfl
@[simp] theorem State.setEntries_mfe (s : State) (q : List Entry) : (s.setEntries q).mfe = s.mfe := rfl
@[simp] theorem State.setEntries_su (s : State) (q : List Entry) : (s.setEntries q).su = s.su := rfl
@[simp] theorem State.setEntries_llu (s : State) (q : List Entry) : (s.setEntries q).llu = s.llu := rfl
@[simp] theorem State.setEntries_cmp (s : State) (q : List Entry) : (s.setEntries q).cmp = s.cmp := rfl
@[simp] theorem State.setEntries_att (s : State) (q : List Entry) : (s.setEntries q).att = s.att := rfl
@[simp] theorem State.setEntries_link (s : State) (q : List Entry) : (s.setEntries q).link = s.link := rfl
@[simp] theorem State.setEntries_entries (s : State) (q : List Entry) : (s.setEntries q).rq.entries = q := rfl
@[simp] theorem State.tellPads_pending (s : State) (l : List Requester) (n : NewsItem) : (s.tellPads l n).pending = s.pending := rfl
@[simp] theorem State.tellPads_resetLow (s : State) (l : List Requester) (n : NewsItem) : (s.tellPads l n).resetLow = s.resetLow := rfl
@[simp] theorem State.tellPads_blocks (s : State) (l : List Requester) (n : NewsItem) : (s.tellPads l n).blocks = s.blocks := rfl
@[simp] theorem State.tellPads_draws (s : State) (l : List Requester) (n : NewsItem) : (s.tellPads l n).draws = s.draws := rfl
@[simp] theorem State.tellPads_rq (s : State) (l : List Requester) (n : NewsItem) : (s.tellPads l n).rq = s.rq := rfl
@[simp] theorem State.tellPads_slotA (s : State) (l : List Requester) (n : NewsItem) : (s.tellPads l n).slotA = s.slotA := rfl
@[simp] theorem State.tellPads_slotB (s : State) (l : List Requester) (n : NewsItem) : (s.tellPads l n).slotB = s.slotB := rfl
@[simp] theorem State.tellPads_tr (s : State) (l : List Requester) (n : NewsItem) : (s.tellPads l n).tr = s.tr := rfl
@[simp] theorem State.tellPads_mfe (s : State) (l : List Requester) (n : NewsItem) : (s.tellPads l n).mfe = s.mfe := rfl
@[simp] theorem State.tellPads_su (s : State) (l : List Requester) (n : NewsItem) : (s.tellPads l n).su = s.su := rfl
@[simp] theorem State.tellPads_llu (s : State) (l : List Requester) (n : NewsItem) : (s.tellPads l n).llu = s.llu := rfl
@[simp] theorem State.tellPads_cmp (s : State) (l : List Requester) (n : NewsItem) : (s.tellPads l n).cmp = s.cmp := rfl
@[simp] theorem State.tellPads_att (s : State) (l : List Requester) (n : NewsItem) : (s.tellPads l n).att = s.att := rfl
@[simp] theorem State.tellPads_link (s : State) (l : List Requester) (n : NewsItem) : (s.tellPads l n).link = s.link := rfl
@[simp] theorem State.setPad_pending (s : State) (i : Fin 8) (p : PadRecord) : (s.setPad i p).pending = s.pending := rfl
@[simp] theorem State.setPad_resetLow (s : State) (i : Fin 8) (p : PadRecord) : (s.setPad i p).resetLow = s.resetLow := rfl
@[simp] theorem State.setPad_blocks (s : State) (i : Fin 8) (p : PadRecord) : (s.setPad i p).blocks = s.blocks := rfl
@[simp] theorem State.setPad_draws (s : State) (i : Fin 8) (p : PadRecord) : (s.setPad i p).draws = s.draws := rfl
@[simp] theorem State.setPad_rq (s : State) (i : Fin 8) (p : PadRecord) : (s.setPad i p).rq = s.rq := rfl
@[simp] theorem State.setPad_slotA (s : State) (i : Fin 8) (p : PadRecord) : (s.setPad i p).slotA = s.slotA := rfl
@[simp] theorem State.setPad_slotB (s : State) (i : Fin 8) (p : PadRecord) : (s.setPad i p).slotB = s.slotB := rfl
@[simp] theorem State.setPad_tr (s : State) (i : Fin 8) (p : PadRecord) : (s.setPad i p).tr = s.tr := rfl
@[simp] theorem State.setPad_mfe (s : State) (i : Fin 8) (p : PadRecord) : (s.setPad i p).mfe = s.mfe := rfl
@[simp] theorem State.setPad_su (s : State) (i : Fin 8) (p : PadRecord) : (s.setPad i p).su = s.su := rfl
@[simp] theorem State.setPad_llu (s : State) (i : Fin 8) (p : PadRecord) : (s.setPad i p).llu = s.llu := rfl
@[simp] theorem State.setPad_cmp (s : State) (i : Fin 8) (p : PadRecord) : (s.setPad i p).cmp = s.cmp := rfl
@[simp] theorem State.setPad_att (s : State) (i : Fin 8) (p : PadRecord) : (s.setPad i p).att = s.att := rfl
@[simp] theorem State.setPad_link (s : State) (i : Fin 8) (p : PadRecord) : (s.setPad i p).link = s.link := rfl
@[simp] theorem State.setReceiver_pending (s : State) (r : Receiver) (g : Bool) : (s.setReceiver r g).pending = s.pending := rfl
@[simp] theorem State.withReply_pending (s : State) (r : Reply) : (s.withReply r).pending = s.pending := rfl
@[simp] theorem State.setReceiver_resetLow (s : State) (r : Receiver) (g : Bool) : (s.setReceiver r g).resetLow = s.resetLow := rfl
@[simp] theorem State.withReply_resetLow (s : State) (r : Reply) : (s.withReply r).resetLow = s.resetLow := rfl
@[simp] theorem State.setReceiver_blocks (s : State) (r : Receiver) (g : Bool) : (s.setReceiver r g).blocks = s.blocks := rfl
@[simp] theorem State.withReply_blocks (s : State) (r : Reply) : (s.withReply r).blocks = s.blocks := rfl
@[simp] theorem State.setReceiver_draws (s : State) (r : Receiver) (g : Bool) : (s.setReceiver r g).draws = s.draws := rfl
@[simp] theorem State.withReply_draws (s : State) (r : Reply) : (s.withReply r).draws = s.draws := rfl
@[simp] theorem State.setReceiver_rq (s : State) (r : Receiver) (g : Bool) : (s.setReceiver r g).rq = s.rq := rfl
@[simp] theorem State.withReply_rq (s : State) (r : Reply) : (s.withReply r).rq = s.rq := rfl
@[simp] theorem State.setReceiver_pbc (s : State) (r : Receiver) (g : Bool) : (s.setReceiver r g).pbc = s.pbc := rfl
@[simp] theorem State.withReply_pbc (s : State) (r : Reply) : (s.withReply r).pbc = s.pbc := rfl
@[simp] theorem State.setReceiver_slotA (s : State) (r : Receiver) (g : Bool) : (s.setReceiver r g).slotA = s.slotA := rfl
@[simp] theorem State.withReply_slotA (s : State) (r : Reply) : (s.withReply r).slotA = s.slotA := rfl
@[simp] theorem State.setReceiver_slotB (s : State) (r : Receiver) (g : Bool) : (s.setReceiver r g).slotB = s.slotB := rfl
@[simp] theorem State.withReply_slotB (s : State) (r : Reply) : (s.withReply r).slotB = s.slotB := rfl
@[simp] theorem State.setReceiver_tr (s : State) (r : Receiver) (g : Bool) : (s.setReceiver r g).tr = s.tr := rfl
@[simp] theorem State.withReply_tr (s : State) (r : Reply) : (s.withReply r).tr = s.tr := rfl
@[simp] theorem State.setReceiver_mfe (s : State) (r : Receiver) (g : Bool) : (s.setReceiver r g).mfe = s.mfe := rfl
@[simp] theorem State.withReply_mfe (s : State) (r : Reply) : (s.withReply r).mfe = s.mfe := rfl
@[simp] theorem State.setReceiver_su (s : State) (r : Receiver) (g : Bool) : (s.setReceiver r g).su = s.su := rfl
@[simp] theorem State.withReply_su (s : State) (r : Reply) : (s.withReply r).su = s.su := rfl
@[simp] theorem State.setReceiver_llu (s : State) (r : Receiver) (g : Bool) : (s.setReceiver r g).llu = s.llu := rfl
@[simp] theorem State.withReply_llu (s : State) (r : Reply) : (s.withReply r).llu = s.llu := rfl
@[simp] theorem State.setReceiver_cmp (s : State) (r : Receiver) (g : Bool) : (s.setReceiver r g).cmp = s.cmp := rfl
@[simp] theorem State.withReply_cmp (s : State) (r : Reply) : (s.withReply r).cmp = s.cmp := rfl
@[simp] theorem State.setReceiver_att (s : State) (r : Receiver) (g : Bool) : (s.setReceiver r g).att = s.att := rfl
@[simp] theorem State.withReply_att (s : State) (r : Reply) : (s.withReply r).att = s.att := rfl

/-! ## Tables -/

@[simp] theorem Quad.get_set_same {α : Type} (q : Quad α) (i : Fin 4) (x : α) : (q.set i x).get i = x := by
  fin_cases i <;> rfl

theorem Quad.get_set_other {α : Type} (q : Quad α) {i j : Fin 4} (x : α) (h : j ≠ i) :
    (q.set i x).get j = q.get j := by
  fin_cases i <;> fin_cases j <;> first | rfl | exact absurd rfl h

@[simp] theorem Quad.get_mapIdx {α β : Type} (f : Fin 4 → α → β) (q : Quad α) (i : Fin 4) :
    (q.mapIdx f).get i = f i (q.get i) := by
  fin_cases i <;> rfl

@[simp] theorem Quad.get_map {α β : Type} (f : α → β) (q : Quad α) (i : Fin 4) :
    (q.map f).get i = f (q.get i) := by
  fin_cases i <;> rfl

@[simp] theorem Oct.get_set_same {α : Type} (o : Oct α) (i : Fin 8) (x : α) : (o.set i x).get i = x := by
  fin_cases i <;> rfl

theorem Oct.get_set_other {α : Type} (o : Oct α) {i j : Fin 8} (x : α) (h : j ≠ i) :
    (o.set i x).get j = o.get j := by
  fin_cases i <;> fin_cases j <;> first | rfl | exact absurd rfl h

@[simp] theorem Oct.get_mapIdx {α β : Type} (f : Fin 8 → α → β) (o : Oct α) (i : Fin 8) :
    (o.mapIdx f).get i = f i (o.get i) := by
  fin_cases i <;> rfl

@[simp] theorem Oct.get_map {α β : Type} (f : α → β) (o : Oct α) (i : Fin 8) :
    (o.map f).get i = f (o.get i) := by
  fin_cases i <;> rfl

theorem Lane.shown_idle (l : Lane) (h : l.state = .idle) : l.shown = Lane.reset := if_pos h
theorem Lane.shown_of_ne_idle (l : Lane) (h : l.state ≠ .idle) : l.shown = l := if_neg h
@[simp] theorem Lane.shown_state (l : Lane) : l.shown.state = l.state := by
  by_cases h : l.state = .idle
  · rw [Lane.shown_idle l h, h]
    rfl
  · rw [Lane.shown_of_ne_idle l h]

end Sys2Proof.Machine
end

