-- ==== Sys2Proof/Laws/Link.lean ====
section
/-! SUPPORT. What the shared operations of the control link do: an arrival, the transmitter's choice, a drop, a
message offered, and a request sent over a free link (R190 to R196). -/

namespace Sys2Proof.Machine

/-! ## The transmitter's choice (R196) -/

theorem chooseNext_busy (s : State) (h : s.link.transmitter ≠ .idle) : chooseNext s = s := by
  unfold chooseNext; split
  · contradiction
  · rfl

theorem chooseNext_notice (s : State) (h : s.link.transmitter = .idle) (hn : s.att.noticePending = true) :
    chooseNext s = (s.setAtt { s.att with noticePending := false }).setLink
      { s.link with transmitter := .notice s.noticeNow } := by
  simp [chooseNext, h, hn]

theorem chooseNext_reply (s : State) (h : s.link.transmitter = .idle) (hn : s.att.noticePending = false)
    (hf : s.link.formed.isSome = true) :
    chooseNext s = s.setLink { s.link with transmitter := .reply } := by
  simp [chooseNext, h, hn, hf]

theorem chooseNext_nothing (s : State) (h : s.settled) : chooseNext s = s := by
  by_cases hi : s.link.transmitter = .idle
  · simp [chooseNext, hi, (h hi).1, (h hi).2]
  · exact chooseNext_busy s hi

/-- Everything the choice can do: nothing, or begin the notice, or begin the reply. -/
theorem chooseNext_cases (s : State) :
    chooseNext s = s ∨
    chooseNext s = (s.setAtt { s.att with noticePending := false }).setLink
      { s.link with transmitter := .notice s.noticeNow } ∨
    chooseNext s = s.setLink { s.link with transmitter := .reply } := by
  unfold chooseNext
  split
  · split
    · exact .inr (.inl rfl)
    · split
      · exact .inr (.inr rfl)
      · exact .inl rfl
  · exact .inl rfl

/-- The choice leaves nothing more to choose. -/
theorem chooseNext_settled (s : State) : (chooseNext s).settled := by
  unfold chooseNext State.settled
  split
  · rename_i hi
    split
    · simp
    · split
      · simp
      · rename_i h1 h2; intro _; exact ⟨by simpa using h1, by simpa using h2⟩
  · rename_i hi; intro h; exact absurd h hi

@[simp] theorem chooseNext_rq (s : State) : (chooseNext s).rq = s.rq := by
  rcases chooseNext_cases s with h | h | h <;> rw [h] <;> rfl
@[simp] theorem chooseNext_pbc (s : State) : (chooseNext s).pbc = s.pbc := by
  rcases chooseNext_cases s with h | h | h <;> rw [h] <;> rfl
@[simp] theorem chooseNext_slotA (s : State) : (chooseNext s).slotA = s.slotA := by
  rcases chooseNext_cases s with h | h | h <;> rw [h] <;> rfl
@[simp] theorem chooseNext_slotB (s : State) : (chooseNext s).slotB = s.slotB := by
  rcases chooseNext_cases s with h | h | h <;> rw [h] <;> rfl
@[simp] theorem chooseNext_tr (s : State) : (chooseNext s).tr = s.tr := by
  rcases chooseNext_cases s with h | h | h <;> rw [h] <;> rfl
@[simp] theorem chooseNext_mfe (s : State) : (chooseNext s).mfe = s.mfe := by
  rcases chooseNext_cases s with h | h | h <;> rw [h] <;> rfl
@[simp] theorem chooseNext_su (s : State) : (chooseNext s).su = s.su := by
  rcases chooseNext_cases s with h | h | h <;> rw [h] <;> rfl
@[simp] theorem chooseNext_llu (s : State) : (chooseNext s).llu = s.llu := by
  rcases chooseNext_cases s with h | h | h <;> rw [h] <;> rfl
@[simp] theorem chooseNext_cmp (s : State) : (chooseNext s).cmp = s.cmp := by
  rcases chooseNext_cases s with h | h | h <;> rw [h] <;> rfl
@[simp] theorem chooseNext_pending (s : State) : (chooseNext s).pending = s.pending := by
  rcases chooseNext_cases s with h | h | h <;> rw [h] <;> rfl
@[simp] theorem chooseNext_resetLow (s : State) : (chooseNext s).resetLow = s.resetLow := by
  rcases chooseNext_cases s with h | h | h <;> rw [h] <;> rfl
@[simp] theorem chooseNext_blocks (s : State) : (chooseNext s).blocks = s.blocks := by
  rcases chooseNext_cases s with h | h | h <;> rw [h] <;> rfl
@[simp] theorem chooseNext_draws (s : State) : (chooseNext s).draws = s.draws := by
  rcases chooseNext_cases s with h | h | h <;> rw [h] <;> rfl
@[simp] theorem chooseNext_latched (s : State) : (chooseNext s).att.latched = s.att.latched := by
  rcases chooseNext_cases s with h | h | h <;> rw [h] <;> rfl
@[simp] theorem chooseNext_mask (s : State) : (chooseNext s).att.mask = s.att.mask := by
  rcases chooseNext_cases s with h | h | h <;> rw [h] <;> rfl
@[simp] theorem chooseNext_formed (s : State) : (chooseNext s).link.formed = s.link.formed := by
  rcases chooseNext_cases s with h | h | h <;> rw [h] <;> rfl
@[simp] theorem chooseNext_queue (s : State) : (chooseNext s).link.queue = s.link.queue := by
  rcases chooseNext_cases s with h | h | h <;> rw [h] <;> rfl
@[simp] theorem chooseNext_receiver (s : State) : (chooseNext s).link.receiver = s.link.receiver := by
  rcases chooseNext_cases s with h | h | h <;> rw [h] <;> rfl
@[simp] theorem chooseNext_gapRunning (s : State) : (chooseNext s).link.gapRunning = s.link.gapRunning := by
  rcases chooseNext_cases s with h | h | h <;> rw [h] <;> rfl
@[simp] theorem chooseNext_linkError (s : State) : (chooseNext s).link.linkError = s.link.linkError := by
  rcases chooseNext_cases s with h | h | h <;> rw [h] <;> rfl

/-! ## Arrivals -/

theorem arrival_awake (f : State → State) (s : State) (h : s.resetLow = false) :
    arrival f s = .next (chooseNext (f s)) := by simp [arrival, h]

theorem arrival_held (f : State → State) (s : State) (h : s.resetLow = true) : arrival f s = .next s := by
  simp [arrival, h]

theorem occurrence_due (b : Bool) (f : State → State) (s : State) (hb : b = true) :
    occurrence b f s = arrival f s := by simp [occurrence, hb]

theorem occurrence_not_due (b : Bool) (f : State → State) (s : State) (hb : b = false) :
    occurrence b f s = .next s := by simp [occurrence, hb]

/-! ## A message over a free link (R191 to R193) -/

/-- The state with one message standing alone in the receive queue. -/
def State.holding (s : State) (m : Message) : State := s.setLink { s.link with queue := [m] }

/-- A message sent over a free link is taken at once and answered. -/
theorem deliver_free (s : State) (m : Message) (h : LinkFree s) (hl : m.payload.length ≤ 1100) :
    s.deliver m = takeMessage (s.holding m) m := by
  simp [State.deliver, offer, takeNext, h.noMessage, h.noReply, show ¬ 1100 < m.payload.length by omega,
    State.holding]

/-- A request sent over a free link, its owner's answer being known. -/
theorem sendRequest_free (s : State) (tag : Byte) (r : Request) (s' : State) (code : ResultCode)
    (data : List Byte) (h : LinkFree s) (hk : r.keepsLength = true) (hl : r.payload.length ≤ 1100)
    (ha : handle (s.holding (r.message tag)) r = ⟨s'.holding (r.message tag), code, data⟩) :
    sendRequest tag r s = .next (s'.answered (r.message tag) code data) := by
  rw [sendRequest, arrival_awake _ _ h.awake, deliver_free s _ h hl]
  have : answerTo (s.holding (r.message tag)) (r.message tag) = ⟨s'.holding (r.message tag), code, data⟩ := by
    rw [answerTo, Request.message, readMessage_payload r hk]; exact ha
  rw [takeMessage, this]
  rfl

/-! ## Drops (R190) -/

theorem dropMessage_eq (s : State) :
    dropMessage s = (s.setLink { s.link with linkError := true }).setAtt (s.att.raise .linkError) := rfl

/-- Everything an offer can do: the message is dropped by a full queue, joins it to wait, or is taken. -/
theorem offer_cases (s : State) (m : Message) :
    (4 ≤ s.link.queue.length ∧ offer s m = dropMessage s) ∨
    (s.link.queue.length < 4 ∧ s.link.formed ≠ none ∧
      offer s m = s.setLink { s.link with queue := s.link.queue ++ [m] }) ∨
    (s.link.queue.length < 4 ∧ s.link.formed = none ∧
      offer s m = takeMessage (s.setLink { s.link with queue := s.link.queue ++ [m] })
        ((s.link.queue ++ [m]).headD m)) := by
  unfold offer
  split
  · rename_i h
    right
    cases hf : s.link.formed with
    | some r => exact .inl ⟨h, by simp, by simp [takeNext, hf]⟩
    | none =>
      refine .inr ⟨h, rfl, ?_⟩
      cases hq : s.link.queue <;> simp [takeNext, hf]
  · exact .inl ⟨by omega, rfl⟩

end Sys2Proof.Machine
end

