-- ==== Sys2Proof/Laws/Answers.lean ====
section
/-! SUPPORT. A block answers a message without looking at the control link: every shared operation, and so every
answer but ATTENTION_ACK's, is the same whatever the link holds (R192). So a request sent over a free link leaves what
its owner answers to it, with the reply formed. -/

namespace Sys2Proof.Machine

/-! ## The shared operations and the control link -/

@[simp] theorem activeSlot_setLink (s : State) (l : ControlLink) : (s.setLink l).activeSlot = s.activeSlot := rfl
@[simp] theorem slotHolding_setLink (s : State) (l : ControlLink) (id : Nat) :
    (s.setLink l).slotHolding id = s.slotHolding id := rfl
theorem setSlot_setLink (s : State) (l : ControlLink) (n : SlotName) (x : Slot) :
    (s.setLink l).setSlot n x = (s.setSlot n x).setLink l := by cases n <;> rfl
theorem raise_setLink (s : State) (l : ControlLink) (m : Member) : (s.setLink l).raise m = (s.raise m).setLink l := rfl
theorem raiseIf_setLink (s : State) (l : ControlLink) (c : Bool) (m : Member) :
    (s.setLink l).raiseIf c m = (s.raiseIf c m).setLink l := by cases c <;> rfl
theorem setEntries_setLink (s : State) (l : ControlLink) (q : List Entry) :
    (s.setLink l).setEntries q = (s.setEntries q).setLink l := rfl
theorem tellPads_setLink (s : State) (l : ControlLink) (r : List Requester) (n : NewsItem) :
    (s.setLink l).tellPads r n = (s.tellPads r n).setLink l := rfl
theorem setPad_setLink (s : State) (l : ControlLink) (i : Fin 8) (p : PadRecord) :
    (s.setLink l).setPad i p = (s.setPad i p).setLink l := rfl
theorem setRq_setLink (s : State) (l : ControlLink) (x : RequestQueue) :
    (s.setLink l).setRq x = (s.setRq x).setLink l := rfl
theorem setPbc_setLink (s : State) (l : ControlLink) (x : PadBus) : (s.setLink l).setPbc x = (s.setPbc x).setLink l := rfl
theorem setTr_setLink (s : State) (l : ControlLink) (x : Transport) : (s.setLink l).setTr x = (s.setTr x).setLink l := rfl
theorem setMfe_setLink (s : State) (l : ControlLink) (x : MicFrontEnd) :
    (s.setLink l).setMfe x = (s.setMfe x).setLink l := rfl
theorem setSu_setLink (s : State) (l : ControlLink) (x : ScoringUnit) : (s.setLink l).setSu x = (s.setSu x).setLink l := rfl
theorem setLlu_setLink (s : State) (l : ControlLink) (x : LayoutUnit) :
    (s.setLink l).setLlu x = (s.setLlu x).setLink l := rfl
theorem setCmp_setLink (s : State) (l : ControlLink) (x : Compositor) :
    (s.setLink l).setCmp x = (s.setCmp x).setLink l := rfl
theorem setAtt_setLink (s : State) (l : ControlLink) (x : Attention) :
    (s.setLink l).setAtt x = (s.setAtt x).setLink l := rfl

@[simp] theorem songImage_setLink (s : State) (l : ControlLink) : (s.setLink l).songImage = s.songImage := by
  cases h : s.activeSlot <;> simp [State.songImage, h]

theorem emptySlotOf_setLink (s : State) (l : ControlLink) (id : Nat) :
    (s.setLink l).emptySlotOf id = (s.emptySlotOf id).setLink l := by
  cases h : s.slotHolding id <;> simp [State.emptySlotOf, h, setSlot_setLink]

theorem cancelEntry_setLink (s : State) (l : ControlLink) (e : Entry) (r : DropReason) :
    (s.setLink l).cancelEntry e r = (s.cancelEntry e r).setLink l := by
  simp only [State.cancelEntry, setEntries_setLink, emptySlotOf_setLink, tellPads_setLink, raise_setLink,
    State.setLink_rq]

theorem cue_setLink (s : State) (l : ControlLink) (e : Entry) : (s.setLink l).cue e = (s.cue e).setLink l := by
  cases h : s.slotHolding e.id with
  | none => simp [State.cue, h]
  | some n => cases n <;> simp only [State.cue, slotHolding_setLink, h] <;> rfl

theorem autoAdvance_setLink (s : State) (l : ControlLink) : (s.setLink l).autoAdvance = s.autoAdvance.setLink l := by
  simp only [State.autoAdvance, State.setLink_tr, State.setLink_rq, cue_setLink]
  cases waiting s.rq.entries with
  | nil => split <;> rfl
  | cons e rest => split <;> (try rfl); simp only; split <;> rfl

@[simp] theorem lineView_setLink (s : State) (l : ControlLink) : (s.setLink l).lineView = s.lineView := by
  simp [State.lineView]

theorem rebuild_setLink (s : State) (l : ControlLink) : (s.setLink l).rebuild = s.rebuild.setLink l := by
  by_cases h : s.llu.mode = .lyrics <;> simp only [State.rebuild, lineView_setLink, State.setLink_llu, h] <;> rfl

theorem closeLanes_setLink (s : State) (l : ControlLink) (k : FinishKind) :
    (s.setLink l).closeLanes k = (s.closeLanes k).setLink l := by
  simp only [State.closeLanes, songImage_setLink, State.setLink_su, setSu_setLink]

theorem shelve_setLink (s : State) (l : ControlLink) (k : FinishKind) :
    (s.setLink l).shelve k = (s.shelve k).setLink l := by
  cases h : playingEntry s.rq.entries <;> simp only [State.shelve, State.setLink_rq, State.setLink_su, h] <;> rfl

theorem releaseSlot_setLink (s : State) (l : ControlLink) : (s.setLink l).releaseSlot = s.releaseSlot.setLink l := by
  cases h : s.activeSlot <;> simp [State.releaseSlot, h, setSlot_setLink]

theorem finishSong_setLink (s : State) (l : ControlLink) (k : FinishKind) :
    (s.setLink l).finishSong k = (s.finishSong k).setLink l := by
  simp only [State.finishSong, shelve_setLink, setSu_setLink, releaseSlot_setLink, setLlu_setLink, setTr_setLink,
    raise_setLink, State.setLink_su, State.setLink_llu, State.setLink_tr]

theorem finish_setLink (s : State) (l : ControlLink) (k : FinishKind) :
    (s.setLink l).finish k = (s.finish k).setLink l := by
  simp only [State.finish, finishSong_setLink, autoAdvance_setLink]

theorem resultEntry_setLink (s : State) (l : ControlLink) (k : FinishKind) :
    (s.setLink l).resultEntry k = (s.resultEntry k).setLink l := by
  simp only [State.resultEntry, closeLanes_setLink, State.setLink_tr, State.setLink_llu, setTr_setLink, setLlu_setLink]

theorem finishAtOnce_setLink (s : State) (l : ControlLink) (k : FinishKind) :
    (s.setLink l).finishAtOnce k = (s.finishAtOnce k).setLink l := by
  simp only [State.finishAtOnce, State.setLink_tr, finish_setLink]
  split <;> rfl

theorem enterResult_setLink (s : State) (l : ControlLink) (k : FinishKind) :
    (s.setLink l).enterResult k = (s.enterResult k).setLink l := by
  simp only [State.enterResult, resultEntry_setLink, finishAtOnce_setLink]

/-! ## Answers and the control link -/

/-- An answer whose state has another control link. -/
def Answer.withLink (a : Answer) (l : ControlLink) : Answer := ⟨a.state.setLink l, a.code, a.data⟩

@[simp] theorem refuse_setLink (s : State) (l : ControlLink) (c : ResultCode) :
    refuse (s.setLink l) c = (refuse s c).withLink l := rfl
@[simp] theorem accept_setLink (s : State) (l : ControlLink) (d : List Byte) :
    accept (s.setLink l) d = (accept s d).withLink l := rfl

theorem withLink_ite (c : Prop) [Decidable c] (a b : Answer) (l : ControlLink) :
    (if c then a else b).withLink l = if c then a.withLink l else b.withLink l := by split <;> rfl

theorem releasePad_setLink (s : State) (l : ControlLink) (a : Nat) :
    (s.setLink l).releasePad a = (s.releasePad a).setLink l := by
  have h : ∀ (es : List Entry) (s : State), es.foldl (fun s e => s.cancelEntry (e.without a) .cancelled) (s.setLink l) =
      (es.foldl (fun s e => s.cancelEntry (e.without a) .cancelled) s).setLink l := by
    intro es
    induction es with
    | nil => intro s; rfl
    | cons e rest ih => intro s; simp only [List.foldl_cons, cancelEntry_setLink, ih]
  simp only [State.releasePad, State.setLink_rq, setRq_setLink, h, raiseIf_setLink, autoAdvance_setLink]

theorem takePadAdmit_setLink (s : State) (l : ControlLink) (a : Nat) :
    takePadAdmit (s.setLink l) a = (takePadAdmit s a).withLink l := by
  cases h : padNamed a <;> simp only [takePadAdmit, h, State.setLink_pbc]
  · rfl
  · simp only [withLink_ite]; rfl

theorem takePadRelease_setLink (s : State) (l : ControlLink) (a : Nat) :
    takePadRelease (s.setLink l) a = (takePadRelease s a).withLink l := by
  cases h : padNamed a <;> simp only [takePadRelease, h, State.setLink_pbc, setPad_setLink, releasePad_setLink]
  · rfl
  · simp only [withLink_ite]; rfl

theorem takePadRead_setLink (s : State) (l : ControlLink) (a : Nat) :
    takePadRead (s.setLink l) a = (takePadRead s a).withLink l := by
  cases h : padNamed a <;> simp only [takePadRead, h] <;> rfl

theorem takePadBus_setLink (s : State) (l : ControlLink) (a : Nat) :
    takePadBus (s.setLink l) a = (takePadBus s a).withLink l := by
  unfold takePadBus; split <;> rfl

theorem takeResolve_setLink (s : State) (l : ControlLink) (a b c : Nat) (t : List Nat) :
    takeResolve (s.setLink l) a b c t = (takeResolve s a b c t).withLink l := by
  unfold takeResolve
  simp only [State.setLink_rq]
  split
  · rfl
  · cases h : findEntry s.rq.entries a with
    | none => rfl
    | some e =>
      simp only [setEntries_setLink, tellPads_setLink, raise_setLink, autoAdvance_setLink]
      simp only [withLink_ite]; rfl

theorem takeQueueAdd_setLink (s : State) (l : ControlLink) (a b c : Nat) :
    takeQueueAdd (s.setLink l) a b c = (takeQueueAdd s a b c).withLink l := by
  unfold takeQueueAdd
  cases laneNamed b with
  | none => rfl
  | some k =>
    simp only [State.setLink_rq]
    split
    · rfl
    · cases waitingSong s.rq.entries a with
      | some e => rfl
      | none => simp only; simp only [withLink_ite]; cases k <;> rfl

theorem takeQueueMove_setLink (s : State) (l : ControlLink) (a b c : Nat) :
    takeQueueMove (s.setLink l) a b c = (takeQueueMove s a b c).withLink l := by
  unfold takeQueueMove
  cases laneNamed b with
  | none => rfl
  | some k =>
    simp only [State.setLink_rq]
    cases findEntry s.rq.entries a with
    | none => rfl
    | some e =>
      simp only [setEntries_setLink, raiseIf_setLink, autoAdvance_setLink]
      simp only [withLink_ite]; rfl

theorem takeQueueCancel_setLink (s : State) (l : ControlLink) (a : Nat) :
    takeQueueCancel (s.setLink l) a = (takeQueueCancel s a).withLink l := by
  unfold takeQueueCancel
  simp only [State.setLink_rq]
  cases findEntry s.rq.entries a with
  | none => rfl
  | some e => simp only [cancelEntry_setLink, autoAdvance_setLink]; simp only [withLink_ite]; rfl

theorem takeQueueRead_setLink (s : State) (l : ControlLink) (a b : Nat) :
    takeQueueRead (s.setLink l) a b = (takeQueueRead s a b).withLink l := by
  unfold takeQueueRead; simp only; simp only [withLink_ite]; rfl

theorem takeHistoryRead_setLink (s : State) (l : ControlLink) (a : Nat) :
    takeHistoryRead (s.setLink l) a = (takeHistoryRead s a).withLink l := by
  unfold takeHistoryRead
  simp only [State.setLink_rq]
  split
  · rfl
  · cases s.rq.history[a]? <;> rfl

theorem takePolicy_setLink (s : State) (l : ControlLink) (a b : Nat) :
    takePolicy (s.setLink l) a b = (takePolicy s a b).withLink l := by
  unfold takePolicy; simp only [withLink_ite]; rfl

theorem takeAttentionRead_setLink (s : State) (l : ControlLink) :
    takeAttentionRead (s.setLink l) = (takeAttentionRead s).withLink l := by
  rfl

theorem takeAttentionMask_setLink (s : State) (l : ControlLink) (x : Half) :
    takeAttentionMask (s.setLink l) x = (takeAttentionMask s x).withLink l := by
  unfold takeAttentionMask; cases namedSet x <;> rfl

theorem takeMicSet_setLink (s : State) (l : ControlLink) (a b : Nat) (v : Int) (d : Nat) :
    takeMicSet (s.setLink l) a b v d = (takeMicSet s a b v d).withLink l := by
  unfold takeMicSet; cases modeNamed a <;> rfl

theorem takeMicRead_setLink (s : State) (l : ControlLink) (a : Nat) :
    takeMicRead (s.setLink l) a = (takeMicRead s a).withLink l := by
  cases h : channelNamed a <;> simp only [takeMicRead, h] <;> rfl

theorem takeBind_setLink (s : State) (l : ControlLink) (a b c : Nat) :
    takeBind (s.setLink l) a b c = (takeBind s a b c).withLink l := by
  unfold takeBind
  cases channelNamed a <;> cases bindingNamed b c <;> (try rfl)
  simp only [State.setLink_tr]; simp only [withLink_ite]; rfl

theorem takeScoreSet_setLink (s : State) (l : ControlLink) (a b c : Nat) :
    takeScoreSet (s.setLink l) a b c = (takeScoreSet s a b c).withLink l := by
  unfold takeScoreSet; cases levelNamed a <;> (try rfl); simp only; simp only [withLink_ite]; rfl

theorem takeLaneRead_setLink (s : State) (l : ControlLink) (a : Nat) :
    takeLaneRead (s.setLink l) a = (takeLaneRead s a).withLink l := by
  cases h : channelNamed a <;> simp only [takeLaneRead, h] <;> rfl

theorem takeLayoutSet_setLink (s : State) (l : ControlLink) (a b : Nat) :
    takeLayoutSet (s.setLink l) a b = (takeLayoutSet s a b).withLink l := by
  rfl

theorem takeLayoutRead_setLink (s : State) (l : ControlLink) :
    takeLayoutRead (s.setLink l) = (takeLayoutRead s).withLink l := by
  simp only [takeLayoutRead, lineView_setLink, State.setLink_llu, accept_setLink]

theorem takeBandMap_setLink (s : State) (l : ControlLink) (o : Oct Byte) :
    takeBandMap (s.setLink l) o = (takeBandMap s o).withLink l := by
  unfold takeBandMap; simp only [withLink_ite]; rfl

theorem takeRowPlace_setLink (s : State) (l : ControlLink) (a b c : Nat) :
    takeRowPlace (s.setLink l) a b c = (takeRowPlace s a b c).withLink l := by
  unfold takeRowPlace; cases rowNumbers.find? fun k => k.val == a <;> (try rfl); simp only; simp only [withLink_ite]; rfl

theorem takePalette_setLink (s : State) (l : ControlLink) (a : Nat) (c : RGB) :
    takePalette (s.setLink l) a c = (takePalette s a c).withLink l := by
  unfold takePalette; cases entryNamed a <;> rfl

theorem takeBannerSet_setLink (s : State) (l : ControlLink) (a b : Nat) :
    takeBannerSet (s.setLink l) a b = (takeBannerSet s a b).withLink l := by
  unfold takeBannerSet; simp only [withLink_ite]; rfl

theorem takeGlyphLoad_setLink (s : State) (l : ControlLink) (a b : Nat) (c : List Byte) :
    takeGlyphLoad (s.setLink l) a b c = (takeGlyphLoad s a b c).withLink l := by
  unfold takeGlyphLoad; simp only [State.setLink_cmp]; simp only [withLink_ite]; rfl

theorem takeGlyphDrop_setLink (s : State) (l : ControlLink) (a : Nat) :
    takeGlyphDrop (s.setLink l) a = (takeGlyphDrop s a).withLink l := by
  unfold takeGlyphDrop
  simp only [State.setLink_cmp, show (s.setLink l).references a = s.references a from rfl]
  simp only [withLink_ite]; rfl

theorem takeGlyphClear_setLink (s : State) (l : ControlLink) :
    takeGlyphClear (s.setLink l) = (takeGlyphClear s).withLink l := by
  unfold takeGlyphClear; simp only [show (s.setLink l).storeInUse = s.storeInUse from rfl]; simp only [withLink_ite]; rfl

theorem takeCompositorRead_setLink (s : State) (l : ControlLink) (a : Nat) :
    takeCompositorRead (s.setLink l) a = (takeCompositorRead s a).withLink l := by
  by_cases h : 4095 < a <;> simp only [takeCompositorRead, h, if_true, if_false] <;> rfl

theorem takeSlotOpen_setLink (s : State) (l : ControlLink) (a b c : Nat) :
    takeSlotOpen (s.setLink l) a b c = (takeSlotOpen s a b c).withLink l := by
  unfold takeSlotOpen
  cases slotNamed a with
  | none => rfl
  | some n =>
    simp only [State.setLink_slot, State.setLink_rq]
    split
    · rfl
    · split
      · rfl
      · cases findEntry s.rq.entries b with
        | none => rfl
        | some e => simp only [setSlot_setLink]; simp only [withLink_ite]; rfl

theorem takeSlotData_setLink (s : State) (l : ControlLink) (a b : Nat) (c : List Byte) :
    takeSlotData (s.setLink l) a b c = (takeSlotData s a b c).withLink l := by
  unfold takeSlotData
  cases slotNamed a with
  | none => rfl
  | some n =>
    simp only [State.setLink_slot, setSlot_setLink]
    simp only [withLink_ite]; rfl

theorem takeSlotSeal_setLink (s : State) (l : ControlLink) (a : Nat) :
    takeSlotSeal (s.setLink l) a = (takeSlotSeal s a).withLink l := by
  unfold takeSlotSeal
  cases slotNamed a with
  | none => rfl
  | some n =>
    simp only [State.setLink_slot, setSlot_setLink]
    split
    · rfl
    · cases (s.slot n).missing <;> rfl

theorem takeSlotDiscard_setLink (s : State) (l : ControlLink) (a : Nat) :
    takeSlotDiscard (s.setLink l) a = (takeSlotDiscard s a).withLink l := by
  unfold takeSlotDiscard
  cases slotNamed a with
  | none => rfl
  | some n =>
    simp only [State.setLink_slot, setSlot_setLink]
    cases (s.slot n).state <;> cases (s.slot n).held <;> rfl

theorem takeSlotRead_setLink (s : State) (l : ControlLink) (a : Nat) :
    takeSlotRead (s.setLink l) a = (takeSlotRead s a).withLink l := by
  cases h : slotNamed a <;> simp only [takeSlotRead, h, State.setLink_slot] <;> rfl

theorem takeSync_setLink (s : State) (l : ControlLink) (a : Nat) :
    takeSync (s.setLink l) a = (takeSync s a).withLink l := by
  unfold takeSync
  simp only [State.setLink_tr]
  cases s.tr.state <;> simp only [refuse_setLink, setTr_setLink, rebuild_setLink, accept_setLink]
  · split_ifs <;> rfl
  · simp only [syncRunning, State.setLink_tr, setTr_setLink, rebuild_setLink]
    simp only [withLink_ite]; rfl
  · simp only [syncRunning, State.setLink_tr, setTr_setLink, rebuild_setLink]
    simp only [withLink_ite]; rfl

theorem takeStart_setLink (s : State) (l : ControlLink) (a : Nat) :
    takeStart (s.setLink l) a = (takeStart s a).withLink l := by
  unfold takeStart
  simp only [State.setLink_tr, show startEntry (s.setLink l) a = startEntry s a from rfl, cue_setLink]
  split
  · rfl
  · cases startEntry s a <;> rfl

theorem takePause_setLink (s : State) (l : ControlLink) :
    takePause (s.setLink l) = (takePause s).withLink l := by
  unfold takePause; simp only [State.setLink_tr, setTr_setLink]; simp only [withLink_ite]; rfl

theorem takeResume_setLink (s : State) (l : ControlLink) :
    takeResume (s.setLink l) = (takeResume s).withLink l := by
  unfold takeResume; simp only [State.setLink_tr, setTr_setLink, rebuild_setLink]; simp only [withLink_ite]; rfl

theorem takeRate_setLink (s : State) (l : ControlLink) (a : Nat) :
    takeRate (s.setLink l) a = (takeRate s a).withLink l := by
  rfl

theorem takeKey_setLink (s : State) (l : ControlLink) (v : Int) :
    takeKey (s.setLink l) v = (takeKey s v).withLink l := by
  rfl

theorem takeStop_setLink (s : State) (l : ControlLink) (a : Nat) :
    takeStop (s.setLink l) a = (takeStop s a).withLink l := by
  unfold takeStop
  simp only [State.setLink_tr, enterResult_setLink, closeLanes_setLink, finish_setLink]
  simp only [withLink_ite]; rfl

theorem takeTransportSet_setLink (s : State) (l : ControlLink) (a b c d e : Nat) :
    takeTransportSet (s.setLink l) a b c d e = (takeTransportSet s a b c d e).withLink l := by
  unfold takeTransportSet
  simp only [State.setLink_tr, setTr_setLink, autoAdvance_setLink]
  simp only [withLink_ite]; rfl

theorem takeTransportRead_setLink (s : State) (l : ControlLink) :
    takeTransportRead (s.setLink l) = (takeTransportRead s).withLink l := by
  rfl

/-- A request but ATTENTION_ACK is answered alike whatever the control link holds. -/
theorem handle_setLink (s : State) (l : ControlLink) (r : Request) (h : ∀ x, r ≠ .attentionAck x) :
    handle (s.setLink l) r = (handle s r).withLink l := by
  cases r <;> first
    | exact absurd rfl (h _)
    | rfl
    | simp only [handle, takePadAdmit_setLink, takePadRelease_setLink, takePadRead_setLink, takePadBus_setLink, takeResolve_setLink, takeQueueAdd_setLink, takeQueueMove_setLink, takeQueueCancel_setLink, takeQueueRead_setLink, takeHistoryRead_setLink, takePolicy_setLink, takeAttentionMask_setLink, takeMicSet_setLink, takeMicRead_setLink, takeBind_setLink, takeScoreSet_setLink, takeLaneRead_setLink, takeBandMap_setLink, takeRowPlace_setLink, takePalette_setLink, takeBannerSet_setLink, takeGlyphLoad_setLink, takeGlyphDrop_setLink, takeGlyphClear_setLink, takeCompositorRead_setLink, takeSlotOpen_setLink, takeSlotData_setLink, takeSlotSeal_setLink, takeSlotDiscard_setLink, takeSlotRead_setLink, takeSync_setLink, takeStart_setLink, takePause_setLink, takeResume_setLink, takeStop_setLink, takeTransportSet_setLink]

/-- A request but ATTENTION_ACK sent over a free link: what its owner answers, with the reply formed. -/
theorem sendRequest_taken (s : State) (tag : Byte) (r : Request) (s' : State) (code : ResultCode) (data : List Byte)
    (h : LinkFree s) (hr : ∀ x, r ≠ .attentionAck x) (hk : r.keepsLength = true) (hl : r.payload.length ≤ 1100)
    (ha : handle s r = ⟨s', code, data⟩) (hs : s'.link = s.link) :
    sendRequest tag r s = .next (s'.answered (r.message tag) code data) := by
  refine sendRequest_free s tag r s' code data h hk hl ?_
  rw [State.holding, handle_setLink s _ r hr, ha, State.holding, hs]
  rfl

end Sys2Proof.Machine
end

