-- ==== Sys2Proof/Laws/Events.lean ====
section
/-! SUPPORT. What the shared events leave alone: cueing and finishing a song, and the parts of a block completion
(R74, R76, R96, R102). -/

namespace Sys2Proof.Machine

/-! ## Auto-advance (R74) -/

/-- Everything auto-advance can do: nothing, or cue the STAGED entry at position 1. -/
theorem autoAdvance_cases (s : State) :
    s.autoAdvance = s ∨ ∃ e, s.tr.state = .idle ∧ s.tr.autoAdvance = true ∧ (waiting s.rq.entries).head? = some e ∧
      e.state = .staged ∧ s.autoAdvance = s.cue e := by
  unfold State.autoAdvance
  split
  · rename_i h
    cases hw : waiting s.rq.entries with
    | nil => exact .inl rfl
    | cons e rest =>
      simp only
      split
      · rename_i he; exact .inr ⟨e, h.1, h.2, rfl, he, rfl⟩
      · exact .inl rfl
  · exact .inl rfl

theorem autoAdvance_none (s : State) (h : s.tr.state ≠ .idle ∨ s.tr.autoAdvance = false) : s.autoAdvance = s := by
  rcases autoAdvance_cases s with h1 | ⟨e, h1, h2, _⟩
  · exact h1
  · rcases h with h | h
    · exact absurd h1 h
    · simp [h] at h2

/-! ## Cueing and finishing (R74, R76, R96) -/

@[simp] theorem cue_pending (s : State) (e : Entry) : (s.cue e).pending = s.pending := by
  unfold State.cue; split <;> simp
@[simp] theorem cue_resetLow (s : State) (e : Entry) : (s.cue e).resetLow = s.resetLow := by
  unfold State.cue; split <;> simp
@[simp] theorem cue_blocks (s : State) (e : Entry) : (s.cue e).blocks = s.blocks := by
  unfold State.cue; split <;> simp
@[simp] theorem cue_draws (s : State) (e : Entry) : (s.cue e).draws = s.draws := by
  unfold State.cue; split <;> simp
@[simp] theorem cue_mfe (s : State) (e : Entry) : (s.cue e).mfe = s.mfe := by
  unfold State.cue; split <;> simp
@[simp] theorem cue_cmp (s : State) (e : Entry) : (s.cue e).cmp = s.cmp := by
  unfold State.cue; split <;> simp
@[simp] theorem cue_link (s : State) (e : Entry) : (s.cue e).link = s.link := by
  unfold State.cue; split <;> simp

@[simp] theorem autoAdvance_pending (s : State) : (s.autoAdvance).pending = s.pending := by
  unfold State.autoAdvance; split <;> (try split) <;> (try split) <;> simp
@[simp] theorem autoAdvance_resetLow (s : State) : (s.autoAdvance).resetLow = s.resetLow := by
  unfold State.autoAdvance; split <;> (try split) <;> (try split) <;> simp
@[simp] theorem autoAdvance_blocks (s : State) : (s.autoAdvance).blocks = s.blocks := by
  unfold State.autoAdvance; split <;> (try split) <;> (try split) <;> simp
@[simp] theorem autoAdvance_draws (s : State) : (s.autoAdvance).draws = s.draws := by
  unfold State.autoAdvance; split <;> (try split) <;> (try split) <;> simp
@[simp] theorem autoAdvance_mfe (s : State) : (s.autoAdvance).mfe = s.mfe := by
  unfold State.autoAdvance; split <;> (try split) <;> (try split) <;> simp
@[simp] theorem autoAdvance_cmp (s : State) : (s.autoAdvance).cmp = s.cmp := by
  unfold State.autoAdvance; split <;> (try split) <;> (try split) <;> simp
@[simp] theorem autoAdvance_link (s : State) : (s.autoAdvance).link = s.link := by
  unfold State.autoAdvance; split <;> (try split) <;> (try split) <;> simp

@[simp] theorem closeLanes_pending (s : State) (k : FinishKind) : (s.closeLanes k).pending = s.pending := by
  rfl
@[simp] theorem closeLanes_resetLow (s : State) (k : FinishKind) : (s.closeLanes k).resetLow = s.resetLow := by
  rfl
@[simp] theorem closeLanes_blocks (s : State) (k : FinishKind) : (s.closeLanes k).blocks = s.blocks := by
  rfl
@[simp] theorem closeLanes_draws (s : State) (k : FinishKind) : (s.closeLanes k).draws = s.draws := by
  rfl
@[simp] theorem closeLanes_mfe (s : State) (k : FinishKind) : (s.closeLanes k).mfe = s.mfe := by
  rfl
@[simp] theorem closeLanes_cmp (s : State) (k : FinishKind) : (s.closeLanes k).cmp = s.cmp := by
  rfl
@[simp] theorem closeLanes_link (s : State) (k : FinishKind) : (s.closeLanes k).link = s.link := by
  rfl
@[simp] theorem closeLanes_rq (s : State) (k : FinishKind) : (s.closeLanes k).rq = s.rq := by
  rfl
@[simp] theorem closeLanes_pbc (s : State) (k : FinishKind) : (s.closeLanes k).pbc = s.pbc := by
  rfl
@[simp] theorem closeLanes_slotA (s : State) (k : FinishKind) : (s.closeLanes k).slotA = s.slotA := by
  rfl
@[simp] theorem closeLanes_slotB (s : State) (k : FinishKind) : (s.closeLanes k).slotB = s.slotB := by
  rfl
@[simp] theorem closeLanes_tr (s : State) (k : FinishKind) : (s.closeLanes k).tr = s.tr := by
  rfl
@[simp] theorem closeLanes_llu (s : State) (k : FinishKind) : (s.closeLanes k).llu = s.llu := by
  rfl
@[simp] theorem closeLanes_att (s : State) (k : FinishKind) : (s.closeLanes k).att = s.att := by
  rfl

@[simp] theorem shelve_pending (s : State) (k : FinishKind) : (s.shelve k).pending = s.pending := by
  unfold State.shelve; split <;> rfl
@[simp] theorem shelve_resetLow (s : State) (k : FinishKind) : (s.shelve k).resetLow = s.resetLow := by
  unfold State.shelve; split <;> rfl
@[simp] theorem shelve_blocks (s : State) (k : FinishKind) : (s.shelve k).blocks = s.blocks := by
  unfold State.shelve; split <;> rfl
@[simp] theorem shelve_draws (s : State) (k : FinishKind) : (s.shelve k).draws = s.draws := by
  unfold State.shelve; split <;> rfl
@[simp] theorem shelve_mfe (s : State) (k : FinishKind) : (s.shelve k).mfe = s.mfe := by
  unfold State.shelve; split <;> rfl
@[simp] theorem shelve_cmp (s : State) (k : FinishKind) : (s.shelve k).cmp = s.cmp := by
  unfold State.shelve; split <;> rfl
@[simp] theorem shelve_link (s : State) (k : FinishKind) : (s.shelve k).link = s.link := by
  unfold State.shelve; split <;> rfl
@[simp] theorem shelve_slotA (s : State) (k : FinishKind) : (s.shelve k).slotA = s.slotA := by
  unfold State.shelve; split <;> rfl
@[simp] theorem shelve_slotB (s : State) (k : FinishKind) : (s.shelve k).slotB = s.slotB := by
  unfold State.shelve; split <;> rfl
@[simp] theorem shelve_tr (s : State) (k : FinishKind) : (s.shelve k).tr = s.tr := by
  unfold State.shelve; split <;> rfl
@[simp] theorem shelve_su (s : State) (k : FinishKind) : (s.shelve k).su = s.su := by
  unfold State.shelve; split <;> rfl
@[simp] theorem shelve_llu (s : State) (k : FinishKind) : (s.shelve k).llu = s.llu := by
  unfold State.shelve; split <;> rfl

@[simp] theorem releaseSlot_pending (s : State) : (s.releaseSlot).pending = s.pending := by
  unfold State.releaseSlot; split <;> simp
@[simp] theorem releaseSlot_resetLow (s : State) : (s.releaseSlot).resetLow = s.resetLow := by
  unfold State.releaseSlot; split <;> simp
@[simp] theorem releaseSlot_blocks (s : State) : (s.releaseSlot).blocks = s.blocks := by
  unfold State.releaseSlot; split <;> simp
@[simp] theorem releaseSlot_draws (s : State) : (s.releaseSlot).draws = s.draws := by
  unfold State.releaseSlot; split <;> simp
@[simp] theorem releaseSlot_mfe (s : State) : (s.releaseSlot).mfe = s.mfe := by
  unfold State.releaseSlot; split <;> simp
@[simp] theorem releaseSlot_cmp (s : State) : (s.releaseSlot).cmp = s.cmp := by
  unfold State.releaseSlot; split <;> simp
@[simp] theorem releaseSlot_link (s : State) : (s.releaseSlot).link = s.link := by
  unfold State.releaseSlot; split <;> simp
@[simp] theorem releaseSlot_rq (s : State) : (s.releaseSlot).rq = s.rq := by
  unfold State.releaseSlot; split <;> simp
@[simp] theorem releaseSlot_pbc (s : State) : (s.releaseSlot).pbc = s.pbc := by
  unfold State.releaseSlot; split <;> simp
@[simp] theorem releaseSlot_tr (s : State) : (s.releaseSlot).tr = s.tr := by
  unfold State.releaseSlot; split <;> simp
@[simp] theorem releaseSlot_su (s : State) : (s.releaseSlot).su = s.su := by
  unfold State.releaseSlot; split <;> simp
@[simp] theorem releaseSlot_llu (s : State) : (s.releaseSlot).llu = s.llu := by
  unfold State.releaseSlot; split <;> simp
@[simp] theorem releaseSlot_att (s : State) : (s.releaseSlot).att = s.att := by
  unfold State.releaseSlot; split <;> simp

@[simp] theorem finishSong_pending (s : State) (k : FinishKind) : (s.finishSong k).pending = s.pending := by
  simp [State.finishSong]
@[simp] theorem finishSong_resetLow (s : State) (k : FinishKind) : (s.finishSong k).resetLow = s.resetLow := by
  simp [State.finishSong]
@[simp] theorem finishSong_blocks (s : State) (k : FinishKind) : (s.finishSong k).blocks = s.blocks := by
  simp [State.finishSong]
@[simp] theorem finishSong_draws (s : State) (k : FinishKind) : (s.finishSong k).draws = s.draws := by
  simp [State.finishSong]
@[simp] theorem finishSong_mfe (s : State) (k : FinishKind) : (s.finishSong k).mfe = s.mfe := by
  simp [State.finishSong]
@[simp] theorem finishSong_cmp (s : State) (k : FinishKind) : (s.finishSong k).cmp = s.cmp := by
  simp [State.finishSong]
@[simp] theorem finishSong_link (s : State) (k : FinishKind) : (s.finishSong k).link = s.link := by
  simp [State.finishSong]

@[simp] theorem finish_pending (s : State) (k : FinishKind) : (s.finish k).pending = s.pending := by
  simp [State.finish]
@[simp] theorem finish_resetLow (s : State) (k : FinishKind) : (s.finish k).resetLow = s.resetLow := by
  simp [State.finish]
@[simp] theorem finish_blocks (s : State) (k : FinishKind) : (s.finish k).blocks = s.blocks := by
  simp [State.finish]
@[simp] theorem finish_draws (s : State) (k : FinishKind) : (s.finish k).draws = s.draws := by
  simp [State.finish]
@[simp] theorem finish_mfe (s : State) (k : FinishKind) : (s.finish k).mfe = s.mfe := by
  simp [State.finish]
@[simp] theorem finish_cmp (s : State) (k : FinishKind) : (s.finish k).cmp = s.cmp := by
  simp [State.finish]
@[simp] theorem finish_link (s : State) (k : FinishKind) : (s.finish k).link = s.link := by
  simp [State.finish]

@[simp] theorem resultEntry_pending (s : State) (k : FinishKind) : (s.resultEntry k).pending = s.pending := rfl
@[simp] theorem resultEntry_resetLow (s : State) (k : FinishKind) : (s.resultEntry k).resetLow = s.resetLow := rfl
@[simp] theorem resultEntry_blocks (s : State) (k : FinishKind) : (s.resultEntry k).blocks = s.blocks := rfl
@[simp] theorem resultEntry_draws (s : State) (k : FinishKind) : (s.resultEntry k).draws = s.draws := rfl
@[simp] theorem resultEntry_mfe (s : State) (k : FinishKind) : (s.resultEntry k).mfe = s.mfe := rfl
@[simp] theorem resultEntry_cmp (s : State) (k : FinishKind) : (s.resultEntry k).cmp = s.cmp := rfl
@[simp] theorem resultEntry_link (s : State) (k : FinishKind) : (s.resultEntry k).link = s.link := rfl
@[simp] theorem resultEntry_rq (s : State) (k : FinishKind) : (s.resultEntry k).rq = s.rq := rfl
@[simp] theorem resultEntry_slotA (s : State) (k : FinishKind) : (s.resultEntry k).slotA = s.slotA := rfl
@[simp] theorem resultEntry_slotB (s : State) (k : FinishKind) : (s.resultEntry k).slotB = s.slotB := rfl
@[simp] theorem resultEntry_pbc (s : State) (k : FinishKind) : (s.resultEntry k).pbc = s.pbc := rfl
@[simp] theorem resultEntry_tr (s : State) (k : FinishKind) : (s.resultEntry k).tr = s.tr.ended k := rfl
@[simp] theorem resultEntry_su (s : State) (k : FinishKind) : (s.resultEntry k).su = (s.closeLanes k).su := rfl
@[simp] theorem resultEntry_llu (s : State) (k : FinishKind) : (s.resultEntry k).llu = s.llu.emptied .results := rfl
@[simp] theorem resultEntry_att (s : State) (k : FinishKind) : (s.resultEntry k).att = s.att := rfl

@[simp] theorem finishAtOnce_pending (s : State) (k : FinishKind) : (s.finishAtOnce k).pending = s.pending := by
  unfold State.finishAtOnce; split <;> simp
@[simp] theorem finishAtOnce_resetLow (s : State) (k : FinishKind) : (s.finishAtOnce k).resetLow = s.resetLow := by
  unfold State.finishAtOnce; split <;> simp
@[simp] theorem finishAtOnce_blocks (s : State) (k : FinishKind) : (s.finishAtOnce k).blocks = s.blocks := by
  unfold State.finishAtOnce; split <;> simp
@[simp] theorem finishAtOnce_draws (s : State) (k : FinishKind) : (s.finishAtOnce k).draws = s.draws := by
  unfold State.finishAtOnce; split <;> simp
@[simp] theorem finishAtOnce_mfe (s : State) (k : FinishKind) : (s.finishAtOnce k).mfe = s.mfe := by
  unfold State.finishAtOnce; split <;> simp
@[simp] theorem finishAtOnce_cmp (s : State) (k : FinishKind) : (s.finishAtOnce k).cmp = s.cmp := by
  unfold State.finishAtOnce; split <;> simp
@[simp] theorem finishAtOnce_link (s : State) (k : FinishKind) : (s.finishAtOnce k).link = s.link := by
  unfold State.finishAtOnce; split <;> simp

@[simp] theorem enterResult_pending (s : State) (k : FinishKind) : (s.enterResult k).pending = s.pending := by
  simp [State.enterResult]
@[simp] theorem enterResult_resetLow (s : State) (k : FinishKind) : (s.enterResult k).resetLow = s.resetLow := by
  simp [State.enterResult]
@[simp] theorem enterResult_blocks (s : State) (k : FinishKind) : (s.enterResult k).blocks = s.blocks := by
  simp [State.enterResult]
@[simp] theorem enterResult_draws (s : State) (k : FinishKind) : (s.enterResult k).draws = s.draws := by
  simp [State.enterResult]
@[simp] theorem enterResult_mfe (s : State) (k : FinishKind) : (s.enterResult k).mfe = s.mfe := by
  simp [State.enterResult]
@[simp] theorem enterResult_cmp (s : State) (k : FinishKind) : (s.enterResult k).cmp = s.cmp := by
  simp [State.enterResult]
@[simp] theorem enterResult_link (s : State) (k : FinishKind) : (s.enterResult k).link = s.link := by
  simp [State.enterResult]

/-- Everything the finish owed after a stamp can do: the finish of a song that entered RESULT with a result interval of 0,
or nothing. -/
theorem finishOwed_cases (t : Transport) (s : State) :
    (∃ k, t.endKind = some k ∧ s.tr.resultInterval = 0 ∧ t.finishOwed s = s.finish k) ∨
    ((t.endKind = none ∨ s.tr.resultInterval ≠ 0) ∧ t.finishOwed s = s) := by
  unfold Transport.finishOwed
  cases h : t.endKind with
  | none => exact .inr ⟨.inl rfl, rfl⟩
  | some k =>
    by_cases h0 : s.tr.resultInterval = 0
    · exact .inl ⟨k, rfl, h0, if_pos h0⟩
    · exact .inr ⟨.inr h0, if_neg h0⟩

@[simp] theorem finishOwed_pending (t : Transport) (s : State) : (t.finishOwed s).pending = s.pending := by
  unfold Transport.finishOwed; split <;> simp
@[simp] theorem finishOwed_resetLow (t : Transport) (s : State) : (t.finishOwed s).resetLow = s.resetLow := by
  unfold Transport.finishOwed; split <;> simp
@[simp] theorem finishOwed_blocks (t : Transport) (s : State) : (t.finishOwed s).blocks = s.blocks := by
  unfold Transport.finishOwed; split <;> simp
@[simp] theorem finishOwed_draws (t : Transport) (s : State) : (t.finishOwed s).draws = s.draws := by
  unfold Transport.finishOwed; split <;> simp
@[simp] theorem finishOwed_mfe (t : Transport) (s : State) : (t.finishOwed s).mfe = s.mfe := by
  unfold Transport.finishOwed; split <;> simp
@[simp] theorem finishOwed_cmp (t : Transport) (s : State) : (t.finishOwed s).cmp = s.cmp := by
  unfold Transport.finishOwed; split <;> simp
@[simp] theorem finishOwed_link (t : Transport) (s : State) : (t.finishOwed s).link = s.link := by
  unfold Transport.finishOwed; split <;> simp

/-! ## The block completion (R102) -/

@[simp] theorem transportBlock_pending (s : State) : (transportBlock s).pending = s.pending := by
  cases h : s.tr.state <;> simp only [transportBlock, h] <;> (try split_ifs) <;> simp
@[simp] theorem transportBlock_resetLow (s : State) : (transportBlock s).resetLow = s.resetLow := by
  cases h : s.tr.state <;> simp only [transportBlock, h] <;> (try split_ifs) <;> simp
@[simp] theorem transportBlock_blocks (s : State) : (transportBlock s).blocks = s.blocks := by
  cases h : s.tr.state <;> simp only [transportBlock, h] <;> (try split_ifs) <;> simp
@[simp] theorem transportBlock_draws (s : State) : (transportBlock s).draws = s.draws := by
  cases h : s.tr.state <;> simp only [transportBlock, h] <;> (try split_ifs) <;> simp
@[simp] theorem transportBlock_mfe (s : State) : (transportBlock s).mfe = s.mfe := by
  cases h : s.tr.state <;> simp only [transportBlock, h] <;> (try split_ifs) <;> simp
@[simp] theorem transportBlock_cmp (s : State) : (transportBlock s).cmp = s.cmp := by
  cases h : s.tr.state <;> simp only [transportBlock, h] <;> (try split_ifs) <;> simp
@[simp] theorem transportBlock_link (s : State) : (transportBlock s).link = s.link := by
  cases h : s.tr.state <;> simp only [transportBlock, h] <;> (try split_ifs) <;> simp

@[simp] theorem micBlock_pending (s : State) (st : Stamp) (x : BlockInput) : (micBlock s st x).pending = s.pending := by
  simp [micBlock]
@[simp] theorem micBlock_resetLow (s : State) (st : Stamp) (x : BlockInput) : (micBlock s st x).resetLow = s.resetLow := by
  simp [micBlock]
@[simp] theorem micBlock_blocks (s : State) (st : Stamp) (x : BlockInput) : (micBlock s st x).blocks = s.blocks := by
  simp [micBlock]
@[simp] theorem micBlock_draws (s : State) (st : Stamp) (x : BlockInput) : (micBlock s st x).draws = s.draws := by
  simp [micBlock]
@[simp] theorem micBlock_rq (s : State) (st : Stamp) (x : BlockInput) : (micBlock s st x).rq = s.rq := by
  simp [micBlock]
@[simp] theorem micBlock_pbc (s : State) (st : Stamp) (x : BlockInput) : (micBlock s st x).pbc = s.pbc := by
  simp [micBlock]
@[simp] theorem micBlock_slotA (s : State) (st : Stamp) (x : BlockInput) : (micBlock s st x).slotA = s.slotA := by
  simp [micBlock]
@[simp] theorem micBlock_slotB (s : State) (st : Stamp) (x : BlockInput) : (micBlock s st x).slotB = s.slotB := by
  simp [micBlock]
@[simp] theorem micBlock_tr (s : State) (st : Stamp) (x : BlockInput) : (micBlock s st x).tr = s.tr := by
  simp [micBlock]
@[simp] theorem micBlock_su (s : State) (st : Stamp) (x : BlockInput) : (micBlock s st x).su = s.su := by
  simp [micBlock]
@[simp] theorem micBlock_llu (s : State) (st : Stamp) (x : BlockInput) : (micBlock s st x).llu = s.llu := by
  simp [micBlock]
@[simp] theorem micBlock_cmp (s : State) (st : Stamp) (x : BlockInput) : (micBlock s st x).cmp = s.cmp := by
  simp [micBlock]
@[simp] theorem micBlock_link (s : State) (st : Stamp) (x : BlockInput) : (micBlock s st x).link = s.link := by
  simp [micBlock]

@[simp] theorem scoringBlock_pending (s : State) : (scoringBlock s).pending = s.pending := by
  rfl
@[simp] theorem scoringBlock_resetLow (s : State) : (scoringBlock s).resetLow = s.resetLow := by
  rfl
@[simp] theorem scoringBlock_blocks (s : State) : (scoringBlock s).blocks = s.blocks := by
  rfl
@[simp] theorem scoringBlock_draws (s : State) : (scoringBlock s).draws = s.draws := by
  rfl
@[simp] theorem scoringBlock_rq (s : State) : (scoringBlock s).rq = s.rq := by
  rfl
@[simp] theorem scoringBlock_pbc (s : State) : (scoringBlock s).pbc = s.pbc := by
  rfl
@[simp] theorem scoringBlock_slotA (s : State) : (scoringBlock s).slotA = s.slotA := by
  rfl
@[simp] theorem scoringBlock_slotB (s : State) : (scoringBlock s).slotB = s.slotB := by
  rfl
@[simp] theorem scoringBlock_tr (s : State) : (scoringBlock s).tr = s.tr := by
  rfl
@[simp] theorem scoringBlock_mfe (s : State) : (scoringBlock s).mfe = s.mfe := by
  rfl
@[simp] theorem scoringBlock_llu (s : State) : (scoringBlock s).llu = s.llu := by
  rfl
@[simp] theorem scoringBlock_cmp (s : State) : (scoringBlock s).cmp = s.cmp := by
  rfl
@[simp] theorem scoringBlock_att (s : State) : (scoringBlock s).att = s.att := by
  rfl
@[simp] theorem scoringBlock_link (s : State) : (scoringBlock s).link = s.link := by
  rfl

/-! ## The last bit of a POLL or INVITE (R32, R216) -/

@[simp] theorem PadBus.downlinkSent_registry (p : PadBus) : p.downlinkSent.registry = p.registry := rfl
@[simp] theorem PadBus.downlinkSent_enabled (p : PadBus) : p.downlinkSent.enabled = p.enabled := rfl
@[simp] theorem PadBus.downlinkSent_roundCounter (p : PadBus) : p.downlinkSent.roundCounter = p.roundCounter := rfl
@[simp] theorem PadBus.downlinkSent_roundInFlight (p : PadBus) : p.downlinkSent.roundInFlight = p.roundInFlight := rfl
@[simp] theorem PadBus.downlinkSent_roundEnding (p : PadBus) : p.downlinkSent.roundEnding = p.roundEnding := rfl
@[simp] theorem PadBus.downlinkSent_pacingMark (p : PadBus) : p.downlinkSent.pacingMark = p.pacingMark := rfl
@[simp] theorem PadBus.downlinkSent_lastPolled (p : PadBus) : p.downlinkSent.lastPolled = p.lastPolled := rfl

/-- Everything the last bit can do to the bus: nothing, or turn an exchange being sent into one that awaits its answer. -/
theorem PadBus.downlinkSent_cases (p : PadBus) :
    (p.downlinkSent = p ∧ ∀ ex, p.exchange = some ex → ex.stage ≠ .sending) ∨
    ∃ ex, p.exchange = some ex ∧ ex.stage = .sending ∧
      p.downlinkSent = { p with exchange := some { ex with stage := .awaiting } } := by
  rcases p with ⟨_, _, _, _, _, _, _, _ | ex⟩
  · exact .inl ⟨rfl, fun ex h => nomatch h⟩
  · by_cases h : ex.stage = .sending
    · exact .inr ⟨ex, rfl, h, by simp [PadBus.downlinkSent, h]⟩
    · exact .inl ⟨by simp [PadBus.downlinkSent, h], fun ex' h' => by cases h'; exact h⟩

/-- Everything the drawing of the last bit can do: nothing where no POLL or INVITE is being sent; else one draw, by which
the exchange stays as it is or comes to await its answer. -/
theorem drawDownlink_cases (s : State) :
    (s.pbc.downlinkInFlight = false ∧ s.drawDownlink = s) ∨
    (s.pbc.downlinkInFlight = true ∧ ∃ p, s.drawDownlink = (s.setCounts s.blocks (s.draws + 1)).setPbc p ∧
      (Config.downlinkSent s.draws = true ∧ p = s.pbc.downlinkSent ∨ Config.downlinkSent s.draws = false ∧ p = s.pbc)) := by
  unfold State.drawDownlink
  cases hf : s.pbc.downlinkInFlight with
  | false => exact .inl ⟨rfl, rfl⟩
  | true =>
    refine .inr ⟨rfl, ?_⟩
    cases hd : Config.downlinkSent s.draws with
    | true => exact ⟨_, by rw [if_pos rfl, if_pos rfl]; rfl, .inl ⟨rfl, rfl⟩⟩
    | false => exact ⟨s.pbc, by rw [if_pos rfl]; rfl, .inr ⟨rfl, rfl⟩⟩

/-- What the drawing of the last bit leaves alone: the counts and the exchange's stage apart, everything. -/
theorem drawDownlink_eq (s : State) : ∃ n p, s.drawDownlink = (s.setCounts s.blocks n).setPbc p ∧
    p.registry = s.pbc.registry ∧ p.enabled = s.pbc.enabled ∧ p.roundCounter = s.pbc.roundCounter ∧
    p.pacingMark = s.pbc.pacingMark ∧ p.roundInFlight = s.pbc.roundInFlight := by
  rcases drawDownlink_cases s with ⟨_, h⟩ | ⟨_, p, h, ⟨_, rfl⟩ | ⟨_, rfl⟩⟩
  · exact ⟨s.draws, s.pbc, h, rfl, rfl, rfl, rfl, rfl⟩
  · exact ⟨_, _, h, rfl, rfl, rfl, rfl, rfl⟩
  · exact ⟨_, _, h, rfl, rfl, rfl, rfl, rfl⟩

/-! ## The pad bus at a block completion (R30 to R32) -/

theorem nextExchange_eq (s v : State) : ∃ p, s.nextExchange v = s.setPbc p ∧ p.registry = s.pbc.registry ∧
    p.enabled = s.pbc.enabled ∧ p.roundCounter = s.pbc.roundCounter ∧ p.pacingMark = s.pbc.pacingMark := by
  unfold State.nextExchange
  simp only
  split
  · exact ⟨_, rfl, rfl, rfl, rfl, rfl⟩
  · split <;> exact ⟨_, rfl, rfl, rfl, rfl, rfl⟩

/-- Everything the pad bus does at a block completion: the last bit of a POLL or INVITE being sent may leave, or it
begins a round, taking one draw. -/
theorem padBlock_eq (b s : State) (n : Nat) :
    (s.pbc.roundDue n = false ∧ padBlock b s n = s.drawDownlink) ∨
    (s.pbc.roundDue n = true ∧ ∃ p, padBlock b s n = (s.setCounts s.blocks (s.draws + 1)).setPbc p ∧
      p.registry = s.pbc.registry ∧ p.enabled = s.pbc.enabled ∧ p.roundCounter = (s.pbc.roundCounter + 1) % 4 ∧
      p.pacingMark = some n) := by
  by_cases h : s.pbc.roundDue n = true
  · refine .inr ⟨h, ?_⟩
    let s1 := State.setCounts (s.setPbc { s.pbc with
      pacingMark := some n, roundCounter := (s.pbc.roundCounter + 1) % 4, roundInFlight := true,
      roundEnding := false, lastPolled := 0 }) s.blocks (s.draws + 1)
    obtain ⟨p, hp, h1, h2, h3, h4⟩ := nextExchange_eq s1 (if Config.pollAfterTransport s.draws then s else b)
    refine ⟨p, ?_, h1, h2, h3, h4⟩
    rw [padBlock, if_pos h]
    exact hp.trans rfl
  · exact .inl ⟨by simpa using h, by rw [padBlock, if_neg h]⟩

/-- What the pad bus leaves alone at a block completion: everything but the draws and itself; and of itself the registry
and the enable. -/
theorem padBlock_frame (b s : State) (n : Nat) : ∃ d p, padBlock b s n = (s.setCounts s.blocks d).setPbc p ∧
    p.registry = s.pbc.registry ∧ p.enabled = s.pbc.enabled := by
  rcases padBlock_eq b s n with ⟨_, h⟩ | ⟨_, p, h, h1, h2, _⟩
  · obtain ⟨d, p, hd, h1, h2, _⟩ := drawDownlink_eq s
    exact ⟨d, p, h.trans hd, h1, h2⟩
  · exact ⟨_, p, h, h1, h2⟩

@[simp] theorem padBlock_pending (s : State) (b : State) (n : Nat) : (padBlock b s n).pending = s.pending := by
  obtain ⟨_, _, h, _⟩ := padBlock_frame b s n
  rw [h]
  rfl
@[simp] theorem padBlock_resetLow (s : State) (b : State) (n : Nat) : (padBlock b s n).resetLow = s.resetLow := by
  obtain ⟨_, _, h, _⟩ := padBlock_frame b s n
  rw [h]
  rfl
@[simp] theorem padBlock_blocks (s : State) (b : State) (n : Nat) : (padBlock b s n).blocks = s.blocks := by
  obtain ⟨_, _, h, _⟩ := padBlock_frame b s n
  rw [h]
  rfl
@[simp] theorem padBlock_rq (s : State) (b : State) (n : Nat) : (padBlock b s n).rq = s.rq := by
  obtain ⟨_, _, h, _⟩ := padBlock_frame b s n
  rw [h]
  rfl
@[simp] theorem padBlock_slotA (s : State) (b : State) (n : Nat) : (padBlock b s n).slotA = s.slotA := by
  obtain ⟨_, _, h, _⟩ := padBlock_frame b s n
  rw [h]
  rfl
@[simp] theorem padBlock_slotB (s : State) (b : State) (n : Nat) : (padBlock b s n).slotB = s.slotB := by
  obtain ⟨_, _, h, _⟩ := padBlock_frame b s n
  rw [h]
  rfl
@[simp] theorem padBlock_tr (s : State) (b : State) (n : Nat) : (padBlock b s n).tr = s.tr := by
  obtain ⟨_, _, h, _⟩ := padBlock_frame b s n
  rw [h]
  rfl
@[simp] theorem padBlock_mfe (s : State) (b : State) (n : Nat) : (padBlock b s n).mfe = s.mfe := by
  obtain ⟨_, _, h, _⟩ := padBlock_frame b s n
  rw [h]
  rfl
@[simp] theorem padBlock_su (s : State) (b : State) (n : Nat) : (padBlock b s n).su = s.su := by
  obtain ⟨_, _, h, _⟩ := padBlock_frame b s n
  rw [h]
  rfl
@[simp] theorem padBlock_llu (s : State) (b : State) (n : Nat) : (padBlock b s n).llu = s.llu := by
  obtain ⟨_, _, h, _⟩ := padBlock_frame b s n
  rw [h]
  rfl
@[simp] theorem padBlock_cmp (s : State) (b : State) (n : Nat) : (padBlock b s n).cmp = s.cmp := by
  obtain ⟨_, _, h, _⟩ := padBlock_frame b s n
  rw [h]
  rfl
@[simp] theorem padBlock_att (s : State) (b : State) (n : Nat) : (padBlock b s n).att = s.att := by
  obtain ⟨_, _, h, _⟩ := padBlock_frame b s n
  rw [h]
  rfl
@[simp] theorem padBlock_link (s : State) (b : State) (n : Nat) : (padBlock b s n).link = s.link := by
  obtain ⟨_, _, h, _⟩ := padBlock_frame b s n
  rw [h]
  rfl

@[simp] theorem padBlock_registry (s b : State) (n : Nat) : (padBlock b s n).pbc.registry = s.pbc.registry := by
  obtain ⟨_, _, h, h1, _⟩ := padBlock_frame b s n
  rw [h]
  exact h1
@[simp] theorem padBlock_enabled (s b : State) (n : Nat) : (padBlock b s n).pbc.enabled = s.pbc.enabled := by
  obtain ⟨_, _, h, _, h2⟩ := padBlock_frame b s n
  rw [h]
  exact h2

/-! ## The block completion, whole (R80, R92, R102) -/

/-- A song's end: the clock advanced, and RESULT entered with COMPLETED (R78, R94). -/
theorem transportBlock_songEnd (s : State) (h : s.tr.endsSong = true) :
    transportBlock s = (s.setTr s.tr.advance).resultEntry .completed := by
  cases hs : s.tr.state <;> simp [transportBlock, Transport.endsSong, Transport.runs, hs] at h ⊢ <;> intro h1 <;>
    exact absurd h h1

/-- A hold limit reached: RESULT entered with ABORTED (R87). -/
theorem transportBlock_holdLimit (s : State) (h : s.tr.givesUp = true) :
    transportBlock s = (s.setTr { s.tr with holdCount := s.tr.holdCount + 1 }).resultEntry .aborted := by
  cases hs : s.tr.state <;> simp [transportBlock, Transport.givesUp, hs] at h ⊢
  intro h1
  omega

@[simp] theorem recordsTaken_pending (s : State) (x : BlockInput) : (recordsTaken x s).pending = s.pending := by
  simp [recordsTaken]
@[simp] theorem recordsTaken_resetLow (s : State) (x : BlockInput) : (recordsTaken x s).resetLow = s.resetLow := by
  simp [recordsTaken]
@[simp] theorem recordsTaken_blocks (s : State) (x : BlockInput) : (recordsTaken x s).blocks = s.blocks := by
  simp [recordsTaken]
@[simp] theorem recordsTaken_draws (s : State) (x : BlockInput) : (recordsTaken x s).draws = s.draws := by
  simp [recordsTaken]
@[simp] theorem recordsTaken_cmp (s : State) (x : BlockInput) : (recordsTaken x s).cmp = s.cmp := by
  simp [recordsTaken]
@[simp] theorem recordsTaken_link (s : State) (x : BlockInput) : (recordsTaken x s).link = s.link := by
  simp [recordsTaken]
@[simp] theorem recordsTaken_rq (s : State) (x : BlockInput) : (recordsTaken x s).rq = (transportBlock s).rq := by
  simp [recordsTaken]
@[simp] theorem recordsTaken_pbc (s : State) (x : BlockInput) : (recordsTaken x s).pbc = (transportBlock s).pbc := by
  simp [recordsTaken]
@[simp] theorem recordsTaken_slotA (s : State) (x : BlockInput) : (recordsTaken x s).slotA = (transportBlock s).slotA := by
  simp [recordsTaken]
@[simp] theorem recordsTaken_slotB (s : State) (x : BlockInput) : (recordsTaken x s).slotB = (transportBlock s).slotB := by
  simp [recordsTaken]
@[simp] theorem recordsTaken_tr (s : State) (x : BlockInput) : (recordsTaken x s).tr = (transportBlock s).tr := by
  simp [recordsTaken]
@[simp] theorem recordsTaken_llu (s : State) (x : BlockInput) : (recordsTaken x s).llu = (transportBlock s).llu := by
  simp [recordsTaken]
@[simp] theorem recordsTaken_mfe (s : State) (x : BlockInput) :
    (recordsTaken x s).mfe = { s.mfe with
      channels := s.mfe.channels.mapIdx fun i c => c.block s.mfe (transportBlock s).tr.stamp (x.get i) } := by
  simp [recordsTaken, micBlock]

@[simp] theorem blockEvent_pending (s : State) (x : BlockInput) : (blockEvent x s).pending = s.pending := by
  simp [blockEvent]
@[simp] theorem blockEvent_resetLow (s : State) (x : BlockInput) : (blockEvent x s).resetLow = s.resetLow := by
  simp [blockEvent]
@[simp] theorem blockEvent_cmp (s : State) (x : BlockInput) : (blockEvent x s).cmp = s.cmp := by
  simp [blockEvent]
@[simp] theorem blockEvent_link (s : State) (x : BlockInput) : (blockEvent x s).link = s.link := by
  simp [blockEvent]
@[simp] theorem blockEvent_blocks (s : State) (x : BlockInput) : (blockEvent x s).blocks = s.blocks + 1 := by
  simp [blockEvent]
@[simp] theorem blockEvent_mfe (s : State) (x : BlockInput) : (blockEvent x s).mfe = (recordsTaken x s).mfe := by
  simp [blockEvent]
@[simp] theorem blockEvent_rq (s : State) (x : BlockInput) :
    (blockEvent x s).rq = (s.tr.finishOwed (recordsTaken x s)).rq := by
  simp [blockEvent]
@[simp] theorem blockEvent_slotA (s : State) (x : BlockInput) :
    (blockEvent x s).slotA = (s.tr.finishOwed (recordsTaken x s)).slotA := by
  simp [blockEvent]
@[simp] theorem blockEvent_slotB (s : State) (x : BlockInput) :
    (blockEvent x s).slotB = (s.tr.finishOwed (recordsTaken x s)).slotB := by
  simp [blockEvent]
@[simp] theorem blockEvent_tr (s : State) (x : BlockInput) :
    (blockEvent x s).tr = (s.tr.finishOwed (recordsTaken x s)).tr := by
  simp [blockEvent]
@[simp] theorem blockEvent_su (s : State) (x : BlockInput) :
    (blockEvent x s).su = (s.tr.finishOwed (recordsTaken x s)).su := by
  simp [blockEvent]
@[simp] theorem blockEvent_llu (s : State) (x : BlockInput) :
    (blockEvent x s).llu = (s.tr.finishOwed (recordsTaken x s)).llu := by
  simp [blockEvent]
@[simp] theorem blockEvent_att (s : State) (x : BlockInput) :
    (blockEvent x s).att = (s.tr.finishOwed (recordsTaken x s)).att := by
  simp [blockEvent]
@[simp] theorem blockEvent_registry (s : State) (x : BlockInput) :
    (blockEvent x s).pbc.registry = (s.tr.finishOwed (recordsTaken x s)).pbc.registry := by
  simp [blockEvent]
@[simp] theorem blockEvent_enabled (s : State) (x : BlockInput) :
    (blockEvent x s).pbc.enabled = (s.tr.finishOwed (recordsTaken x s)).pbc.enabled := by
  simp [blockEvent]

end Sys2Proof.Machine
end

