-- ==== Sys2Proof/Laws/Memory.lean ====
section
/-! SUPPORT. The image memory: every operation keeps its canonical form, and a byte reads back as it was written
(R50, R53, R54). -/

namespace Sys2Proof.Machine

theorem memWfAbove_mono (m : ImageMemory) (lo hi : Nat) (h : lo ≤ hi) (hw : memWfAbove hi m = true) :
    memWfAbove lo m = true := by
  cases m with
  | nil => rfl
  | cons c rest =>
    simp only [memWfAbove, Bool.and_eq_true, decide_eq_true_eq] at hw ⊢
    exact ⟨⟨⟨by omega, hw.1.1.2⟩, hw.1.2⟩, hw.2⟩

/-- Below the bound of a canonical memory every address reads as zero. -/
theorem memRead_below (m : ImageMemory) (lo a : Nat) (hw : memWfAbove lo m = true) (ha : a < lo) :
    memRead m a = 0 := by
  induction m generalizing lo with
  | nil => rfl
  | cons c rest ih =>
    simp only [memWfAbove, Bool.and_eq_true, decide_eq_true_eq] at hw
    obtain ⟨⟨⟨h1, _⟩, _⟩, h4⟩ := hw
    have : c.1 ≠ a := by omega
    simp only [memRead, this, if_false]
    exact ih (c.1 + 1) h4 (by omega)

theorem memWrite_wfAbove (m : ImageMemory) (lo a : Nat) (v : Byte) (hw : memWfAbove lo m = true) (hlo : lo ≤ a)
    (ha : a < imageBytes) : memWfAbove lo (memWrite m a v) = true := by
  induction m generalizing lo with
  | nil =>
    simp only [memWrite]
    split
    · rfl
    · rename_i hv
      simp [memWfAbove, hlo, ha]; simpa using hv
  | cons c rest ih =>
    obtain ⟨k, w⟩ := c
    simp only [memWfAbove, Bool.and_eq_true, decide_eq_true_eq] at hw
    obtain ⟨⟨⟨h1, h2⟩, h3⟩, h4⟩ := hw
    simp only [memWrite]
    split
    · split <;> simp_all [memWfAbove]
    · split
      · rename_i hak
        split
        · exact memWfAbove_mono rest lo (k + 1) (by omega) h4
        · simp_all [memWfAbove]
      · simp only [memWfAbove, Bool.and_eq_true, decide_eq_true_eq]
        exact ⟨⟨⟨h1, h2⟩, h3⟩, ih (k + 1) h4 (by omega)⟩

/-- A write keeps the canonical form. -/
theorem memWrite_wf (m : ImageMemory) (a : Nat) (v : Byte) (hw : Memory.wf m = true) (ha : a < imageBytes) :
    Memory.wf (memWrite m a v) = true := memWrite_wfAbove m 0 a v hw (Nat.zero_le a) ha

theorem memRead_memWrite_above (m : ImageMemory) (lo a b : Nat) (v : Byte) (hw : memWfAbove lo m = true) :
    memRead (memWrite m a v) b = if b = a then v else memRead m b := by
  induction m generalizing lo with
  | nil =>
    simp only [memWrite]
    by_cases hb : b = a
    · subst hb; split <;> simp_all [memRead]
    · have hab : ¬ a = b := fun h => hb h.symm
      split <;> simp [memRead, hab]
  | cons c rest ih =>
    obtain ⟨k, w⟩ := c
    simp only [memWfAbove, Bool.and_eq_true, decide_eq_true_eq] at hw
    obtain ⟨⟨⟨h1, h2⟩, h3⟩, h4⟩ := hw
    have hz : ∀ x, x < k + 1 → memRead rest x = 0 := fun x hx => memRead_below rest (k + 1) x h4 hx
    simp only [memWrite]
    split
    · rename_i hak
      have hne : k ≠ a := by omega
      by_cases hb : b = a
      · subst hb
        have h0 := hz b (by omega)
        split
        · rename_i hv; simp [memRead, hne, h0, hv]
        · simp [memRead]
      · have hab : ¬ a = b := fun h => hb h.symm
        split <;> simp [memRead, hb, hab]
    · split
      · rename_i hak
        subst hak
        by_cases hb : b = a
        · subst hb
          split <;> simp_all [memRead]
        · have hab : ¬ a = b := fun h => hb h.symm
          split <;> simp [memRead, hb, hab]
      · rename_i h5 h6
        simp only [memRead]
        by_cases hkb : k = b
        · subst hkb
          have : ¬ k = a := fun h => h6 h.symm
          simp [this]
        · simp [hkb, ih (k + 1) h4]

/-- A byte reads back as it was written, and every other byte reads as before. -/
theorem memRead_memWrite (m : ImageMemory) (a b : Nat) (v : Byte) (hw : Memory.wf m = true) :
    memRead (memWrite m a v) b = if b = a then v else memRead m b := memRead_memWrite_above m 0 a b v hw

/-- A run of bytes written within the image memory keeps the canonical form. -/
theorem memWriteList_wf (bytes : List Byte) (m : ImageMemory) (a : Nat) (hw : Memory.wf m = true)
    (ha : a + bytes.length ≤ imageBytes) : Memory.wf (memWriteList m a bytes) = true := by
  induction bytes generalizing m a with
  | nil => exact hw
  | cons b rest ih =>
    simp only [List.length_cons] at ha
    exact ih _ _ (memWrite_wf m a b hw (by omega)) (by omega)

/-- What a run of bytes written leaves at every address. -/
theorem memRead_memWriteList (bytes : List Byte) (m : ImageMemory) (a b : Nat) (hw : Memory.wf m = true)
    (ha : a + bytes.length ≤ imageBytes) :
    memRead (memWriteList m a bytes) b =
      if a ≤ b ∧ b < a + bytes.length then bytes.getD (b - a) 0 else memRead m b := by
  induction bytes generalizing m a with
  | nil => simp [memWriteList]
  | cons c rest ih =>
    simp only [List.length_cons] at ha
    simp only [memWriteList]
    rw [ih _ _ (memWrite_wf m a c hw (by omega)) (by omega), memRead_memWrite m a b c hw]
    by_cases hab : b = a
    · subst hab; simp
    · by_cases h : a ≤ b ∧ b < a + (rest.length + 1)
      · have : a + 1 ≤ b ∧ b < a + 1 + rest.length := by omega
        obtain ⟨n, rfl⟩ : ∃ n, b = a + 1 + n := ⟨b - (a + 1), by omega⟩
        rw [if_pos this, List.length_cons, if_pos h, show a + 1 + n - (a + 1) = n by omega,
          show a + 1 + n - a = n + 1 by omega, List.getD_cons_succ]
      · have : ¬ (a + 1 ≤ b ∧ b < a + 1 + rest.length) := by omega
        rw [if_neg this, List.length_cons, if_neg h, if_neg hab]

theorem memClearBelow_wfAbove (m : ImageMemory) (lo n : Nat) (hw : memWfAbove lo m = true) :
    memWfAbove lo (memClearBelow m n) = true := by
  induction m generalizing lo with
  | nil => rfl
  | cons c rest ih =>
    simp only [memWfAbove, Bool.and_eq_true, decide_eq_true_eq] at hw
    obtain ⟨⟨⟨h1, h2⟩, h3⟩, h4⟩ := hw
    have ih' := ih (c.1 + 1) h4
    simp only [memClearBelow, List.filter_cons] at ih' ⊢
    split
    · simp only [memWfAbove, Bool.and_eq_true, decide_eq_true_eq]
      exact ⟨⟨⟨h1, h2⟩, h3⟩, ih'⟩
    · exact memWfAbove_mono _ lo (c.1 + 1) (by omega) ih'

/-- Clearing the bytes below a bound keeps the canonical form. -/
theorem memClearBelow_wf (m : ImageMemory) (n : Nat) (hw : Memory.wf m = true) :
    Memory.wf (memClearBelow m n) = true := memClearBelow_wfAbove m 0 n hw

/-- Clearing the bytes below a bound zeroes them and no other byte. -/
theorem memRead_memClearBelow (m : ImageMemory) (n a : Nat) :
    memRead (memClearBelow m n) a = if a < n then 0 else memRead m a := by
  induction m with
  | nil => simp [memClearBelow, memRead]
  | cons c rest ih =>
    simp only [memClearBelow, List.filter_cons] at ih ⊢
    by_cases hc : n ≤ c.1
    · simp only [hc, decide_true, if_true, memRead]
      by_cases h : c.1 = a
      · simp [h, show ¬ a < n by omega]
      · simp [h, ih]
    · simp only [hc, decide_false, Bool.false_eq_true, if_false, ih, memRead]
      by_cases ha : a < n
      · simp [ha]
      · simp [ha, show ¬ c.1 = a by omega]

/-- The memories of the state after reset have the canonical form. -/
theorem reset_images_wf : Memory.wf State.reset.slotA.image = true ∧ Memory.wf State.reset.slotB.image = true := by
  decide

end Sys2Proof.Machine
end

