-- ==== Sys2Proof/Tests/Slice0.lean ====
section
/-! SUPPORT. Tests: ill-formed commands are refused by the well-formedness check; the manual's worked examples
and tables hold of the model; and, for every statement that has hypotheses, a state and operands that meet
them. Expected values are the manual's. -/

namespace Sys2Proof.Tests

open Sys2Proof Sys2Proof.Machine

-- One theorem at a time: checking them side by side takes more threads than the memory bound leaves.
set_option Elab.async false

/-! ## The well-formedness check refuses what cannot arise -/

theorem test_wf_echo : (Instr.echo 1 (List.replicate 1101 0)).wellFormed = false := by decide +kernel
theorem test_wf_resolve_found : (Instr.resolveFound 1 1 1 (List.replicate 256 1)).wellFormed = false := by decide +kernel
theorem test_wf_resolve_absent : (Instr.resolveAbsent 1 1 1 (List.replicate 256 1)).wellFormed = false := by decide +kernel
theorem test_wf_slot_data_empty : (Instr.slotData 1 0 0 []).wellFormed = false := by decide
theorem test_wf_slot_data_long : (Instr.slotData 1 0 0 (List.replicate 1025 0)).wellFormed = false := by decide +kernel
theorem test_wf_glyph_load : (Instr.glyphLoad 1 1 4 (List.replicate 47 0)).wellFormed = false := by decide
theorem test_wf_glyph_load_wide : (Instr.glyphLoad 1 1 92 (List.replicate 1104 0)).wellFormed = false := by decide +kernel
theorem test_wf_unknown_kind : (Instr.unknownKind 0x57 1 []).wellFormed = false := by decide
theorem test_wf_unknown_kind_long : (Instr.unknownKind 0x60 1 (List.replicate 1101 0)).wellFormed = false := by decide +kernel
theorem test_wf_faulty_frame : (Instr.uplinkFaultyFrame [1, 0, 1, 0, 0]).wellFormed = false := by decide
theorem test_wf_silencing_frame : (Instr.padSilencing (.frame [1, 0, 0, 0])).wellFormed = false := by decide

/-! ## The frame check (R210) and the frames of the examples -/

/-- R210: the check of the nine bytes 0x31 to 0x39 is 0x29B1. -/
theorem test_crc : crc [0x31, 0x32, 0x33, 0x34, 0x35, 0x36, 0x37, 0x38, 0x39] = 0x29B1 := by decide +kernel

/-! ## Pitch, level, points and score (Chapters 5 and 6) -/

/-- R109 and 5.6: the pitch numbers of the periods of the table. -/
theorem test_pitch_a : pitchOf 6982 = some 192 ∧ pitchOf 3491 = some 384 ∧ pitchOf 1745 = some 576 := by decide +kernel
theorem test_pitch_b : pitchOf 1707 = some 582 ∧ pitchOf 873 = some 768 ∧ pitchOf 768 = some 803 := by decide +kernel
theorem test_pitch_ends : pitchOf 13963 = some 0 ∧ pitchOf 13964 = none ∧ pitchOf 437 = some 960 ∧ pitchOf 436 = none := by
  decide +kernel

/-- R106: the level of an rms of 1/100 of full scale, rounded down, and of silence and full scale. -/
theorem test_level : levelOf (480 * 328 * 328) = -80 ∧ levelOf 0 = -192 ∧ levelOf (480 * 32767 * 32767) = 0 := by
  decide +kernel

/-- 6.4.1 and R131: points by deviation at tolerance 16, the octave folded. -/
theorem test_points : pointsOf 16 (foldDeviation 4) = 4 ∧ pointsOf 16 (foldDeviation 14) = 4 ∧
    pointsOf 16 (foldDeviation 24) = 2 ∧ pointsOf 16 (foldDeviation (-192)) = 4 ∧ pointsOf 16 48 = 1 ∧
    pointsOf 16 49 = 0 := by decide

/-- R121 and 6.5.1: parts resolved for a song of 3 parts and the choices 2, 0, 1. -/
theorem test_resolve_part :
    resolvePart .auto 3 [⟨4, 2⟩, ⟨2, 0⟩, ⟨7, 1⟩] 0 = some 2 ∧ resolvePart .auto 3 [⟨4, 2⟩, ⟨2, 0⟩, ⟨7, 1⟩] 1 = some 2 ∧
    resolvePart (.fixed 3) 3 [⟨4, 2⟩, ⟨2, 0⟩, ⟨7, 1⟩] 2 = some 3 ∧
    resolvePart .auto 3 [⟨4, 2⟩, ⟨2, 0⟩, ⟨7, 1⟩] 3 = some 1 ∧ resolvePart (.fixed 4) 3 [] 0 = none := by decide

/-! ## The clock (4.3.1) -/

/-- A running Transport of the example of 4.3: a clock, a rate and a slew. -/
def running (t rate : Nat) (slew : Int) : Transport :=
  { Transport.reset with state := .play, t := t, duration := 200000, rate := rate, slew := slew }

theorem test_advance_first : (running 25600000 512 15360).advance.t = 25602816 ∧
    (running 25600000 512 15360).advance.slew = 15104 := by decide
theorem test_advance_rate : (running 25605632 600 14848).advance.t = 25608888 ∧
    (running 25605632 600 14848).advance.slew = 14592 := by decide

/-! ## Layout and pixels (7.7, 8.4) -/

/-- R156: the left edge of lines of the widths 1000, 1800, 1799 and 2000. -/
theorem test_run_left : runLeft 1000 = 460 ∧ runLeft 1800 = 60 ∧ runLeft 1799 = 60 ∧ runLeft 2000 = 60 := by decide

/-- 7.7: the wipe of a syllable at 12,000 of 480 ticks, from column 700, 96 columns wide. -/
def wiped (t : Nat) : Nat := wipeColumn t ⟨12000, 480, 1, 1, []⟩ ⟨700, 96⟩
theorem test_wipe_inside : wiped 3148928 = 760 ∧ wiped (256 * 12120) = 724 ∧ wiped (256 * 12479 + 255) = 795 := by decide
theorem test_wipe_ends : wiped (256 * 12000 - 1) = 700 ∧ wiped (256 * 12480) = 796 := by decide

/-- 8.4: a pixel of coverage 2 and a dimmed pixel. -/
theorem test_blend : blendRGB ⟨64, 128, 255⟩ ⟨40, 80, 200⟩ 2 = ⟨56, 112, 237⟩ := by decide
theorem test_blend_dim : blendRGB ⟨64, 128, 255⟩ ⟨20, 40, 100⟩ 2 = ⟨49, 99, 203⟩ := by decide

/-- R160: the sung colour of one part and of several. -/
theorem test_sung_colour : sungColour 1 = 1 ∧ sungColour 2 = 2 ∧ sungColour 4 = 3 ∧ sungColour 8 = 4 ∧ sungColour 3 = 5 := by
  decide

/-- R50: the required granules of 70,000 bytes. -/
theorem test_granules : requiredGranules 70000 = 274 := by decide

/-! ## Ids (1.3.1) -/

/-- A queue of pending entries of given ids, and history records of given ids. -/
def entryOf (id song : Nat) : Entry := ⟨id, song, .normal, .pending, .pad, [⟨1, 0⟩], none, id⟩
def queueOf (ids held : List Nat) (next : Nat) : RequestQueue :=
  { RequestQueue.reset with
    entries := ids.map fun i => entryOf i (1000 + i)
    history := held.map fun i => ⟨i, 1, [], .completed, Quad.const ⟨none, none, 0, 0, 0⟩⟩
    nextId := next }

/-- 1.3: with 2, 3, 10 in the queue and 254, 9, 1 in the history, the ids given are 255, 4 and 5. -/
theorem test_free_id : (queueOf [2, 3, 10] [254, 9, 1] 254).freeId = 255 ∧
    (queueOf [2, 3, 10, 255] [254, 9, 1] 1).freeId = 4 ∧ (queueOf [2, 3, 10, 255, 4] [254, 9, 1] 5).freeId = 5 := by decide

/-! ## One command on a small state -/

/-- The state a command leaves. -/
def after (c : Instr) (s : State) : State :=
  match exec c s with
  | .next t => t
  | _ => s

/-- The part after reset with its Transport replaced. -/
def withTr (t : Transport) : State := State.reset.setTr t

/-- The part after reset with its queue of entries replaced. -/
def withQueue (r : RequestQueue) : State := State.reset.setRq r

/-- The result code and data of the reply formed. -/
def replied (s : State) : Option (ResultCode × List Byte) := s.link.formed.map fun r => (r.code, r.data)

/-! ### Control Link and Attention Unit (Chapters 9 and 10) -/

/-- R188, R210, R211: the characters of a TRANSPORT_READ frame with tag 12 but the last; the last one completes it, and
the reply's kind is 0xB0 (R193). -/
def halfway : State := State.reset.setLink
  { ControlLink.reset with
    receiver := .frame ([0, 0, 0x30, 12] ++ [(crc [0, 0, 0x30, 12]).setWidth 8]) false, gapRunning := true }
theorem test_frame_received : (after (.frameReceived ((crc [0, 0, 0x30, 12] >>> 8).setWidth 8) false) halfway).link.formed.map
    (fun r => (r.kind, r.tag, r.code, r.data.length)) = some (0xB0, 12, .ok, 33) := by decide +kernel
theorem test_frame_check_fails : (after (.frameReceived 0 false) halfway).link.linkError = true ∧
    (after (.frameReceived 0 false) halfway).link.queue = [] := by decide +kernel
theorem test_wrong_lead : (after (.wrongLeadByte 0x5B false) State.reset).link.receiver = .discard ∧
    AttentionSet.has (after (.wrongLeadByte 0x5B false) State.reset).att.latched .linkError = true := by decide +kernel
/-- R188: 0x044D is 1,101. -/
def oneLengthByte : State := State.reset.setLink { ControlLink.reset with receiver := .frame [0x4D] false, gapRunning := true }
theorem test_length_above : (after (.payloadLengthAboveLimit 4 false) oneLengthByte).link.receiver = .discard := by decide +kernel
theorem test_length_below : (after (.characterReceived 3 false) oneLengthByte).link.receiver = .frame [0x4D, 3] false := by
  decide +kernel
theorem test_gap : (after .gapTimerExpiry oneLengthByte).link.receiver = .hunt ∧
    (after .gapTimerExpiry oneLengthByte).link.linkError = true := by decide +kernel
theorem test_unknown_kind : (after (.unknownKind 0x60 9 [1]) State.reset).link.formed = some ⟨0xFF, 9, 0, .badKind, []⟩ := by
  decide +kernel
theorem test_echo : (after (.echo 7 [1, 2]) State.reset).link.formed = some ⟨0x81, 7, 0, .ok, [1, 2]⟩ := by decide +kernel

/-- 9.8: the reply to message 11 ends while 12 waits and a notice is pending: 12 is taken, the notice sent first. -/
def burst : State :=
  (State.reset.setLink { ControlLink.reset with
    queue := [⟨0x14, 11, [0, 8]⟩, ⟨0x30, 12, []⟩, ⟨0x2C, 14, [0, 2]⟩, ⟨0x42, 15, [1]⟩]
    transmitter := .reply, formed := some ⟨0x94, 11, 0, .ok, []⟩, linkError := true }).setAtt
    { Attention.reset with latched := Member.linkError.single, noticePending := true }
theorem test_burst_drop : (after (.micRead 16 2) burst).link.queue = burst.link.queue := by decide +kernel
theorem test_burst_end : (after .replyEnd burst).link.queue.map (·.tag) = [12, 14, 15] ∧
    (after .replyEnd burst).link.formed.map (·.tag) = some 12 ∧
    (after .replyEnd burst).link.transmitter = .notice ⟨5, Member.linkError.single, 0⟩ := by decide +kernel
theorem test_notice_end : (after .noticeEnd (after .replyEnd burst)).link.transmitter = .reply := by decide +kernel

/-- 10.7, event 12: SYNC_LOST and VIDEO_LOST acknowledged while the video is lost. -/
def lost : State := State.reset.setAtt { Attention.reset with latched := 0b1000000100000, videoLostHolds := true }
theorem test_acknowledge : (after (.attentionAck 1 0b1000000100000) lost).att.latched = Member.videoLost.single := by
  decide +kernel
theorem test_attention_mask : (after (.attentionMask 1 0x4000) lost).att.mask = 0 ∧
    (after (.attentionMask 1 0x3FFF) lost).att.mask = 0x3FFF := by decide +kernel
theorem test_attention_read : replied (after (.attentionRead 1) lost) = some (.ok, [0x20, 0x10, 0, 0, 2, 0]) := by decide +kernel

/-! ### Request Queue (1.13) -/

/-- 1.13 after event 1: entry 1, song 120045, pad 1. -/
def evening1 : State := withQueue
  { RequestQueue.reset with entries := [⟨1, 120045, .normal, .pending, .pad, [⟨1, 0⟩], none, 1⟩], nextId := 2, arrivals := 1 }
theorem test_event_1 : (takeRequest State.reset 1 120045 0 false).1.rq = evening1.rq ∧
    (takeRequest State.reset 1 120045 0 false).2 = ⟨.accepted, 1, 1⟩ := by decide +kernel
theorem test_event_2 : (takeRequest evening1 2 120045 2 true).2 = ⟨.merged, 1, 1⟩ ∧
    (takeRequest evening1 2 120045 2 true).1.rq.entries.map (·.requesters) = [[⟨1, 0⟩, ⟨2, 2⟩]] := by decide +kernel
/-- 1.13 after event 4: entry 2 in the RUSH lane before entry 1. -/
def evening4 : State := withQueue
  { RequestQueue.reset with
    entries := [⟨2, 308811, .rush, .ready, .pad, [⟨3, 0⟩], some ⟨1, []⟩, 2⟩,
                ⟨1, 120045, .normal, .ready, .pad, [⟨1, 0⟩, ⟨2, 2⟩], some ⟨2, []⟩, 1⟩]
    nextId := 3, arrivals := 2 }
theorem test_event_3 : (takeRequest evening1 3 308811 0 true).2 = ⟨.accepted, 2, 1⟩ ∧
    (takeRequest evening1 3 308811 0 true).1.rq.entries.map (fun e => (e.id, e.lane)) = [(2, .rush), (1, .normal)] := by
  decide +kernel
theorem test_event_5 : (takeRequest evening4 3 555001 1 true).2 = ⟨.demoted, 3, 3⟩ := by decide +kernel
theorem test_resolve : (after (.resolveFound 1 1 1 [5]) evening1).rq.entries.map (fun e => (e.state, e.catalogue)) =
    [(.ready, some ⟨1, [5]⟩)] := by decide +kernel
theorem test_resolve_absent : (after (.resolveAbsent 1 1 1 []) evening1).rq.entries = [] := by decide +kernel
theorem test_queue_add : (after (.queueAdd 1 7 1 0) evening4).rq.entries.map (·.id) = [3, 2, 1] ∧
    replied (after (.queueAdd 1 120045 0 1) evening4) = some (.exists, [1]) := by decide +kernel
theorem test_queue_move : (after (.queueMove 1 2 0 9) evening4).rq.entries.map (·.id) = [1, 2] ∧
    replied (after (.queueMove 1 2 0 9) evening4) = some (.ok, [2, 2]) := by decide +kernel
theorem test_queue_cancel : (after (.queueCancel 1 2) evening4).rq.entries.map (·.id) = [1] ∧
    replied (after (.queueCancel 1 9) evening4) = some (.notFound, []) := by decide +kernel
theorem test_queue_read : (replied (after (.queueRead 1 1 8) evening4)).map (fun r => (r.2.length, r.2.take 6)) =
    some (180, [2, 1, 0, 2, 1, 2]) := by decide +kernel
theorem test_history_read : replied (after (.historyRead 1 0) State.reset) = some (.notFound, []) := by decide +kernel
theorem test_policy : replied (after (.policy 1 0 9) State.reset) = some (.ok, [0, 8]) := by decide +kernel

/-! ### Request pads (2.9 and 2.10) -/

/-- The part polling the pad at place `i`, its record as given; the bus's queue as given. -/
def polled (i : Fin 8) (p : PadRecord) (r : RequestQueue) (stage : Stage) : State :=
  (withQueue r).setPbc { PadBus.reset with
    registry := (Oct.const freeRecord).set i p, roundInFlight := true, roundCounter := 1, lastPolled := i.val + 1
    exchange := some ⟨.pad i, .invite, stage, false⟩ }

/-- 2.9 before event 1: pad 2 ENROLLED, expected toggle 0, two entries waiting and next-id 7. -/
def lostAck : State := polled 1 ⟨.enrolled, some 1, 0, false, clearedOutcome, none, 0⟩ (queueOf [1, 2] [] 7) .awaiting
theorem test_lost_ack_1 : ((after (.request 2 false 412200 0 false) lostAck).pbc.registry.get 1).lastOutcome =
      ⟨false, ⟨.accepted, 7, 3⟩⟩ ∧
    ((after (.request 2 false 412200 0 false) lostAck).pbc.registry.get 1).expectedToggle = true := by decide +kernel
theorem test_lost_ack_5 : ((after (.withdraw 2 false 412200) lostAck).pbc.registry.get 1).lastOutcome =
      ⟨false, ⟨.notWaiting, 0, 0⟩⟩ := by decide +kernel
/-- 2.9, event 3: a repeat is forgiven and nothing more. -/
theorem test_repeat : ((after (.request 2 true 412200 0 false) lostAck).pbc.registry.get 1).lastOutcome = clearedOutcome ∧
    (after (.request 2 true 412200 0 false) lostAck).rq.entries.length = 2 := by decide +kernel

/-- 2.10: pad 5 with strikes 7, expected toggle 1. -/
def failing (strikes : Nat) (stage : Stage) : State :=
  polled 4 ⟨.enrolled, some 0x00A13C07, strikes, true, clearedOutcome, none, 0⟩ RequestQueue.reset stage
theorem test_silencing : ((after (.padSilencing .timeout) (failing 7 .awaiting)).pbc.registry.get 4).state = .silenced ∧
    AttentionSet.has (after .padReplyTimeout (failing 7 .awaiting)).att.latched .padSilenced = true := by decide +kernel
theorem test_strike : ((after .uplinkCharacterGap (failing 6 (.receiving [5]))).pbc.registry.get 4).strikes = 7 := by
  decide +kernel
theorem test_forgive : ((after (.idleRecord 5) (failing 7 .awaiting)).pbc.registry.get 4).strikes = 6 := by decide +kernel
/-- R33, R210: an IDLE frame of pad 5 with a wrong check is faulty, and with its own check is good. -/
theorem test_faulty_frame : ((after (.uplinkFaultyFrame [5, 0, 0, 0, 0]) (failing 6 .awaiting)).pbc.registry.get 4).strikes = 7 ∧
    ((after (.uplinkFaultyFrame (uplinkBytes 5 .idle)) (failing 6 .awaiting)).pbc.registry.get 4).strikes = 5 := by decide +kernel
/-- R216: a byte while the POLL is being sent is ignored, or begins the frame where the POLL's last bit has left, whichever
is drawn; the first idle step sends that bit. -/
theorem test_sending_draws : ((after (.uplinkCharacterReceived 5) (failing 6 .sending)).pbc.exchange.map (·.stage)) =
    some (if Config.downlinkSent 0 then .receiving [5] else .sending) ∧
    (after (.uplinkCharacterReceived 5) (failing 6 .sending)).draws = 1 := by
  have h : (failing 6 .sending).drawDownlink =
      if Config.downlinkSent 0 then { failing 6 .awaiting with draws := 1 } else { failing 6 .sending with draws := 1 } := rfl
  change ((chooseNext (takeUplinkByte (failing 6 .sending).drawDownlink 5)).pbc.exchange.map (·.stage)) = _ ∧
    (chooseNext (takeUplinkByte (failing 6 .sending).drawDownlink 5)).draws = 1
  rw [h]
  cases Config.downlinkSent 0 <;> exact ⟨rfl, rfl⟩
theorem test_downlink_sent : (match step (failing 6 .sending) with
    | .next t => (t.pbc.exchange.map (·.stage), t.padDriver, (failing 6 .sending).padDriver)
    | _ => (none, true, true)) = (some .awaiting, false, true) := by decide +kernel
/-- R218: supplies that come up while the reset line is held low leave the outputs muted. -/
theorem test_power_up_held : (after .powerUp { State.reset with resetLow := true }).resetLow = true ∧
    (after .powerUp State.reset).resetLow = false := by decide +kernel
theorem test_uplink_character : ((after (.uplinkCharacterReceived 5) (failing 6 .awaiting)).pbc.exchange.map (·.stage)) =
    some (.receiving [5]) := by decide +kernel

/-- The join window open, pads 1 to `n` ENROLLED with their addresses as serials. -/
def joining (n : Nat) : State := State.reset.setPbc { PadBus.reset with
  registry := (Oct.const freeRecord).mapIdx fun i p =>
    if i.val < n then ⟨.enrolled, some (BitVec.ofNat 32 (i.val + 1)), 2, true, ⟨true, ⟨.accepted, 9, 1⟩⟩, none, 3⟩ else p
  roundInFlight := true, lastPolled := 8, exchange := some ⟨.joinWindow, .invite, .awaiting, false⟩ }
theorem test_join_new : ((after (.join 0 0x77) (joining 3)).pbc.registry.get 3).serial = some 0x77 ∧
    AttentionSet.has (after (.join 0 0x77) (joining 3)).att.latched .padJoined = true := by decide +kernel
/-- 2.10, step 10: a re-join keeps the strikes and clears the outcome and expected toggle. -/
theorem test_rejoin : ((after (.join 0 2) (joining 3)).pbc.registry.get 1).strikes = 2 ∧
    ((after (.join 0 2) (joining 3)).pbc.registry.get 1).lastOutcome = clearedOutcome := by decide +kernel
theorem test_join_refused : AttentionSet.has (after (.join 0 0x77) (joining 8)).att.latched .padRefused = true := by decide +kernel
theorem test_assign_sent : (after .assignSent (after (.join 0 0x77) (joining 3))).pbc.roundInFlight = false := by decide +kernel
theorem test_pad_admit : replied (after (.padAdmit 1 1) (joining 3)) = some (.badState, []) := by decide +kernel
theorem test_pad_release : ((after (.padRelease 1 2) (joining 3)).pbc.registry.get 1) = freeRecord := by decide +kernel
theorem test_pad_read : (replied (after (.padRead 1 2) (joining 3))).map (fun r => (r.2.length, r.2.take 6)) =
    some (22, [1, 2, 0, 0, 0, 2]) := by decide +kernel
theorem test_pad_bus : (after (.padBus 1 0) (joining 3)).pbc.enabled = false ∧
    replied (after (.padBus 1 2) (joining 3)) = some (.badValue, []) := by decide +kernel

/-! ### Song Store (3.8) -/

/-- Bytes as an image memory. -/
def imageOf (bytes : List Byte) : ImageMemory :=
  ((List.range bytes.length).zip bytes).filter fun c => c.2 != 0

/-- An image of one part: lines (slot, first, count), syllables (start, duration) of glyph 1, notes (start,
duration) of code 36 (R59, R217). -/
def songOf (song duration : Nat) (lines : List (Nat × Nat × Nat)) (syllables notes : List (Nat × Nat)) : ImageMemory :=
  imageOf ([0x4E, 0x4A, 0x53, 0x47, 1, 1] ++ n16 lines.length ++ n16 syllables.length ++ n16 notes.length ++ n16 0 ++
    n16 0 ++ n16 0 ++ n32 song ++ n32 duration ++ lines.flatMap (fun l => n8 l.1 ++ [1] ++ n16 l.2.1 ++ n8 l.2.2) ++
    syllables.flatMap (fun y => n32 y.1 ++ n16 y.2 ++ [1, 1] ++ n16 1 ++ List.replicate 30 0) ++
    notes.flatMap (fun y => n32 y.1 ++ n16 y.2 ++ [36, 0]))

/-- A song of one line, one syllable and one note; it is 79 bytes long. -/
def small : ImageMemory := songOf 640318 1000 [(0, 0, 1)] [(100, 200)] [(100, 200)]
def glyphs : GlyphStore := [(1, ⟨48, []⟩)]

/-- R58 to R63: the small song passes; each check fails at its fault. -/
theorem test_validation_passes : validationFault small 79 640318 glyphs = none := by decide +kernel
theorem test_validation_faults :
    validationFault [] 79 640318 glyphs = some ⟨.format, .header, 0⟩ ∧
    validationFault small 79 640319 glyphs = some ⟨.songMismatch, .header, 640318⟩ ∧
    validationFault small 78 640318 glyphs = some ⟨.count, .header, 79⟩ ∧
    validationFault small 79 640318 [] = some ⟨.glyph, .syllable 0, 1⟩ := by decide +kernel
theorem test_validation_records :
    checkRange (songOf 1 999 [(0, 0, 1)] [(100, 200)] []) = some ⟨.range, .header, 999⟩ ∧
    checkRange (songOf 1 1000 [(4, 0, 1)] [(100, 200)] []) = some ⟨.range, .line 0, 4⟩ ∧
    checkOrder (songOf 1 1000 [(0, 0, 1)] [(900, 101)] []) = some ⟨.order, .syllable 0, 900⟩ ∧
    checkOrder (songOf 1 1000 [(0, 0, 1)] [(100, 200)] [(100, 50), (149, 9)]) = some ⟨.order, .note 1 1, 149⟩ := by
  decide +kernel

/-- Entry 12, song 640318, in a state, with slot B as given; the Transport idle with auto-advance off. -/
def store (st : EntryState) (b : Slot) : State :=
  (((withQueue { RequestQueue.reset with
      entries := [⟨12, 640318, .normal, st, .pad, [⟨1, 0⟩], some ⟨1, []⟩, 1⟩] }).setSlot .b b).setTr
    { Transport.reset with autoAdvance := false }).setCmp { Compositor.reset with glyphs := glyphs }
/-- Slot B holding entry 12 with a size, granules covered and an image. -/
def slotOf (st : SlotState) (size : Nat) (cover : BitVec 1024) (m : ImageMemory) : Slot :=
  ⟨st, some ⟨12, size⟩, cover, m, ⟨.none, .none, 0⟩⟩
/-- 3.8: 274 granules all covered, and all but 80 to 83. -/
def fullCover : BitVec 1024 := markGranules 0 0 274
def lostCover : BitVec 1024 := fullCover &&& ~~~(markGranules 0 80 4)

theorem test_slot_open : replied (after (.slotOpen 1 1 12 70000) (store .ready Slot.reset)) = some (.ok, [0x12, 0x01]) ∧
    (after (.slotOpen 1 1 12 70000) (store .ready Slot.reset)).rq.entries.map (·.state) = [.loading] := by decide +kernel
theorem test_seal_incomplete : replied (after (.slotSeal 1 1) (store .loading (slotOf .filling 70000 lostCover []))) =
    some (.incomplete, [4, 0, 80, 0]) := by decide +kernel
theorem test_slot_data : replied (after (.slotData 1 1 20480 (List.replicate 1024 7))
    (store .loading (slotOf .filling 70000 lostCover []))) = some (.ok, [0x12, 1, 0, 0]) := by decide +kernel
theorem test_slot_data_refused : replied (after (.slotData 1 1 128 [7]) (store .loading (slotOf .filling 70000 lostCover []))) =
    some (.badValue, []) := by decide +kernel
theorem test_seal : (after (.slotSeal 1 1) (store .loading (slotOf .filling 70000 fullCover []))).slotB.state = .sealing := by
  decide +kernel
theorem test_validation_completion :
    (after (.validationCompletion .b) (store .loading (slotOf .sealing 79 1 small))).slotB.state = .staged ∧
    (after (.validationCompletion .b) (store .loading (slotOf .sealing 78 1 small))).slotB.fault = ⟨.count, .header, 79⟩ := by
  decide +kernel
theorem test_slot_discard : (after (.slotDiscard 1 1) (store .staged (slotOf .staged 79 1 small))).slotB.state = .empty ∧
    (after (.slotDiscard 1 1) (store .staged (slotOf .staged 79 1 small))).rq.entries.map (·.state) = [.ready] := by decide +kernel
theorem test_slot_read : (replied (after (.slotRead 1 1) (store .staged (slotOf .staged 79 1 small)))).map (fun r => r.2.take 12) =
    some [3, 12, 79, 0, 0, 0, 1, 0, 1, 0, 0xFF, 0xFF] := by decide +kernel

/-! ### Transport (4.3.1, 4.5.1) -/

/-- START cues the staged entry 12 (R76). -/
theorem test_start : replied (after (.start 1 12) (store .staged (slotOf .staged 79 1 small))) =
      some (.ok, [12, 0xE8, 3, 0, 0]) ∧
    (after (.start 1 12) (store .staged (slotOf .staged 79 1 small))).tr.state = .cued := by decide +kernel
theorem test_sync_slew : (after (.sync 1 100060) (withTr (running 25600000 512 0))).tr.slew = 15360 := by decide +kernel
theorem test_sync_slack : replied (after (.sync 1 100030) (withTr (running 25608888 600 14592))) =
      some (.ok, [0xBE, 0x86, 1, 0, 0xFC, 0xFF, 0xFF, 0xFF, 1]) ∧
    (after (.sync 1 100030) (withTr (running 25608888 600 14592))).tr.slew = 0 := by decide +kernel
theorem test_sync_jump : (after (.sync 1 99700) (withTr (running 25611888 600 0))).tr.t = 25523200 ∧
    (after (.sync 1 99700) (withTr (running 25611888 600 0))).tr.epoch = 1 := by decide +kernel
theorem test_rate : (after (.rate 1 600) (withTr (running 25605632 512 14848))).tr.rate = 600 ∧
    (after (.rate 1 641) State.reset).tr.rate = 640 := by decide +kernel
theorem test_key : (after (.key 1 0xF9) State.reset).tr.key = -6 := by decide +kernel
theorem test_pause : replied (after (.pause 1) (withTr (running 25602816 512 15104))) = some (.ok, [0xAB, 0x86, 1, 0]) ∧
    (after (.pause 1) (withTr (running 25602816 512 15104))).tr.state = .paused := by decide +kernel
theorem test_resume : (after (.resume 1) (withTr { running 0 512 0 with state := .paused, epoch := 255 })).tr.epoch = 0 ∧
    (after (.resume 1) (withTr { running 0 512 0 with state := .paused })).tr.settleCount = 20 := by decide +kernel
theorem test_stop : replied (after (.stop 1 1) (withTr (running 0 512 0))) = some (.ok, [2]) ∧
    (after (.stop 1 0) (withTr (running 0 512 0))).tr.state = .idle := by decide +kernel
theorem test_transport_set : replied (after (.transportSet 1 0 19 101 499 1501) State.reset) =
    some (.ok, [0, 20, 0, 100, 0, 0xF4, 1, 0xDC, 5]) := by decide +kernel
theorem test_transport_read : (replied (after (.transportRead 1) (withTr (running 25602816 600 (-1))))).map
    (fun r => (r.2.take 9, (r.2.drop 13).take 7)) =
    some ([2, 0x00, 0xAB, 0x86, 1, 0xAB, 0x86, 1, 0], [0x58, 2, 0, 0xFF, 0xFF, 0xFF, 0xFF]) := by decide +kernel

/-- 4.5.1: block 50 loses sync, block 371 settles, the hold limit and the song's end. -/
def stalled (tr : Transport) : Transport := (transportBlock (withTr tr)).tr
theorem test_sync_lost : (stalled { running 15485440 512 0 with syncTimer := 49 }).state = .hold ∧
    (stalled { running 15485440 512 0 with syncTimer := 49 }).t = 256 * 60500 := by decide +kernel
theorem test_settle_spent : (stalled { running 16281600 512 0 with state := .recover, syncTimer := 20 }).state = .play ∧
    (stalled { running 16281600 512 0 with state := .recover, syncTimer := 20 }).syncTimer = 21 := by decide +kernel
theorem test_hold_limit : (stalled { running 9 512 0 with state := .hold, holdCount := 2999 }).finish = some .aborted ∧
    (stalled { running 9 512 0 with state := .hold, holdCount := 2999 }).resultCountdown = 800 := by decide +kernel
theorem test_song_end : (stalled (running (256 * 200000 - 2560) 512 0)).state = .result ∧
    (stalled (running (256 * 200000 - 2561) 512 0)).state = .play := by decide +kernel
/-- R80, R92, R94: with a result interval of 0 the song's last block is still stamped RESULT at the duration, and the
song finishes after it. -/
theorem test_song_end_at_once :
    (stalled { running (256 * 200000 - 2560) 512 0 with resultInterval := 0, key := 2, epoch := 3 }).stamp =
      ⟨.result, 200000, 2, 3⟩ ∧
    ({ running (256 * 200000 - 2560) 512 0 with resultInterval := 0 }.finishOwed
      (transportBlock (withTr { running (256 * 200000 - 2560) 512 0 with resultInterval := 0 }))).tr.state = .idle := by
  decide +kernel
theorem test_cue_stall : AttentionSet.has (transportBlock (withTr { running 0 512 0 with
      state := .cued, cueStallCount := 999 })).att.latched .cueStall = true ∧
    (stalled { running 0 512 0 with state := .cued, cueStallCount := 1000 }).cueStallCount = 1000 := by decide +kernel
theorem test_result_spent : (stalled { running 0 512 0 with state := .result, resultCountdown := 1, finish := some .completed }).state =
    .idle := by decide +kernel

/-! ### Microphones (5.11, 5.12) -/

/-- 5.12: channel 3's presence and change count as its link line is low three times, high once, and low five times. -/
def flicker (lines : List Bool) : Presence × Nat :=
  lines.foldl (fun x line => presenceStep { Channel.reset with presence := x.1, changeCount := x.2 } line) (.present, 0)
theorem test_flicker : flicker [false, false, false] = (.present, 3) ∧ flicker [false, false, false, true] = (.present, 0) ∧
    flicker [false, false, false, true, false, false, false, false] = (.present, 4) ∧
    flicker [false, false, false, true, false, false, false, false, false] = (.absent, 0) := by decide +kernel
/-- 5.11: the overload state over blocks 6 to 12. -/
theorem test_overload : [false, true, false, true, true, true, false].foldl
    (fun l x => l ++ [overloadStep (l.getLastD .clear) x]) [] =
      [.clear, .pending, .clear, .pending, .sustained, .sustained, .clear] := by decide +kernel
theorem test_mic_set : replied (after (.micSet 1 1 9 0xFF00 300) State.reset) = some (.ok, [1, 7, 0x60, 0xFF, 0xFF, 0]) := by
  decide +kernel
theorem test_mic_read : replied (after (.micRead 1 1) State.reset) = some (.ok,
    [1, 0, 0x40, 0xFF, 0, 0, 0, 0xFF, 0xFF, 0, 0, 2, 0, 0, 0, 0, 0, 0, 0, 0, 0, 0, 0]) := by decide +kernel

/-! ### Scoring (6.4.2, 6.6) -/

theorem test_score : { Lane.reset with sumAw := 133000, sumW := 2650 }.score = some 5018 ∧ Lane.reset.score = none := by
  decide +kernel
/-- 6.4.1 and 6.4.2: the close of the first note, 14 points over 5 blocks. -/
theorem test_close_note : ({ Lane.reset with outcomes := [.opened] }.closeNote ⟨0, 5, 14, 5⟩ ⟨0, 400, 36, 0⟩).sumAw = 28000 := by
  decide +kernel

/-- 6.6: the six notes, and a lane with its cursor on an open note. -/
def sixNotes : ImageMemory := songOf 1 200000 [(0, 0, 1)] [(100, 200)]
  [(10000, 400), (10500, 300), (10900, 500), (11500, 400), (12000, 600), (12700, 300)]
def singing (cursor : Nat) : Lane :=
  { Lane.reset with
    state := .scoring, part := some 1, noteCount := 6, cursor := cursor
    outcomes := (List.range 6).map fun i => if i < cursor then .scored else if i = cursor then .opened else .pending
    scored := cursor, openNote := some ⟨cursor, 10, 30, 10⟩ }
def sung (position epoch : Nat) : BlockRecord :=
  { BlockRecord.reset with presence := .present, stamp := ⟨.play, position, 0, epoch⟩ }
/-- 6.6.1: the forward jump. -/
theorem test_forward_jump : ((singing 1).block sixNotes (sung 12310 1)).outcomes =
      [.scored, .void, .empty, .empty, .opened, .pending] ∧
    ((singing 1).block sixNotes (sung 12310 1)).openNote = some ⟨4, 1, 0, 1⟩ := by decide +kernel
/-- 6.6.2: the backward jump. -/
theorem test_backward_jump : ((singing 2).block sixNotes (sung 10210 1)).outcomes =
      [.scored, .scored, .void, .pending, .pending, .pending] ∧
    ((singing 2).block sixNotes (sung 10210 1)).cursor = 2 := by decide +kernel
theorem test_bind : replied (after (.bind 1 2 1 3) State.reset) = some (.ok, [2, 1, 3]) ∧
    replied (after (.bind 1 2 1 5) State.reset) = some (.badValue, []) := by decide +kernel
theorem test_score_set : replied (after (.scoreSet 1 2 0 301) State.reset) = some (.ok, [2, 8, 0, 0x2C, 1]) := by decide +kernel
theorem test_lane_read : (replied (after (.laneRead 1 1) (State.reset.setSu
    { ScoringUnit.reset with lanes := ScoringUnit.reset.lanes.set 0 (singing 1) }))).map (fun r => (r.2.length, r.2.take 20)) =
    some (45, [2, 2, 0, 1, 6, 0, 16, 1, 60, 0, 1, 0, 1, 0, 10, 0, 30, 0, 0, 0]) := by decide +kernel
/-- A lane left IDLE by cueing under STRICT, fold off and L 0. -/
def partless : Lane := { Lane.reset with tolerance := 8, fold := false, latency := 0 }

/-- R138: it reads T 16, fold on and L 60. -/
theorem test_lane_read_idle : (replied (after (.laneRead 1 1) (State.reset.setSu
    { ScoringUnit.reset with lanes := ScoringUnit.reset.lanes.set 0 partless }))).map (fun r => (r.2.drop 6).take 4) =
    some [16, 1, 60, 0] := by decide +kernel

/-! ### Rows (7.3.1, 7.4.1, 7.6.1) -/

/-- 7.3.1: the lines of the example, the even ones in slot 0. -/
def sevenLines : ImageMemory := songOf 1 200000
  [(0, 0, 1), (1, 1, 1), (0, 2, 1), (1, 3, 1), (0, 4, 1), (1, 5, 1), (0, 6, 1)]
  [(10000, 10000), (10000, 100), (18000, 4000), (18000, 100), (21000, 600), (22000, 100), (26000, 2000)] []
def row (shown deferred next : Option Nat) (late : Nat) : RowSlot :=
  ⟨shown.map (layLine sevenLines glyphs), deferred, next, late⟩
def viewAt (tick : Nat) : LineView := ⟨sevenLines, 3000, 500, glyphs, 256 * tick⟩
def rowAt (tick : Nat) (r : RowSlot) : RowSlot := settleRow (viewAt tick) 0 1536 r
theorem test_row_shown : rowAt 7004 (row none none (some 0) 0) = row (some 0) none (some 2) 0 ∧
    rowAt 15010 (row (some 0) none (some 2) 0) = row (some 0) (some 2) (some 4) 0 ∧
    rowAt 18002 (row (some 0) (some 2) (some 4) 0) = row (some 0) (some 2) (some 4) 0 := by decide +kernel
theorem test_row_promoted : rowAt 20008 (row (some 0) (some 2) (some 4) 0) = row (some 2) (some 4) (some 6) 1 ∧
    rowAt 22005 (row (some 2) (some 4) (some 6) 1) = row (some 4) none (some 6) 2 ∧
    rowAt 22105 (row (some 4) none (some 6) 2) = row none none (some 6) 2 ∧
    rowAt 23012 (row none none (some 6) 2) = row (some 6) none none 2 := by decide +kernel
theorem test_row_rebuilt : rebuildRow (viewAt 16000) 0 (row (some 4) none (some 6) 2) = row (some 2) none (some 4) 2 ∧
    rebuildRow (viewAt 24000) 0 (row (some 4) none (some 6) 2) = row (some 6) none none 2 := by decide +kernel
/-- 7.6.1: the two lines of the example. -/
theorem test_layout : (placeSyllables [(1, ⟨48, []⟩), (2, ⟨64, []⟩), (3, ⟨43, []⟩)] 0 460
      [[1, 1, 1, 1, 1], [1, 1], [2, 2, 2, 2, 2], List.replicate 8 3]).2 =
    [⟨460, 240⟩, ⟨700, 96⟩, ⟨796, 320⟩, ⟨1116, 344⟩] := by decide +kernel
theorem test_clipping : ((placeRun [(1, ⟨50, []⟩)] 0 60 (List.replicate 40 1)).filter (·.drawn)).length = 36 := by decide +kernel
theorem test_layout_set : replied (after (.layoutSet 1 499 3001) State.reset) = some (.ok, [0xF4, 1, 0xB8, 0xB]) := by decide +kernel
theorem test_layout_read : (replied (after (.layoutRead 1) State.reset)).map (fun r => (r.2.length, r.2.take 11)) =
    some (141, [0xB8, 0xB, 0xF4, 1, 0xB8, 0xB, 0xF4, 1, 0, 0xFF, 0xFF]) := by decide +kernel

/-! ### Compositor (8.6.1, 8.7.1, 8.8.1) -/

/-- 8.6.1: the result row of lane 2 with score 5,018. -/
def digits : GlyphStore := ((List.range 10).map fun k => (1000 + k, ⟨32, []⟩)) ++ [(1010, ⟨16, []⟩), (1011, ⟨40, []⟩)]
theorem test_result_row : (centredRun digits (resultRun 1000 2 5018)).map (fun k => (k.code, k.left, k.entry)) =
    [(1011, 868, 2), (1005, 908, 7), (1000, 940, 7), (1010, 972, 7), (1001, 988, 7), (1008, 1020, 7)] := by decide +kernel
/-- R136: a CLOSED lane with no score hands its part over with the absent score. -/
theorem test_result_absent : Lane.shownResult { Lane.reset with state := .closed, part := some 2 } = some ⟨2, none⟩ ∧
    Lane.reset.shownResult = none := by decide +kernel
theorem test_result_digits : resultRun 1000 1 750 = [(1011, 1), (1000, 7), (1007, 7), (1010, 7), (1005, 7), (1000, 7)] := by
  decide +kernel

/-- 8.8.1: the video state, stale count and fresh run over the nine frame starts. -/
def videoAfter (fresh : List Bool) : VideoState × Nat × Nat :=
  let c := fresh.foldl (fun (c : Compositor) x => Compositor.videoStep { c with freshInput := x })
    { Compositor.reset with video := .locked, freshRun := 2 }
  (c.video, c.staleCount, c.freshRun)
theorem test_video_loss : videoAfter [true] = (.locked, 0, 2) ∧ videoAfter [true, false, false] = (.locked, 2, 2) ∧
    videoAfter [true, false, false, false] = (.unlocked, 3, 0) ∧ videoAfter [true, false, false, false, false, true] =
      (.unlocked, 3, 1) := by decide +kernel
theorem test_video_restore : videoAfter [true, false, false, false, false, true, false] = (.unlocked, 3, 0) ∧
    videoAfter [true, false, false, false, false, true, false, true, true] = (.locked, 0, 2) := by decide +kernel
/-- 8.7.1: glyph store bytes, the store as given and replaced. -/
theorem test_glyph_bytes : glyphBytes (glyphPut digits 1000 ⟨48, []⟩) = glyphBytes digits - 384 + 576 := by decide +kernel
theorem test_glyph_load : replied (after (.glyphLoad 1 1 4 (List.replicate 48 0xE4)) State.reset) = some (.ok, [0, 1, 0, 48, 0, 0, 0]) ∧
    (glyphOf (after (.glyphLoad 1 1 4 (List.replicate 48 0xE4)) State.reset).cmp.glyphs 1).map (·.coverage.take 4) =
      some [0, 1, 2, 3] := by decide +kernel
theorem test_glyph_drop : replied (after (.glyphDrop 1 1) (store .staged (slotOf .staged 79 1 small))) = some (.badState, []) ∧
    replied (after (.glyphDrop 1 1) (store .loading (slotOf .sealing 79 1 small))) = some (.ok, [0, 0, 0, 0, 0, 0]) := by decide +kernel
theorem test_glyph_clear : replied (after (.glyphClear 1) (store .staged (slotOf .staged 79 1 small))) = some (.badState, []) := by
  decide +kernel
theorem test_band_map : replied (after (.bandMap 1 ⟨0, 1, 2, 3, 4, 0, 0, 0⟩) State.reset) = some (.ok, [0, 1, 2, 3, 4, 0, 0, 0]) ∧
    replied (after (.bandMap 1 ⟨0, 1, 2, 3, 4, 0, 0, 5⟩) State.reset) = some (.badValue, []) := by decide +kernel
theorem test_row_place : replied (after (.rowPlace 1 3 7 88) State.reset) = some (.ok, [7, 87]) := by decide +kernel
theorem test_palette : (after (.palette 1 7 ⟨1, 2, 3⟩) State.reset).cmp.palette.get 7 = ⟨1, 2, 3⟩ ∧
    replied (after (.palette 1 8 ⟨1, 2, 3⟩) State.reset) = some (.badValue, []) := by decide +kernel
theorem test_banner_set : replied (after (.bannerSet 1 60001 4084) State.reset) = some (.ok, [0x60, 0xEA, 0xF4, 0xF]) ∧
    replied (after (.bannerSet 1 0 4085) State.reset) = some (.badValue, []) := by decide +kernel
theorem test_compositor_read : (replied (after (.compositorRead 1 0) State.reset)).map (fun r => (r.2.length, r.2.take 10)) =
    some (57, [0, 0, 0, 0, 0, 0, 1, 1, 6, 40]) := by decide +kernel
theorem test_frame_start : (after .videoFrameStart State.reset).cmp.frame.map (fun f => f.rows.q0) = some .empty := by decide +kernel
theorem test_input_frame : (after (.inputFrameCompletion [[⟨1, 2, 3⟩]]) State.reset).cmp.freshInput = false := by decide +kernel

/-! ## States and operands that meet the statements' hypotheses

One theorem `meets_<Name>` for each statement with hypotheses, with a witness for each of its clauses at the ends of
the clause's range. -/

theorem reset_free : LinkFree State.reset := ⟨rfl, rfl, rfl⟩

theorem meets_StepRunsFrontCommand : { State.reset with pending := [.powerUp, .pause 1] }.pending = .powerUp :: [.pause 1] ∧
    (failing 6 .sending).pending = [] ∧ (failing 6 .sending).resetLow = false ∧
    (failing 6 .sending).pbc.exchange = some ⟨.pad 4, .invite, .sending, false⟩ ∧
    (failing 6 .awaiting).pbc.exchange = some ⟨.pad 4, .invite, .awaiting, false⟩ ∧ Stage.awaiting ≠ .sending :=
  ⟨rfl, rfl, rfl, rfl, rfl, by decide⟩

theorem meets_PowerOnValues : { State.reset with resetLow := true }.resetLow = true := rfl

theorem meets_ResetLineMutesOutputs : { State.reset with resetLow := true }.resetLow = true ∧ State.reset.resetLow = false ∧
    Instr.pause 1 ≠ .powerUp ∧ Instr.pause 1 ≠ .resetRelease := by decide +kernel

/-- The part with its receiver in a state. -/
def receiving (r : Receiver) : State := State.reset.setLink { ControlLink.reset with receiver := r, gapRunning := true }

theorem meets_CharacterIsTaken : State.reset.resetLow = false ∧ State.reset.link.receiver = .hunt ∧
    (receiving (.frame [0x4C] false)).resetLow = false ∧ (receiving (.frame [0x4C] false)).link.receiver = .frame [0x4C] false ∧
    declaresTooMuch (receiving (.frame [0x4C] false)) 4 = false ∧ endsFrame (receiving (.frame [0x4C] false)) 4 = false ∧
    (receiving .discard).link.receiver = .discard := by decide +kernel

theorem meets_LinkDrops : State.reset.resetLow = false ∧ State.reset.link.receiver = .hunt ∧
    ((0x5B : Byte) ≠ 0x5A ∨ false = true) ∧ ((0x5A : Byte) ≠ 0x5A ∨ true = true) ∧
    (receiving (.frame [0x4D] true)).link.receiver = .frame [0x4D] true ∧
    1100 < (0x4D : Byte).toNat + 256 * (0x04 : Byte).toNat ∧ (receiving .discard).link.receiver = .discard := by decide +kernel

/-- A link with messages held, a reply formed or not, and a transmitter. -/
def linked (q : List Message) (r : Option Reply) (x : Transmitter) : State :=
  State.reset.setLink { ControlLink.reset with queue := q, formed := r, transmitter := x }
def sampleMessage : Message := ⟨0x30, 12, []⟩
def sampleReply : Reply := ⟨0xB0, 12, 0, .ok, []⟩

theorem meets_FramesReachTheQueue :
    (receiving (.frame (le16 (BitVec.ofNat 16 ([] : List Byte).length) ++ [0x30, 12] ++ [] ++ [7]) false)).resetLow = false ∧
    (receiving (.frame (le16 (BitVec.ofNat 16 ([] : List Byte).length) ++ [0x30, 12] ++ [] ++ [7]) false)).link.receiver =
      .frame (le16 (BitVec.ofNat 16 ([] : List Byte).length) ++ [0x30, 12] ++ [] ++ [7]) false ∧
    (List.replicate 1100 (0 : Byte)).length ≤ 1100 ∧
    4 ≤ (linked [sampleMessage, sampleMessage, sampleMessage, sampleMessage] (some sampleReply) .reply).link.queue.length ∧
    (linked [sampleMessage, sampleMessage, sampleMessage] (some sampleReply) .reply).link.queue.length < 4 ∧
    (linked [sampleMessage, sampleMessage, sampleMessage] (some sampleReply) .reply).link.formed ≠ none := by decide +kernel

theorem meets_LinkMessagesAnswered : LinkFree State.reset ∧ kindTable.contains 0x60 = false ∧ kindTable.contains 0x03 = false ∧
    ((0x60 : Byte) = 0x60 ∨ (0x80 : Byte) ≤ 0x60) ∧ (0x03 : Byte) ≠ 0x60 ∧ (0x03 : Byte) < 0x80 ∧
    (List.replicate 1100 (0 : Byte)).length ≤ 1100 ∧ (List.replicate 1098 (0 : Byte)).length ≤ 1098 ∧
    (List.replicate 1099 (0 : Byte)).length = 1099 := ⟨reset_free, by decide +kernel⟩

theorem meets_FrameCharactersAreTheMessage : State.reset.resetLow = false ∧ State.reset.link.receiver = .hunt ∧
    State.reset.link.gapRunning = false ∧ State.reset.settled ∧ sampleMessage.payload.length ≤ 1100 :=
  ⟨rfl, rfl, rfl, fun _ => ⟨rfl, rfl⟩, by decide⟩

/-- A link whose Attention Unit has a notice pending. -/
def noticed (s : State) : State :=
  s.setAtt { Attention.reset with latched := Member.linkError.single, noticePending := true }
def sampleNotice : Notice := ⟨1, Member.linkError.single, 0⟩

theorem meets_TransmitterSendsInTurn :
    (noticed State.reset).link.transmitter = .idle ∧ (noticed State.reset).att.noticePending = true ∧
    (noticed (linked [] none (.notice sampleNotice))).link.transmitter = .notice sampleNotice ∧
    (linked [sampleMessage] (some sampleReply) (.notice sampleNotice)).att.noticePending = false ∧
    (linked [sampleMessage] (some sampleReply) (.notice sampleNotice)).link.formed ≠ none ∧
    (linked [] none (.notice sampleNotice)).link.formed = none ∧
    (linked [sampleMessage] (some sampleReply) .reply).link.formed = some sampleReply ∧ sampleReply.kind ≠ 0x82 ∧
    (linked [sampleMessage, sampleMessage] (some sampleReply) .reply).link.queue = sampleMessage :: [sampleMessage] ∧
    (linked [sampleMessage] (some sampleReply) .reply).resetLow = false := by decide +kernel

/-- The end of a SOFT_RESET's reply, an exchange in flight or not. -/
def resetting (ex : Option Exchange) : State :=
  (linked [⟨0x02, 9, []⟩] (some ⟨0x82, 9, 0, .ok, []⟩) .reply).setPbc { PadBus.reset with exchange := ex }

theorem meets_SoftResetTakesEffect : (resetting none).resetLow = false ∧ (resetting none).link.transmitter = .reply ∧
    (resetting none).link.formed = some ⟨0x82, 9, 0, .ok, []⟩ ∧ (resetting none).pbc.exchange = none ∧
    (resetting (some ⟨.joinWindow, .assign 7 1, .assigning, false⟩)).pbc.exchange =
      some ⟨.joinWindow, .assign 7 1, .assigning, false⟩ := by decide +kernel

theorem meets_RaiseLatches : AttentionSet.has 0x3FFF .linkError = true ∧ AttentionSet.has 0x3FFF .newRequest = true ∧
    AttentionSet.has 0 .newRequest = false := by decide

theorem meets_AttentionMessages : LinkFree lost ∧ (0x3FFF : Half).getLsbD 14 = false ∧ (0x3FFF : Half).getLsbD 15 = false ∧
    (0x4000 : Half).getLsbD 14 = true ∧ (0x8000 : Half).getLsbD 15 = true := ⟨⟨rfl, rfl, rfl⟩, by decide⟩

/-! ### Request Queue -/

/-- A full queue and a full history. -/
def fullQueue : RequestQueue := queueOf ((List.range 32).map (· + 1)) ((List.range 8).map (· + 33)) 255

theorem meets_FirstFreeIdIsTaken : fullQueue.bounded :=
  ⟨by decide +kernel, by decide +kernel, by decide +kernel, by decide +kernel, by decide +kernel⟩

/-- Entries of song 7 with given requesters. -/
def withList (l : List Requester) (o : Origin) (st : EntryState) : Entry := ⟨1, 7, .normal, st, o, l, none, 1⟩
def fourPads : List Requester := [⟨2, 0⟩, ⟨3, 0⟩, ⟨4, 0⟩, ⟨5, 0⟩]

theorem meets_RequestIsDecided : (0 < 1 ∨ 999999 < 0) ∧ (1000000 < 1 ∨ 999999 < 1000000) ∧
    waitingSong [withList [⟨1, 0⟩] .pad .pending] 7 = some (withList [⟨1, 0⟩] .pad .pending) ∧
    (withList [⟨1, 0⟩] .pad .pending).lists 1 = true ∧ (withList [⟨2, 0⟩, ⟨3, 0⟩, ⟨4, 0⟩] .pad .pending).lists 1 = false ∧
    (withList [⟨2, 0⟩, ⟨3, 0⟩, ⟨4, 0⟩] .pad .pending).requesters.length < 4 ∧
    (withList fourPads .pad .pending).lists 1 = false ∧ 4 ≤ (withList fourPads .pad .pending).requesters.length ∧
    waitingSong fullQueue.entries 7 = none ∧ 32 ≤ fullQueue.entries.length ∧
    fullQueue.padLimit ≤ padWaitingCount fullQueue.entries 1 ∧ padWaitingCount fullQueue.entries 2 < fullQueue.padLimit ∧
    padWaitingCount ([] : List Entry) 1 < RequestQueue.reset.padLimit ∧ ([] : List Entry).length < 32 := by decide +kernel

/-- The part with entries and auto-advance off. -/
def quiet (q : List Entry) : State :=
  (withQueue { RequestQueue.reset with entries := q }).setTr { Transport.reset with autoAdvance := false }

theorem meets_WithdrawIsDecided :
    (∀ e ∈ State.reset.rq.entries, e.waits = true → e.song = 7 → e.lists 1 = false) ∧
    ((waiting (quiet [withList [⟨1, 0⟩] .pad .pending]).rq.entries).find? fun e => e.song == 7 && e.lists 1) =
      some (withList [⟨1, 0⟩] .pad .pending) ∧
    (withList [⟨1, 0⟩] .pad .pending).requesters.filter (fun r => r.pad != 1) = [] ∧
    (withList [⟨1, 0⟩, ⟨2, 0⟩] .pad .pending).requesters.filter (fun r => r.pad != 1) ≠ [] ∧
    (withList [⟨1, 0⟩] .operator .pending).origin = .operator ∧ (withList [⟨1, 0⟩] .pad .pending).origin = .pad := by
  decide +kernel

theorem meets_ResolveSettlesEntry : LinkFree (quiet [withList [⟨1, 4⟩] .pad .pending]) ∧
    (List.replicate 32 (4095 : Half)).length ≤ 255 ∧ (1 ≤ (4 : Byte).toNat ∧ (4 : Byte).toNat ≤ 4 ∧
      (List.replicate 32 (4095 : Half)).length ≤ 32 ∧ ∀ c ∈ List.replicate 32 (4095 : Half), 1 ≤ c.toNat ∧ c.toNat ≤ 4095) ∧
    ¬ ((5 : Byte).toNat ≤ 4) ∧ ¬ (1 ≤ (0 : Byte).toNat) ∧ ¬ ((List.replicate 33 (1 : Half)).length ≤ 32) ∧
    ¬ (1 ≤ (0 : Half).toNat) ∧ ¬ ((4096 : Half).toNat ≤ 4095) ∧
    findEntry (quiet [withList [⟨1, 4⟩] .pad .pending]).rq.entries (2 : Byte).toNat = none ∧
    findEntry (quiet [withList [⟨1, 4⟩] .pad .pending]).rq.entries (1 : Byte).toNat = some (withList [⟨1, 4⟩] .pad .pending) ∧
    (withList [⟨1, 4⟩] .pad .pending).state = .pending ∧ (withList [⟨1, 4⟩] .pad .ready).state ≠ .pending ∧
    findEntry (quiet [withList [⟨1, 4⟩] .pad .ready]).rq.entries (1 : Byte).toNat = some (withList [⟨1, 4⟩] .pad .ready) := by
  refine ⟨⟨rfl, rfl, rfl⟩, by decide, ⟨by decide, by decide, by decide, ?_⟩, by decide +kernel⟩
  intro c h
  rw [List.eq_of_mem_replicate h]
  decide

/-- Two waiting RUSH entries. -/
def rushed : List Entry := [⟨1, 7, .rush, .pending, .pad, [], none, 1⟩, ⟨2, 8, .rush, .ready, .pad, [], none, 2⟩]

theorem meets_QueueAddMakesOperatorEntry : LinkFree (quiet rushed) ∧ (1 < (2 : Byte).toNat) ∧ ((0 : Word).toNat < 1) ∧
    (999999 < (1000000 : Word).toNat) ∧
    ¬ (1 < (1 : Byte).toNat ∨ (999999 : Word).toNat < 1 ∨ 999999 < (999999 : Word).toNat) ∧
    waitingSong (quiet rushed).rq.entries (7 : Word).toNat ≠ none ∧ waitingSong (quiet rushed).rq.entries (9 : Word).toNat = none ∧
    32 ≤ fullQueue.entries.length ∧ 2 ≤ rushCount (quiet rushed).rq.entries ∧ (quiet rushed).rq.entries.length < 32 ∧
    rushCount (quiet (rushed.take 1)).rq.entries < 2 := ⟨⟨rfl, rfl, rfl⟩, by decide +kernel⟩

theorem meets_QueueMovePlacesEntry : LinkFree (quiet rushed) ∧ 1 < (2 : Byte).toNat ∧ (1 : Byte).toNat ≤ 1 ∧
    findEntry (quiet rushed).rq.entries (3 : Byte).toNat = none ∧
    findEntry (quiet [withList [⟨1, 0⟩] .pad .playing]).rq.entries (1 : Byte).toNat = some (withList [⟨1, 0⟩] .pad .playing) ∧
    (withList [⟨1, 0⟩] .pad .playing).state = .playing ∧
    findEntry (quiet rushed).rq.entries (2 : Byte).toNat = some ⟨2, 8, .rush, .ready, .pad, [], none, 2⟩ ∧
    rushCount (rushed.filter fun x => x.id != (2 : Byte).toNat) < 2 ∧
    2 ≤ rushCount (((rushed ++ [entryOf 3 9]).filter fun x => x.id != (3 : Byte).toNat)) ∧
    findEntry (quiet (rushed ++ [entryOf 3 9])).rq.entries (3 : Byte).toNat = some (entryOf 3 9) ∧
    (entryOf 3 9).state ≠ .playing := ⟨⟨rfl, rfl, rfl⟩, by decide +kernel⟩

theorem meets_QueueCancelRemovesEntry : LinkFree (quiet [withList [⟨1, 0⟩] .pad .playing]) ∧
    findEntry (quiet [withList [⟨1, 0⟩] .pad .playing]).rq.entries (2 : Byte).toNat = none ∧
    findEntry (quiet [withList [⟨1, 0⟩] .pad .playing]).rq.entries (1 : Byte).toNat = some (withList [⟨1, 0⟩] .pad .playing) ∧
    findEntry (quiet [withList [⟨1, 0⟩] .pad .pending]).rq.entries (1 : Byte).toNat = some (withList [⟨1, 0⟩] .pad .pending) ∧
    (withList [⟨1, 0⟩] .pad .pending).state ≠ .playing := ⟨⟨rfl, rfl, rfl⟩, by decide +kernel⟩

theorem meets_QueueReadingsAndPolicy : LinkFree (withQueue fullQueue) ∧ 32 < (33 : Byte).toNat ∧ (0 : Byte).toNat < 1 ∧
    8 < (9 : Byte).toNat ∧ (32 : Byte).toNat ≤ 32 ∧ 1 ≤ (8 : Byte).toNat ∧ (8 : Byte).toNat ≤ 8 ∧ 7 < (8 : Byte).toNat ∧
    (withQueue RequestQueue.reset).rq.history.length ≤ (0 : Byte).toNat ∧ (withQueue fullQueue).rq.history[(7 : Byte).toNat]? ≠ none ∧
    1 < (2 : Byte).toNat ∧ (1 : Byte).toNat ≤ 1 := ⟨⟨rfl, rfl, rfl⟩, by decide +kernel⟩

/-- A state with a command waiting takes its step. -/
def pausing : State := { State.reset with pending := [.pause 1] }
theorem pausing_steps : ∃ t, step pausing = .next t := ⟨_, rfl⟩

/-- A state in which queue, slots and Transport match: nothing waits and no slot holds anything. -/
theorem pausing_matched : pausing.matched where
  queue := ⟨⟨by decide, by decide, by decide, by decide, by decide⟩, by decide, by decide, by decide, by decide, by decide,
    fun e h => nomatch h⟩
  empty := by intro n; cases n <;> decide
  held := by intro n h e; cases n <;> cases e
  holder := fun e h => nomatch h
  apart := by rintro id ⟨h, _⟩; cases h
  oneActive := by decide
  song := by decide
  checked := by intro n h; cases n <;> revert h <;> decide

theorem meets_QueueStaysBounded : pausing.rq.bounded ∧ pausing.matched ∧ ∃ t, step pausing = .next t :=
  ⟨⟨by decide, by decide, by decide, by decide, by decide⟩, pausing_matched, pausing_steps⟩

/-! ### Request pads -/

/-- A bus in a round that has polled to `last`, pads 1 and 8 ENROLLED. -/
def roundAt (last counter : Nat) (ending : Bool) : State := State.reset.setPbc { PadBus.reset with
  registry := ⟨⟨.enrolled, some 1, 0, false, clearedOutcome, none, 0⟩, freeRecord, freeRecord, freeRecord, freeRecord,
    freeRecord, freeRecord, ⟨.enrolled, some 8, 7, true, clearedOutcome, none, 15⟩⟩
  roundInFlight := true, roundEnding := ending, roundCounter := counter, lastPolled := last }

theorem meets_RoundGoesOn : (roundAt 1 0 true).pbc.roundEnding = true ∧ (roundAt 1 0 false).pbc.roundEnding = false ∧
    (((roundAt 1 0 false).pbc.registry.get 7).state = .enrolled ∧ (roundAt 1 0 false).pbc.lastPolled ≤ (7 : Fin 8).val ∧
      ∀ j < (7 : Fin 8), ((roundAt 1 0 false).pbc.registry.get j).state = .enrolled → j.val < (roundAt 1 0 false).pbc.lastPolled) ∧
    (∀ i : Fin 8, ((roundAt 8 0 false).pbc.registry.get i).state = .enrolled → i.val < (roundAt 8 0 false).pbc.lastPolled) ∧
    (roundAt 8 0 false).pbc.roundCounter = 0 ∧ (roundAt 8 3 false).pbc.roundCounter ≠ 0 := by decide +kernel

/-- An exchange that SOFT_RESET has marked, and one with a pad no longer ENROLLED, with what may complete them. -/
theorem meets_RoundGoesOn_completions : (polled 0 freeRecord RequestQueue.reset .awaiting).resetLow = false ∧
    (polled 0 freeRecord RequestQueue.reset .awaiting).pbc.exchange = some ⟨.pad 0, .invite, .awaiting, false⟩ ∧
    ((polled 0 freeRecord RequestQueue.reset .awaiting).pbc.registry.get 0).state ≠ .enrolled ∧
    (resetting (some ⟨.pad 0, .invite, .receiving [1], true⟩)).pbc.exchange = some ⟨.pad 0, .invite, .receiving [1], true⟩ ∧
    (⟨.pad 0, .invite, .awaiting, false⟩ : Exchange).completedBy .padReplyTimeout ∧
    (⟨.pad 0, .invite, .sending, true⟩ : Exchange).completedBy .padReplyTimeout ∧
    (⟨.pad 0, .invite, .receiving [1], true⟩ : Exchange).completedBy .uplinkCharacterGap ∧
    (⟨.pad 0, .invite, .receiving [1], true⟩ : Exchange).completedBy (.idleRecord 1) :=
  ⟨rfl, rfl, by decide +kernel, rfl, .inr (.inl ⟨.inr rfl, rfl⟩), .inr (.inl ⟨.inl rfl, rfl⟩), .inr (.inr ⟨⟨_, rfl⟩, rfl⟩),
    .inl ⟨by decide, .inl ⟨_, rfl⟩⟩⟩

/-- Between rounds: the pacing mark at block 4, the last completion the one given, the registry empty or not. -/
def between (blocks counter : Nat) (registry : Oct PadRecord) : State :=
  { State.reset with blocks := blocks, pbc := { PadBus.reset with
      pacingMark := some 4, roundCounter := counter, registry := registry } }

theorem meets_PollingRoundBegins : (between 5 3 (Oct.const freeRecord)).resetLow = false ∧
    (between 5 3 (Oct.const freeRecord)).pbc.enabled = true ∧ (between 5 3 (Oct.const freeRecord)).pbc.roundInFlight = false ∧
    (∀ m, (between 5 3 (Oct.const freeRecord)).pbc.pacingMark = some m → m + 2 ≤ (between 5 3 (Oct.const freeRecord)).blocks + 1) ∧
    (between 5 3 (Oct.const freeRecord)).tr.state = .idle ∧
    (∀ i : Fin 8, ((between 5 3 (Oct.const freeRecord)).pbc.registry.get i).state ≠ .enrolled) ∧
    ((between 5 3 (roundAt 0 0 false).pbc.registry).pbc.registry.get 0).state = .enrolled := by
  refine ⟨rfl, rfl, rfl, ?_, rfl, ?_, rfl⟩
  · intro m h
    cases h
    decide
  · decide

theorem polling_pad (strikes : Nat) (stage : Stage) (h : stage ≠ .assigning) :
    (failing strikes stage).polling 4 ⟨.pad 4, .invite, stage, false⟩ := ⟨rfl, rfl, rfl, rfl, h, rfl⟩

theorem meets_IdleAndRepeatOnlyForgive : (failing 7 .awaiting).polling 4 ⟨.pad 4, .invite, .awaiting, false⟩ ∧
    (4 : Byte).toNat ≤ 4 ∧ false ≠ ((failing 7 .awaiting).pbc.registry.get 4).expectedToggle ∧
    Instr.idleRecord 5 = .idleRecord (BitVec.ofNat 8 ((4 : Fin 8).val + 1)) :=
  ⟨polling_pad 7 .awaiting (by decide), by decide, by decide, rfl⟩

theorem meets_RecordsReachTheQueue : (failing 7 (.receiving [5])).polling 4 ⟨.pad 4, .invite, .receiving [5], false⟩ ∧
    (4 : Byte).toNat ≤ 4 := ⟨polling_pad 7 _ (by decide), by decide⟩

/-- Frames that are faulty for pad 5: a wrong check, another address, a type that is none, an IDLE with a body, a REQUEST
with part choice 5, a WITHDRAW with a short body. -/
def faultyFrames : List (List Byte) :=
  [[5, 0, 0, 0, 0], padFrame 6 0 [], padFrame 5 3 [1, 2, 3, 4], padFrame 5 0 [0], padFrame 5 1 [0, 1, 0, 0, 0, 5, 0],
    padFrame 5 1 [0, 1, 0, 0, 0, 4], padFrame 5 2 [0, 1, 0, 0]]

theorem meets_FaultyExchangeStrikes :
    (failing 7 .awaiting).polling 4 ⟨.pad 4, .invite, .awaiting, false⟩ ∧
    (failing 6 .sending).polling 4 ⟨.pad 4, .invite, .sending, false⟩ ∧
    (failing 6 (.receiving [5])).polling 4 ⟨.pad 4, .invite, .receiving [5], false⟩ ∧
    ((failing 7 .awaiting).pbc.registry.get 4).strikes = 7 ∧ ((failing 6 (.receiving [5])).pbc.registry.get 4).strikes < 7 ∧
    (∀ bytes ∈ faultyFrames, oneUplinkFrame bytes = true ∧
      (crc (bytes.take (bytes.length - 2)) ≠ u16 bytes (bytes.length - 2) ∨
        (u8 bytes 0).toNat ≠ (4 : Fin 8).val + 1 ∨ 2 < u8 bytes 1 ∨ (u8 bytes 1 = 0 ∧ u8 bytes 2 ≠ 0) ∨
        (u8 bytes 1 = 1 ∧ (u8 bytes 2 ≠ 7 ∨ 4 < u8 bytes 8)) ∨ (u8 bytes 1 = 2 ∧ u8 bytes 2 ≠ 5))) :=
  ⟨polling_pad 7 _ (by decide), polling_pad 6 _ (by decide), polling_pad 6 _ (by decide), by decide +kernel⟩

/-- The join window in a stage, with a registry. -/
def windowAt (stage : Stage) (registry : Oct PadRecord) : State := State.reset.setPbc { PadBus.reset with
  registry := registry, roundInFlight := true, exchange := some ⟨.joinWindow, .invite, stage, false⟩ }
/-- Pads 1 to 8 with serials of their own, pad 8 SILENCED. -/
def allTaken : Oct PadRecord := (Oct.const freeRecord).mapIdx fun i _ =>
  ⟨if i = 7 then .silenced else .enrolled, some (BitVec.ofNat 32 (i.val + 1)), if i = 7 then 8 else 0, false, clearedOutcome,
    none, 0⟩

theorem meets_JoinWindowEnrols : (windowAt .awaiting allTaken).resetLow = false ∧
    (windowAt .awaiting allTaken).pbc.exchange = some ⟨.joinWindow, .invite, .awaiting, false⟩ ∧ (8 : Word) ≠ 0 ∧
    (∀ i j : Fin 8, ((windowAt .awaiting allTaken).pbc.registry.get i).serial = some 8 →
      ((windowAt .awaiting allTaken).pbc.registry.get j).serial = some 8 → i = j) ∧
    ((windowAt .awaiting allTaken).pbc.registry.get 7).serial = some 8 ∧
    ((windowAt .awaiting allTaken).pbc.registry.get 7).state ≠ .enrolled ∧
    ((windowAt .awaiting allTaken).pbc.registry.get 0).serial = some 1 ∧
    ((windowAt .awaiting allTaken).pbc.registry.get 0).state = .enrolled ∧
    (∀ i : Fin 8, ((windowAt .awaiting allTaken).pbc.registry.get i).serial ≠ some 9) ∧
    (∀ i : Fin 8, ((windowAt .awaiting allTaken).pbc.registry.get i).state ≠ .free) ∧
    ((windowAt .awaiting (Oct.const freeRecord)).pbc.registry.get 0).state = .free ∧
    (windowAt .sending allTaken).pbc.exchange = some ⟨.joinWindow, .invite, .sending, false⟩ ∧
    (windowAt .assigning allTaken).pbc.exchange = some ⟨.joinWindow, .invite, .assigning, false⟩ ∧
    (windowAt (.receiving [0]) allTaken).pbc.exchange = some ⟨.joinWindow, .invite, .receiving [0], false⟩ ∧
    (∀ bytes ∈ [[0, 3, 0, 0, 0], padFrame 1 3 [1, 0, 0, 0], padFrame 0 0 [], padFrame 0 3 [1], padFrame 0 3 [0, 0, 0, 0]],
      oneUplinkFrame bytes = true ∧ (crc (bytes.take (bytes.length - 2)) ≠ u16 bytes (bytes.length - 2) ∨ u8 bytes 0 ≠ 0 ∨
        u8 bytes 1 ≠ 3 ∨ u8 bytes 2 ≠ 4 ∨ u32 bytes 3 = 0)) := by decide +kernel

theorem meets_UplinkFramesAreRead : (failing 6 .awaiting).resetLow = false ∧
    (failing 6 .awaiting).pbc.exchange = some ⟨.pad 4, .invite, .awaiting, false⟩ ∧ (failing 6 .awaiting).settled ∧
    oneUplinkFrame (uplinkBytes 5 .idle) = true ∧ oneUplinkFrame (padFrame 5 9 (List.replicate 255 0)) = true ∧
    (failing 6 .sending).resetLow = false ∧ (failing 6 .sending).pbc.exchange = some ⟨.pad 4, .invite, .sending, false⟩ ∧
    (windowAt .assigning allTaken).pbc.exchange = some ⟨.joinWindow, .invite, .assigning, false⟩ ∧
    State.reset.pbc.exchange = none ∧
    (Config.downlinkSent (failing 6 .sending).draws = false ∨ Config.downlinkSent (failing 6 .sending).draws = true) :=
  ⟨rfl, rfl, fun _ => ⟨rfl, rfl⟩, by decide +kernel, by decide +kernel, rfl, rfl, rfl, rfl, by
    cases Config.downlinkSent (failing 6 .sending).draws <;> decide⟩

theorem meets_PadMessages : LinkFree (windowAt .awaiting allTaken) ∧ (0 : Byte).toNat < 1 ∧ 8 < (9 : Byte).toNat ∧
    (8 : Byte).toNat = (7 : Fin 8).val + 1 ∧ (1 : Byte).toNat = (0 : Fin 8).val + 1 ∧
    ((windowAt .awaiting allTaken).pbc.registry.get 7).state = .silenced ∧
    ((windowAt .awaiting allTaken).pbc.registry.get 0).state ≠ .silenced ∧ 1 < (2 : Byte).toNat :=
  ⟨⟨rfl, rfl, rfl⟩, by decide +kernel⟩

/-- Pad 1 ENROLLED and on every list of a queue. -/
def releasing : State := (quiet [withList [⟨1, 0⟩] .pad .pending, { entryOf 2 8 with requesters := [⟨1, 0⟩, ⟨2, 0⟩] }]).setPbc
  { PadBus.reset with registry := allTaken }

theorem meets_PadReleaseFreesAddress : LinkFree releasing ∧ (0 : Byte).toNat < 1 ∧ 8 < (9 : Byte).toNat ∧ (1 : Byte).toNat = (0 : Fin 8).val + 1 ∧
    (State.reset.pbc.registry.get 0).state = .free ∧ (releasing.pbc.registry.get 0).state ≠ .free ∧
    (releasing.rq.entries.map (·.id)).Nodup := ⟨⟨rfl, rfl, rfl⟩, by decide +kernel⟩

theorem meets_RegistryStaysLawful : pausing.pbc.lawful ∧ ∃ t, step pausing = .next t := by
  have h : ∀ i : Fin 8, pausing.pbc.registry.get i = freeRecord := by decide
  refine ⟨⟨fun i => ?_, fun i j x e => ?_⟩, pausing_steps⟩
  · rw [h]
    exact ⟨by decide, by decide, by decide, by decide, by decide, by decide, by decide⟩
  · rw [h] at e
    cases e

/-! ### Song Store -/

theorem meets_SlotOpenClaimsSlot : LinkFree (store .ready Slot.reset) ∧ 1 < (2 : Byte).toNat ∧ (63 : Word).toNat < 64 ∧
    262144 < (262145 : Word).toNat ∧ 64 ≤ (64 : Word).toNat ∧ (262144 : Word).toNat ≤ 262144 ∧
    ((store .ready (slotOf .filling 64 0 [])).slot .b).state ≠ .empty ∧ ((store .ready Slot.reset).slot .b).state = .empty ∧
    findEntry (store .ready Slot.reset).rq.entries (11 : Byte).toNat = none ∧
    findEntry (store .ready Slot.reset).rq.entries (12 : Byte).toNat = some (entryOf 12 640318 |> fun e =>
      { e with state := .ready, catalogue := some ⟨1, []⟩, arrival := 1 }) ∧
    (store .pending Slot.reset).rq.entries.map (·.state) = [.pending] := ⟨⟨rfl, rfl, rfl⟩, by decide +kernel⟩

theorem meets_SlotDataWritesChunk : LinkFree (store .loading (slotOf .filling 262144 0 small)) ∧ 1 < (2 : Byte).toNat ∧
    (List.replicate 1024 (0 : Byte)).length ≤ 1024 ∧ 1 ≤ [(0 : Byte)].length ∧
    ((store .loading (slotOf .sealing 79 0 small)).slot .b).state = .sealing ∧
    ((store .ready Slot.reset).slot .b).state ≠ .sealing ∧ ((store .ready Slot.reset).slot .b).state ≠ .filling ∧
    ((store .loading (slotOf .filling 262144 0 small)).slot .b).held = some ⟨12, 262144⟩ ∧
    Memory.wf ((store .loading (slotOf .filling 262144 0 small)).slot .b).image = true ∧
    (261120 : Word).toNat % 256 = 0 ∧ (261120 : Word).toNat + 1024 ≤ 262144 ∧ (1 : Word).toNat % 256 ≠ 0 ∧
    262144 < (262144 : Word).toNat + 1 := ⟨⟨rfl, rfl, rfl⟩, by decide +kernel⟩

theorem meets_SlotSealBeginsValidation : LinkFree (store .loading (slotOf .filling 70000 fullCover [])) ∧ 1 < (2 : Byte).toNat ∧
    ((store .ready Slot.reset).slot .b).state ≠ .filling ∧
    ((store .loading (slotOf .filling 70000 fullCover [])).slot .b).held = some ⟨12, 70000⟩ ∧
    (List.range ((70000 + 255) / 256)).filter (fun g => !fullCover.getLsbD g) = [] ∧
    ((List.range ((70000 + 255) / 256)).filter (fun g => !lostCover.getLsbD g)).head? = some 80 :=
  ⟨⟨rfl, rfl, rfl⟩, by decide +kernel⟩

theorem meets_SlotDiscardAndRead : LinkFree (store .staged (slotOf .staged 79 1 small)) ∧ 1 < (2 : Byte).toNat ∧
    ((store .playing (slotOf .active 79 1 small)).slot .b).state = .active ∧ ((store .ready Slot.reset).slot .b).state = .empty ∧
    ((store .staged (slotOf .staged 79 1 small)).slot .b).state = .staged ∧
    ((store .loading (slotOf .filling 79 1 small)).slot .b).state = .filling ∧
    ((store .loading (slotOf .sealing 79 1 small)).slot .b).state = .sealing ∧
    ((store .staged (slotOf .staged 79 1 small)).slot .b).held = some ⟨12, 79⟩ := ⟨⟨rfl, rfl, rfl⟩, by decide +kernel⟩

theorem meets_ValidationCompletes : (store .loading (slotOf .sealing 79 1 small)).resetLow = false ∧
    ((store .ready Slot.reset).slot .b).state ≠ .sealing ∧
    ((store .loading (slotOf .sealing 79 1 small)).slot .b).state = .sealing ∧
    ((store .loading (slotOf .sealing 79 1 small)).slot .b).held = some ⟨12, 79⟩ ∧
    (∀ c ∈ [checkFormat small, checkSong small 640318, checkCount small 79, checkRange small, checkOrder small,
      checkGlyphs small glyphs], c = none) ∧
    [checkFormat small, checkSong small 640318, checkCount small 78, checkRange small, checkOrder small,
      checkGlyphs small glyphs].findSome? id = some ⟨.count, .header, 79⟩ := by decide +kernel

theorem meets_RangeCheckCoversEveryRecord : checkRange small = none ∧ checkOrder small = none ∧
    checkRange sevenLines = none ∧ checkOrder sevenLines = none := by decide +kernel

theorem meets_ImagesStayCanonical : pausing.imagesCanonical ∧ ∃ t, step pausing = .next t := ⟨⟨rfl, rfl⟩, pausing_steps⟩

/-! ### Transport -/

/-- The entry that `store .staged` holds. -/
def stagedEntry : Entry := ⟨12, 640318, .normal, .staged, .pad, [⟨1, 0⟩], some ⟨1, []⟩, 1⟩

theorem meets_StartCuesSongOrRefuses : LinkFree (store .staged (slotOf .staged 79 1 small)) ∧
    (store .staged (slotOf .staged 79 1 small)).tr.state = .idle ∧ (12 : Byte) ≠ 0 ∧
    findEntry (store .staged (slotOf .staged 79 1 small)).rq.entries (12 : Byte).toNat = some stagedEntry ∧
    stagedEntry.state = .staged ∧ (store .staged (slotOf .staged 79 1 small)).slotHolding stagedEntry.id = some .b ∧
    (waiting (store .staged (slotOf .staged 79 1 small)).rq.entries).head? = some stagedEntry ∧
    (withTr (running 0 512 0)).tr.state ≠ .idle ∧
    (∀ e, (waiting (store .ready Slot.reset).rq.entries).head? = some e → e.state ≠ .staged) ∧
    findEntry (store .ready Slot.reset).rq.entries (11 : Byte).toNat = none ∧
    findEntry (store .ready Slot.reset).rq.entries (12 : Byte).toNat = some { stagedEntry with state := .ready } ∧
    { stagedEntry with state := .ready }.state ≠ .staged := by
  refine ⟨⟨rfl, rfl, rfl⟩, rfl, by decide, by decide +kernel, rfl, by decide +kernel, by decide +kernel,
    by decide +kernel, ?_, by decide +kernel, by decide +kernel, by decide⟩
  intro e h
  cases h
  decide

/-- A Transport in a state with settle count setting, its clock at tick 1,000. -/
def timed (st : TransportState) (settle : Nat) : State :=
  withTr { running 256000 512 0 with state := st, settle := settle }

/-- The clock errors 15, 16, 200 and 201 are the ends of the bands. -/
theorem meets_SyncCorrectsClock : LinkFree (timed .play 0) ∧ (timed .idle 0).tr.state = .idle ∧
    (timed .result 0).tr.state = .result ∧ (timed .cued 0).tr.state = .cued ∧ (timed .play 0).tr.state = .play ∧
    (timed .recover 20).tr.state = .recover ∧ (timed .hold 0).tr.state = .hold ∧ (timed .hold 20).tr.settle ≠ 0 ∧
    (timed .paused 0).tr.state = .paused ∧
    (∀ x ∈ [((1015 : Word), (15 : Nat)), (985, 15), (1016, 16), (1200, 200), (1201, 201), (0, 1000), (0xFFFFFFFF, 199000)],
      (((min x.1.toNat (timed .play 0).tr.duration : Nat) : Int) - (((timed .play 0).tr.t / 256 : Nat) : Int)).natAbs = x.2) :=
  ⟨⟨rfl, rfl, rfl⟩, by decide +kernel⟩

theorem meets_PauseResumeRateKey : LinkFree (timed .paused 0) ∧ (timed .paused 0).tr.state = .paused ∧
    (timed .paused 0).tr.settle = 0 ∧ (timed .paused 100).tr.settle ≠ 0 ∧ (timed .recover 0).tr.state = .recover ∧
    (timed .hold 0).tr.state ≠ .play ∧ (timed .hold 0).tr.state ≠ .recover ∧ (timed .hold 0).tr.state ≠ .paused :=
  ⟨⟨rfl, rfl, rfl⟩, by decide +kernel⟩

theorem meets_StopAndSettings : LinkFree (timed .play 0) ∧ 1 < (2 : Byte).toNat ∧ (1 : Byte).toNat ≤ 1 ∧
    (timed .result 0).tr.state = .result ∧ (timed .play 0).tr.state ≠ .idle ∧ (timed .play 0).tr.state ≠ .result ∧
    (timed .play 0).tr.resultInterval ≠ 0 ∧ (timed .idle 0).tr.state = .idle ∧
    (waiting (store .staged (slotOf .staged 79 1 small)).rq.entries).head? = some stagedEntry ∧
    (store .staged (slotOf .staged 79 1 small)).tr.state = .idle ∧ stagedEntry.state = .staged :=
  ⟨⟨rfl, rfl, rfl⟩, by decide +kernel⟩

/-- Whether the clock would go on, by the statement's expression. -/
def goesOn (t : Transport) (step : Int) : Prop := 0 < t.duration ∧ (t.t : Int) + 5 * t.rate + step < 256 * t.duration

theorem meets_ClockRuns : (timed .idle 0).resetLow = false ∧ (timed .idle 0).tr.state = .idle ∧
    (withTr { running 0 512 0 with state := .cued, cueStallCount := 1000 }).tr.cueStallCount ≠ 999 ∧
    (withTr { running 0 512 0 with state := .cued, cueStallCount := 999 }).tr.state = .cued ∧
    goesOn (running (256 * 200000 - 2561) 512 0) 0 ∧
    { running 0 512 0 with syncTimer := 49 }.syncTimeout ≤ { running 0 512 0 with syncTimer := 49 }.syncTimer + 1 ∧
    { running 0 512 0 with syncTimer := 48 }.syncTimer + 1 < { running 0 512 0 with syncTimer := 48 }.syncTimeout ∧
    { running 0 512 0 with state := .recover, settleCount := 0 }.settleCount = 0 ∧
    { running 0 512 0 with state := .recover, settleCount := 1 }.settleCount ≠ 0 ∧
    { running 0 512 0 with state := .hold, holdCount := 2998 }.holdCount + 1 <
      { running 0 512 0 with state := .hold, holdCount := 2998 }.holdLimit ∧
    1 < { running 0 512 0 with state := .result, resultCountdown := 2, finish := some .aborted }.resultCountdown :=
  ⟨rfl, rfl, by decide +kernel, rfl, ⟨by decide, by decide⟩, by decide +kernel⟩

/-- The small song ACTIVE in slot B, its entry PLAYING, the Transport as given. -/
def playing (t : Transport) : State := (store .playing (slotOf .active 79 1 small)).setTr { t with duration := 1000 }
def playingItem : Entry := { stagedEntry with state := .playing }

theorem meets_SongEnds : (playing (running 0 512 0)).resetLow = false ∧
    ((playing (running 253440 512 0)).tr.state = .play ∧
      256 * ((playing (running 253440 512 0)).tr.duration : Int) ≤ (playing (running 253440 512 0)).tr.t + 5 * 512 + 0) ∧
    ({ running 0 512 0 with state := .hold, holdCount := 2999 }.holdLimit ≤
      { running 0 512 0 with state := .hold, holdCount := 2999 }.holdCount + 1) ∧
    (playing (running 0 512 0)).tr.resultInterval ≠ 0 ∧
    (playing { running 0 512 0 with resultInterval := 0 }).tr.resultInterval = 0 ∧
    playingEntry (playing (running 0 512 0)).rq.entries = some playingItem ∧
    (playing (running 0 512 0)).activeSlot = some .b ∧
    { running 0 512 0 with state := .result, resultCountdown := 1, finish := some .skipped }.resultCountdown ≤ 1 ∧
    LinkFree (playing (running 0 512 0)) ∧ LinkFree (playing { running 0 512 0 with resultInterval := 0 }) ∧
    ((store .staged (slotOf .staged 79 1 small)).setTr Transport.reset).tr.autoAdvance = true ∧
    (waiting (store .staged (slotOf .staged 79 1 small)).rq.entries).head? = some stagedEntry := by
  refine ⟨rfl, by decide +kernel, by decide +kernel, by decide +kernel, rfl, by decide +kernel, by decide +kernel,
    by decide +kernel, ⟨rfl, rfl, rfl⟩, ⟨rfl, rfl, rfl⟩, rfl, by decide +kernel⟩

/-! ### Microphones and scoring -/

theorem meets_BlockRecordsAreMade : State.reset.resetLow = false ∧
    (∀ k : Fin 4, (State.reset.mfe.channels.get k).window.length = 1920) ∧
    (∀ k : Fin 4, ((playing (running 253440 512 0)).mfe.channels.get k).window.length = 1920) ∧
    ((playing (running 253440 512 0)).tr.state = .play ∧
      256 * (playing (running 253440 512 0)).tr.duration ≤
        (((playing (running 253440 512 0)).tr.t : Int) + 5 * (playing (running 253440 512 0)).tr.rate + 0).toNat) ∧
    ({ running 0 512 0 with state := .hold, holdCount := 2999 }.holdLimit ≤
      { running 0 512 0 with state := .hold, holdCount := 2999 }.holdCount + 1) := by decide +kernel

theorem meets_MeasuresAreTheFormulas : (0 < 1) ∧ (0 < (⟨1, 1⟩ : Similarity).den) ∧ (0 < (⟨1, 1⟩ : Similarity).num) ∧
    (⟨1, 1⟩ : Similarity).num.natAbs * (⟨1, 1⟩ : Similarity).num.natAbs ≤ 1 * (⟨1, 1⟩ : Similarity).den ∧
    (436 < 437) ∧ (13963 < 13964) ∧ (437 ≤ 437 ∧ 437 ≤ 13963) ∧ (437 ≤ 13963 ∧ 13963 ≤ 13963) ∧
    (List.replicate 1920 (1 : Int)).length = 1920 := by decide +kernel

theorem meets_MicAndScoringMessages : LinkFree State.reset ∧ 1 < (2 : Byte).toNat ∧ (1 : Byte).toNat ≤ 1 ∧ 2 < (3 : Byte).toNat ∧
    (2 : Byte).toNat ≤ 2 ∧ (0 : Byte).toNat < 1 ∧ 4 < (5 : Byte).toNat ∧ (4 : Byte).toNat = (3 : Fin 4).val + 1 ∧
    State.reset.tr.state = .idle ∧ (timed .cued 0).tr.state ≠ .idle := ⟨reset_free, by decide +kernel⟩

/-- The lane of 6.6 is lawful. -/
theorem singing_lawful : (singing 1).lawful where
  idle := by decide
  notes := by decide
  cursor := by decide
  before := by decide
  after := by
    intro i h
    match i, h with
    | 2, _ => rfl
    | 3, _ => rfl
    | 4, _ => rfl
    | 5, _ => rfl
    | n + 6, _ => rfl
  opened := by
    intro i
    constructor
    · intro h
      rcases Nat.lt_or_ge i 6 with hi | hi
      · interval_cases i
        · exact absurd h (by decide)
        · exact ⟨_, rfl, rfl⟩
        · exact absurd h (by decide)
        · exact absurd h (by decide)
        · exact absurd h (by decide)
        · exact absurd h (by decide)
      · obtain ⟨n, rfl⟩ := Nat.exists_eq_add_of_le' hi
        exact absurd h (by change NoteOutcome.pending ≠ _; decide)
    · rintro ⟨o, ho, rfl⟩
      cases ho
      rfl
  openAtCursor := by
    intro o h
    cases h
    decide
  scored := by decide
  empty := by decide
  void := by decide
  accuracy := by decide

/-- The lane of 6.6 in any state but IDLE is lawful. -/
theorem singing_lawful_in (st : LaneState) (h : st ≠ .idle) : { singing 1 with state := st }.lawful :=
  { singing_lawful with idle := ⟨fun e => absurd e h, fun e => nomatch e⟩ }

/-- The lane's steps at a block: lanes in each state; c at the end of note 1 and one tick before it, at the start of note
2 and one tick before it. -/
theorem meets_OpenNoteTakesBlock_steps : (∀ st ∈ [LaneState.armed, .suspended, .closed], { singing 1 with state := st }.lawful) ∧
    Lane.reset.state = .idle ∧ (singing 1).part = some 1 ∧
    ((singing 1).block sixNotes (sung 10860 0)).state ≠ .armed ∧
    ({ singing 1 with state := .armed }.block sixNotes { sung 10860 0 with presence := .absent }).state = .suspended ∧
    ({ singing 1 with state := .armed }.block sixNotes { sung 0 0 with stamp := ⟨.cued, 0, 0, 0⟩ }).state = .armed ∧
    ((sung 10860 0).stamp.position : Int) - (singing 1).latency = ((noteAt sixNotes 1 1).start + (noteAt sixNotes 1 1).duration : Nat) ∧
    ((singing 1).block sixNotes (sung 10859 0)).cursor = 1 ∧ ((singing 1).block sixNotes (sung 10860 0)).cursor = 2 ∧
    ((singing 1).block sixNotes (sung 10959 0)).outcomeAt 2 = .pending ∧
    ((singing 1).block sixNotes (sung 10960 0)).outcomeAt 2 = .opened ∧
    ((singing 1).block sixNotes (sung 10960 1)).outcomeAt 1 = .void := by
  refine ⟨?_, by decide +kernel⟩
  intro st h
  refine singing_lawful_in st ?_
  rintro rfl
  revert h
  decide

theorem meets_OpenNoteTakesBlock : (singing 1).lawful ∧ (singing 1).state = .scoring ∧ (singing 1).part = some 1 ∧
    (singing 1).openNote = some ⟨1, 10, 30, 10⟩ ∧ (sung 10859 0).presence = .present ∧ (sung 10859 0).stamp.state = .play ∧
    (sung 10859 0).stamp.epoch = (singing 1).lastEpoch ∧
    ((sung 10859 0).stamp.position : Int) - (singing 1).latency <
      (noteAt sixNotes 1 (singing 1).cursor).start + (noteAt sixNotes 1 (singing 1).cursor).duration ∧
    ¬ ((sung 10859 0).overload = true ∨ ((sung 10859 0).mode = .blank ∧ 11 ≤ (sung 10859 0).count)) ∧
    { sung 10859 0 with overload := true }.overload = true ∧ (sung 10859 0).voiced = false ∧
    { sung 10859 0 with voiced := true, pitch := some 960 }.pitch = some 960 ∧ BlockRecord.reset.presence = .absent ∧
    (sung 12310 1).stamp.epoch ≠ (singing 1).lastEpoch := ⟨singing_lawful, by decide +kernel⟩

theorem meets_LanesCloseEveryNote : (singing 1).lawful ∧ (singing 1).state = .scoring ∧ (singing 1).outcomeAt 2 = .pending ∧
    (singing 1).outcomeAt 0 = .scored ∧ (singing 1).openNote = some ⟨1, 10, 30, 10⟩ ∧ (10 : Nat) ≠ 0 ∧ Lane.reset.state = .idle :=
  ⟨singing_lawful, by decide⟩

theorem lane_reset_lawful : Lane.reset.lawful where
  idle := by decide
  notes := rfl
  cursor := Nat.le_refl _
  before := by intro i h; exact absurd h (Nat.not_lt_zero i)
  after := by intro i _; rfl
  opened := by
    intro i
    constructor
    · intro h; cases h
    · rintro ⟨o, ho, _⟩; cases ho
  openAtCursor := by intro o h; cases h
  scored := rfl
  empty := rfl
  void := rfl
  accuracy := Nat.zero_le _

theorem meets_LanesStayLawful : pausing.su.lawful ∧ ∃ t, step pausing = .next t := by
  refine ⟨fun k => ?_, pausing_steps⟩
  have h : pausing.su.lanes.get k = Lane.reset := by revert k; decide
  rw [h]
  exact lane_reset_lawful

/-! ### Rows and pictures -/

/-- 7.3.1 and 7.4.1: at 22,005 line 4 is shown; at 16,000 line 2 is the last line due and line 4 the first not yet. -/
theorem meets_RowSlotsFollowClock : imgLines (viewAt 22005).image ≤ 512 ∧
    (rowAt 20008 (row (some 0) (some 2) (some 4) 0)).deferred = some 4 ∧
    (rowAt 22005 (row (some 2) (some 4) (some 6) 1)).deferred = none ∧
    (rowAt 22005 (row (some 2) (some 4) (some 6) 1)).shown = some (layLine sevenLines glyphs 4) ∧
    (rowAt 22005 (row (some 2) (some 4) (some 6) 1)).next = some 6 ∧
    (2 < imgLines sevenLines ∧ (lineAt sevenLines 2).hint = 0 ∧
      256 * (lineStart sevenLines 2 - (viewAt 15000).leadIn) ≤ (viewAt 15000).t ∧
      (viewAt 15000).t < 256 * (lineEnd sevenLines 2 + (viewAt 15000).linger)) ∧
    (4 < imgLines sevenLines ∧ (lineAt sevenLines 4).hint = 0 ∧
      (viewAt 15000).t < 256 * (lineStart sevenLines 4 - (viewAt 15000).leadIn)) := by decide +kernel

/-- 7.7.1: the syllable's first and last sub-ticks. -/
theorem meets_LinesAreLaidOutAndWiped : 1 ≤ (⟨12000, 480, 1, 1, []⟩ : SyllableRec).duration ∧ 3071999 < 256 * 12000 ∧
    256 * (12000 + 480) ≤ 3194880 ∧ 256 * 12000 ≤ 3072000 ∧ 3194879 < 256 * (12000 + 480) ∧
    (layLine sevenLines glyphs 0).glyphs[0]? = some ⟨1, 936, 48, true, 0⟩ ∧ (lineSyllables sevenLines 0)[0]? = some 0 ∧
    (layLine sevenLines glyphs 0).syllables[0]? = some ⟨936, 48⟩ := by decide +kernel

theorem meets_ScreenMessages : LinkFree State.reset ∧ 4084 < (4085 : Half).toNat ∧ (4084 : Half).toNat ≤ 4084 ∧
    (∃ i, 4 < ((⟨0, 0, 0, 0, 0, 0, 0, 5⟩ : Oct Byte).get i).toNat) ∧
    (∀ i, ((⟨0, 1, 2, 3, 4, 0, 0, 4⟩ : Oct Byte).get i).toNat ≤ 4) ∧ 3 < (4 : Byte).toNat ∧ 7 < (8 : Byte).toNat ∧
    (3 : Byte).toNat = (3 : Fin 4).val ∧ (7 : Byte).toNat = (7 : Fin 8).val ∧ 4095 < (4096 : Half).toNat ∧
    (4095 : Half).toNat ≤ 4095 := ⟨reset_free, by decide⟩

/-- A store at its capacity but for 768 bytes, its last glyph of code 1. -/
def nearlyFull : GlyphStore := (List.range 1364).map fun k => (k + 1, ⟨64, []⟩)

theorem meets_GlyphMessages : LinkFree (State.reset.setCmp { Compositor.reset with glyphs := nearlyFull }) ∧
    (List.replicate 768 (0 : Byte)).length = 12 * (64 : Byte).toNat ∧ (64 : Byte).toNat ≤ 91 ∧ (0 : Half).toNat < 1 ∧
    4095 < (4096 : Half).toNat ∧ (3 : Byte).toNat < 4 ∧ 64 < (65 : Byte).toNat ∧
    1048576 < glyphBytes (nearlyFull ++ [(1365, ⟨64, []⟩)]) + 12 * (64 : Byte).toNat ∧
    glyphBytes nearlyFull + 12 * (64 : Byte).toNat ≤ 1048576 ∧ glyphOf glyphs 2 = none ∧ glyphOf glyphs 1 ≠ none ∧
    (((store .staged (slotOf .staged 79 1 small)).slot .b).state = .staged ∧
      0 < imgSyllables small ∧ 1 ∈ (syllableAt small 0).run) ∧
    (∀ n : SlotName, n = .a ∨ n = .b → (State.reset.slot n).state ≠ .staged) := by
  refine ⟨⟨rfl, rfl, rfl⟩, by decide +kernel, by decide, by decide, by decide, by decide, by decide, by decide +kernel,
    by decide +kernel, by decide, by decide, by decide +kernel, ?_⟩
  intro n _
  cases n <;> decide

/-- A Compositor by its video state, fresh input, stale count and fresh run. -/
def video (v : VideoState) (fresh : Bool) (stale run : Nat) : State := State.reset.setCmp
  { Compositor.reset with video := v, freshInput := fresh, staleCount := stale, freshRun := run }

theorem meets_FrameStartFixesContent : State.reset.resetLow = false ∧ State.reset.llu.mode ≠ .lyrics ∧
    (State.reset.setLlu { LayoutUnit.reset with mode := .lyrics }).llu.mode = .lyrics ∧
    (video .locked false 1 2).cmp.staleCount < 2 ∧ 2 ≤ (video .locked false 2 2).cmp.staleCount ∧
    (video .locked true 2 2).cmp.freshInput = true ∧ (video .unlocked true 3 0).cmp.freshRun = 0 ∧
    1 ≤ (video .unlocked true 3 1).cmp.freshRun ∧ (video .unlocked false 3 1).cmp.freshInput = false ∧
    (List.replicate 1080 (List.replicate 1920 (⟨0, 0, 0⟩ : RGB))).length = 1080 ∧
    (∀ l ∈ List.replicate 1080 (List.replicate 1920 (⟨0, 0, 0⟩ : RGB)), l.length = 1920) ∧
    (List.replicate 720 (List.replicate 1280 (⟨0, 0, 0⟩ : RGB))).length ≠ 1080 := by
  refine ⟨rfl, by decide, rfl, by decide, by decide, rfl, rfl, by decide, rfl, List.length_replicate .., ?_, ?_⟩
  · intro l h
    rw [List.eq_of_mem_replicate h]
    exact List.length_replicate ..
  · rw [List.length_replicate]
    decide

theorem meets_PixelsAreBlended : 1079 < 1080 ∧
    (∀ k : Fin 4, (State.reset.cmp.placement.get k).band ≤ 7 ∧ (State.reset.cmp.placement.get k).offset ≤ 87) ∧
    135 * (7 : Fin 8).val ≤ 1079 ∧ 1079 < 135 * (7 : Fin 8).val + 135 ∧ 1079 ≥ 135 * (7 : Fin 8).val + 91 ∧
    State.reset.cmp.bands.get 0 = .pass ∧ State.reset.cmp.bands.get 7 = .lyric ∧
    (0 < 135 * (0 : Fin 8).val + 43) ∧ (135 * (0 : Fin 8).val + 43 ≤ 90 ∧ 90 < 135 * (0 : Fin 8).val + 91) ∧
    (1859 ≤ 1859 ∧ 1859 < 1859 + (⟨1, 1859, 1, 1860, 6⟩ : Ink).width) ∧ glyphOf glyphs 1 = some ⟨48, []⟩ ∧
    (47 - 0 < (⟨48, []⟩ : Glyph).width ∧ (⟨48, []⟩ : Glyph).width ≤ 48 - 0) ∧
    (∀ p ∈ (layLine sevenLines glyphs 0).glyphs, p.syllable < (wipedSyllables sevenLines 0 (layLine sevenLines glyphs 0)).length) ∧
    (lineSyllables sevenLines 0)[0]? = some 0 ∧ (layLine sevenLines glyphs 0).syllables[0]? = some ⟨936, 48⟩ ∧
    (8 = 2 ^ (3 : Fin 4).val ∧ Nat.testBit 3 0 = true ∧ Nat.testBit 3 1 = true ∧ 0 < 1) ∧
    (1000 ≠ 0 ∧ 9999 < 10000) := by decide +kernel

/-! ### Invariants -/

theorem meets_LinkStaysLawful : pausing.linkLawful ∧ pausing.att.lawful ∧ ∃ t, step pausing = .next t :=
  ⟨⟨by decide, by decide, by decide, by decide, fun _ => ⟨rfl, rfl⟩⟩, (fun h => by cases h), pausing_steps⟩

theorem meets_RangesAreKept : pausing.settingsInRange ∧ pausing.tr.lawful ∧ pausing.cmp.storeFits ∧
    pausing.matched ∧ ∃ t, step pausing = .next t :=
  ⟨⟨by decide, by decide, by decide, by decide, by decide, by decide, by decide, by decide, by decide, by decide, by decide,
      by decide, by decide, by decide, by decide⟩,
    ⟨by decide, fun _ => rfl, by decide, by decide, by decide, by decide, by decide, by decide, by decide, by decide, by decide,
      by decide, by decide⟩, by unfold Compositor.storeFits; decide, pausing_matched, pausing_steps⟩

end Sys2Proof.Tests
end

namespace Sys2Proof.Machine

/-! ## Entries and positions (R2 to R5) -/

@[simp] theorem Entry.waits_iff (e : Entry) : e.waits = true ↔ e.state ≠ .playing := by simp [Entry.waits]

theorem mem_waiting {q : List Entry} {e : Entry} : e ∈ waiting q ↔ e ∈ q ∧ e.state ≠ .playing := by
  simp [waiting]

theorem mem_laneEntries {q : List Entry} {l : QueueLane} {e : Entry} :
    e ∈ laneEntries q l ↔ (e ∈ q ∧ e.state ≠ .playing) ∧ e.lane = l := by
  simp [laneEntries, mem_waiting]

theorem mem_removeEntry {q : List Entry} {id : Nat} {e : Entry} : e ∈ removeEntry q id ↔ e ∈ q ∧ e.id ≠ id := by
  simp [removeEntry]

theorem waiting_filter (q : List Entry) (p : Entry → Bool) : waiting (q.filter p) = (waiting q).filter p :=
  List.filter_comm ..

theorem laneEntries_filter (q : List Entry) (p : Entry → Bool) (l : QueueLane) :
    laneEntries (q.filter p) l = (laneEntries q l).filter p := by
  rw [laneEntries, waiting_filter]
  exact List.filter_comm ..

/-- An entry found by its id stands in the queue and has that id. -/
theorem findEntry_some {q : List Entry} {id : Nat} {e : Entry} (h : findEntry q id = some e) : e ∈ q ∧ e.id = id :=
  ⟨List.mem_of_find?_eq_some h, by simpa using List.find?_some h⟩

theorem findEntry_none {q : List Entry} {id : Nat} (h : findEntry q id = none) : ∀ e ∈ q, e.id ≠ id := by
  simpa [findEntry] using h

/-- Where ids are distinct, an entry is known by its id. -/
theorem entry_unique {q : List Entry} (hq : (q.map (·.id)).Nodup) {a b : Entry} (ha : a ∈ q) (hb : b ∈ q)
    (h : a.id = b.id) : a = b := List.inj_on_of_nodup_map hq ha hb h

/-- A queue falls into the entries not waiting, the RUSH lane and the NORMAL lane (R3). -/
theorem sections_perm (q : List Entry) :
    ((q.filter fun e => !e.waits) ++ laneEntries q .rush ++ laneEntries q .normal).Perm q := by
  have hlanes : laneEntries q .normal = (waiting q).filter fun e => !(e.lane == .rush) :=
    List.filter_congr fun e _ => by cases e.lane <;> rfl
  have hwait : (laneEntries q .rush ++ laneEntries q .normal).Perm (waiting q) := by
    rw [hlanes]
    exact List.filter_append_perm ..
  rw [List.append_assoc]
  exact (hwait.append_left _).trans (List.perm_append_comm.trans (List.filter_append_perm ..))

theorem insertAt_perm (l : List Entry) (p : Nat) (e : Entry) : (insertAt l p e).Perm (e :: l) := by
  refine List.perm_middle.trans ?_
  rw [List.take_append_drop]

/-- An insertion adds the entry and no other change but of order. -/
theorem insertEntry_perm (q : List Entry) (e : Entry) (p : Nat) : (insertEntry q e p).Perm (e :: q) := by
  have hq := sections_perm q
  cases hl : e.lane with
  | rush =>
    simp only [insertEntry, hl, if_true, reduceCtorEq, if_false]
    refine (((insertAt_perm _ p e).append_left _).append_right _).trans ?_
    refine (List.perm_middle.append_right _).trans (.trans ?_ (hq.cons e))
    rw [List.cons_append]
  | normal =>
    simp only [insertEntry, hl, if_true, reduceCtorEq, if_false]
    exact ((insertAt_perm _ p e).append_left _).trans (List.perm_middle.trans (hq.cons e))

theorem insertEntry_length (q : List Entry) (e : Entry) (p : Nat) : (insertEntry q e p).length = q.length + 1 :=
  (insertEntry_perm q e p).length_eq

theorem mem_insertEntry {q : List Entry} {e x : Entry} {p : Nat} : x ∈ insertEntry q e p ↔ x = e ∨ x ∈ q := by
  rw [(insertEntry_perm q e p).mem_iff, List.mem_cons]

/-! ## The order of the queue (R3) -/

/-- The order of R3: the entries not waiting, then the RUSH section, then the NORMAL section. -/
def inOrder (q : List Entry) : Prop :=
  q = (q.filter fun e => !e.waits) ++ laneEntries q .rush ++ laneEntries q .normal

/-- A queue is in order when it is made of three such sections. -/
theorem inOrder_sections {a b c : List Entry} (ha : ∀ e ∈ a, e.state = .playing)
    (hb : ∀ e ∈ b, e.state ≠ .playing ∧ e.lane = .rush) (hc : ∀ e ∈ c, e.state ≠ .playing ∧ e.lane = .normal) :
    inOrder (a ++ b ++ c) := by
  have keep (l : List Entry) (p : Entry → Bool) (h : ∀ e ∈ l, p e = true) : l.filter p = l := List.filter_eq_self.2 h
  have lose (l : List Entry) (p : Entry → Bool) (h : ∀ e ∈ l, ¬ p e = true) : l.filter p = [] := List.filter_eq_nil_iff.2 h
  have waits_ab : waiting (a ++ b ++ c) = b ++ c := by
    simp only [waiting, List.filter_append]
    rw [lose a _ (fun e h => by simp [ha e h]), keep b _ (fun e h => by simp [(hb e h).1]),
      keep c _ (fun e h => by simp [(hc e h).1]), List.nil_append]
  have first : ((a ++ b ++ c).filter fun e => !e.waits) = a := by
    simp only [List.filter_append]
    rw [keep a _ (fun e h => by simp [Entry.waits, ha e h]), lose b _ (fun e h => by simp [(hb e h).1]),
      lose c _ (fun e h => by simp [(hc e h).1]), List.append_nil, List.append_nil]
  have rush : laneEntries (a ++ b ++ c) .rush = b := by
    rw [laneEntries, waits_ab, List.filter_append, keep b _ (fun e h => by simp [(hb e h).2]),
      lose c _ (fun e h => by simp [(hc e h).2]), List.append_nil]
  have normal : laneEntries (a ++ b ++ c) .normal = c := by
    rw [laneEntries, waits_ab, List.filter_append, lose b _ (fun e h => by simp [(hb e h).2]),
      keep c _ (fun e h => by simp [(hc e h).2]), List.nil_append]
  rw [inOrder, first, rush, normal]

theorem not_waits_playing {q : List Entry} : ∀ e ∈ q.filter (fun e => !e.waits), e.state = .playing := by
  simp [Entry.waits]

theorem lane_waits {q : List Entry} {l : QueueLane} : ∀ e ∈ laneEntries q l, e.state ≠ .playing ∧ e.lane = l :=
  fun _ h => ⟨(mem_laneEntries.1 h).1.2, (mem_laneEntries.1 h).2⟩

/-- Entries taken away leave the order. -/
theorem inOrder_filter {q : List Entry} (h : inOrder q) (p : Entry → Bool) : inOrder (q.filter p) := by
  rw [h, List.filter_append, List.filter_append]
  refine inOrder_sections ?_ ?_ ?_ <;> intro e he <;> have he := List.mem_of_mem_filter he
  · exact not_waits_playing e he
  · exact lane_waits e he
  · exact lane_waits e he

/-- A change in place that keeps lanes, and who waits, keeps the order. -/
theorem inOrder_map {q : List Entry} (h : inOrder q) (f : Entry → Entry)
    (hf : ∀ e ∈ q, (f e).lane = e.lane ∧ (f e).waits = e.waits) : inOrder (q.map f) := by
  have waits {e} (he : e ∈ q) : (f e).state = .playing ↔ e.state = .playing :=
    not_iff_not.1 (by rw [← ne_eq, ← ne_eq, ← Entry.waits_iff, ← Entry.waits_iff, (hf e he).2])
  have lanes {l : QueueLane} : ∀ e ∈ (laneEntries q l).map f, e.state ≠ .playing ∧ e.lane = l := by
    intro e he
    obtain ⟨x, hx, rfl⟩ := List.mem_map.1 he
    obtain ⟨⟨hxq, hw⟩, hl⟩ := mem_laneEntries.1 hx
    exact ⟨fun hp => hw ((waits hxq).1 hp), (hf x hxq).1.trans hl⟩
  rw [h, List.map_append, List.map_append]
  refine inOrder_sections ?_ lanes lanes
  intro e he
  obtain ⟨x, hx, rfl⟩ := List.mem_map.1 he
  exact (waits (List.mem_of_mem_filter hx)).2 (not_waits_playing x hx)

/-- An insertion lays the queue out in order (R5). -/
theorem inOrder_insertEntry (q : List Entry) (e : Entry) (p : Nat) (he : e.state ≠ .playing) :
    inOrder (insertEntry q e p) := by
  have put (l : QueueLane) : ∀ x ∈ (if e.lane = l then insertAt (laneEntries q l) p e else laneEntries q l),
      x.state ≠ .playing ∧ x.lane = l := by
    intro x hx
    split at hx
    · next hl =>
      rcases List.mem_cons.1 ((insertAt_perm _ p e).mem_iff.1 hx) with rfl | hx
      · exact ⟨he, hl⟩
      · exact lane_waits x hx
    · exact lane_waits x hx
  exact inOrder_sections not_waits_playing (put .rush) (put .normal)

/-- With no entry PLAYING, one put at the head as the PLAYING entry keeps the order (R22). -/
theorem inOrder_cons_playing {q : List Entry} (h : inOrder q) (hq : ∀ e ∈ q, e.state ≠ .playing) {e : Entry}
    (he : e.state = .playing) : inOrder (e :: q) := by
  have hnone : q.filter (fun e => !e.waits) = [] := by simpa [List.filter_eq_nil_iff] using hq
  rw [h, hnone]
  exact inOrder_sections (a := [e]) (by simpa using he) lane_waits lane_waits

/-! ## Ids (R6) -/

theorem RequestQueue.holdsId_false {r : RequestQueue} {id : Nat} :
    r.holdsId id = false ↔ (∀ e ∈ r.entries, e.id ≠ id) ∧ ∀ h ∈ r.history, h.id ≠ id := by
  simp [RequestQueue.holdsId]

theorem RequestQueue.holdsId_true {r : RequestQueue} {id : Nat} :
    r.holdsId id = true ↔ (∃ e ∈ r.entries, e.id = id) ∨ ∃ h ∈ r.history, h.id = id := by
  simp [RequestQueue.holdsId]

/-- The ids in the order in which a new entry tries them: upward from next-id, wrapping from 255 to 1 (R6). -/
def RequestQueue.idTried (r : RequestQueue) (k : Nat) : Nat := (r.nextId - 1 + k) % 255 + 1

theorem RequestQueue.idTried_inj (r : RequestQueue) {j k : Nat} (hj : j < 255) (hk : k < 255)
    (h : r.idTried j = r.idTried k) : j = k := by
  simp only [RequestQueue.idTried] at h
  omega

/-- Within its bounds the queue and history do not hold every id: 40 records against 255 ids. -/
theorem RequestQueue.some_id_free {r : RequestQueue} (hr : r.bounded) : ∃ k < 255, r.holdsId (r.idTried k) = false := by
  by_contra hall
  have hsub : (List.range 255).map r.idTried ⊆ r.entries.map (·.id) ++ r.history.map (·.id) := by
    intro id hid
    obtain ⟨k, hk, rfl⟩ := List.mem_map.1 hid
    have : r.holdsId (r.idTried k) = true := by
      by_contra hfree
      exact hall ⟨k, List.mem_range.1 hk, by simpa using hfree⟩
    simpa using RequestQueue.holdsId_true.1 this
  have hnodup : ((List.range 255).map r.idTried).Nodup :=
    List.Nodup.map_on (fun j hj k hk h => r.idTried_inj (List.mem_range.1 hj) (List.mem_range.1 hk) h) List.nodup_range
  have hle := (hnodup.subperm hsub).length_le
  have := hr.entries
  have := hr.history
  simp at hle
  omega

/-- The free id is the first of the tried ids that is not held (R6). -/
theorem RequestQueue.freeId_first {r : RequestQueue} (hr : r.bounded) :
    ∃ k < 255, r.freeId = r.idTried k ∧ r.holdsId (r.idTried k) = false ∧ ∀ j < k, r.holdsId (r.idTried j) = true := by
  obtain ⟨k, hk, hfree⟩ := RequestQueue.some_id_free hr
  have hdef : r.freeId = (((List.range 255).map r.idTried).find? fun id => !r.holdsId id).getD r.nextId := rfl
  cases hfind : ((List.range 255).map r.idTried).find? (fun id => !r.holdsId id) with
  | none =>
    rw [List.find?_eq_none] at hfind
    have := hfind _ (List.mem_map_of_mem (List.mem_range.2 hk))
    simp [hfree] at this
  | some id =>
    obtain ⟨hid, i, hi, rfl, hbefore⟩ := List.find?_eq_some_iff_getElem.1 hfind
    simp only [List.length_map, List.length_range, List.getElem_map, List.getElem_range] at hi hid hbefore
    refine ⟨i, hi, by simp [hdef, hfind], by simpa using hid, fun j hj => ?_⟩
    simpa using hbefore j hj

theorem RequestQueue.freeId_free {r : RequestQueue} (hr : r.bounded) : r.holdsId r.freeId = false := by
  obtain ⟨k, _, hk, hfree, _⟩ := RequestQueue.freeId_first hr
  rw [hk, hfree]

theorem RequestQueue.freeId_range {r : RequestQueue} (hr : r.bounded) : 1 ≤ r.freeId ∧ r.freeId ≤ 255 := by
  obtain ⟨k, _, hk, _⟩ := RequestQueue.freeId_first hr
  rw [hk, RequestQueue.idTried]
  omega

/-- Settles O14: some id is free among 255, the search gives the first of them, and the entry made carries it. -/
theorem firstFreeIdIsTaken : Obligations.FirstFreeIdIsTaken := by
  intro r hr
  obtain ⟨k, hk, hid, hfree, hbefore⟩ := RequestQueue.freeId_first hr
  have hrange := RequestQueue.freeId_range hr
  obtain ⟨hentries, hhistory⟩ := RequestQueue.holdsId_false.1 hfree
  refine ⟨⟨k, hk, hid, hid ▸ hentries, hid ▸ hhistory, fun j hj => RequestQueue.holdsId_true.1 (hbefore j hj)⟩, ?_⟩
  intro song p lane origin list
  refine ⟨⟨_, mem_insertEntry.2 (.inl rfl), rfl, rfl, rfl⟩, ?_⟩
  change r.freeId % 255 + 1 = _
  split <;> omega

end Sys2Proof.Machine

namespace Sys2Proof.Machine

/-! ## The Request Queue kept lawful (R3, R6)

Each operation on the queue keeps `RequestQueue.bounded` by itself, and `RequestQueue.lawful` with it. -/

/-- A change of an entry that keeps its place in the queue: its id, song and lane, and whether it waits. -/
structure Entry.sameSeat (e x : Entry) : Prop where
  id : x.id = e.id
  song : x.song = e.song
  lane : x.lane = e.lane
  waits : x.waits = e.waits

theorem Entry.sameSeat_refl (e : Entry) : e.sameSeat e := ⟨rfl, rfl, rfl, rfl⟩

theorem waiting_map {q : List Entry} {f : Entry → Entry} (hf : ∀ e ∈ q, e.sameSeat (f e)) :
    waiting (q.map f) = (waiting q).map f := by
  rw [waiting, List.filter_map]
  congr 1
  exact List.filter_congr fun e he => (hf e he).waits

theorem laneEntries_map {q : List Entry} {f : Entry → Entry} (hf : ∀ e ∈ q, e.sameSeat (f e)) (l : QueueLane) :
    laneEntries (q.map f) l = (laneEntries q l).map f := by
  rw [laneEntries, waiting_map hf, List.filter_map]
  congr 1
  exact List.filter_congr fun e he => by simp [(hf e (mem_waiting.1 he).1).lane]

theorem RequestQueue.bounded_of_shorter {r : RequestQueue} (h : r.bounded) {q : List Entry}
    {hist : List HistoryRecord} (hq : q.length ≤ r.entries.length) (hh : hist.length ≤ 8) :
    RequestQueue.bounded { r with entries := q, history := hist } :=
  ⟨hq.trans h.entries, hh, h.nextId, h.arrivals, h.padLimit⟩

theorem RequestQueue.bounded_make {r : RequestQueue} (h : r.bounded) (hlen : r.entries.length < 32) (song : Nat)
    (lane : QueueLane) (origin : Origin) (list : List Requester) (p : Nat) : (r.make song lane origin list p).bounded where
  entries := by
    simp only [RequestQueue.make, insertEntry_length]
    omega
  history := h.history
  nextId := by
    have := RequestQueue.freeId_range h
    simp only [RequestQueue.make]
    omega
  arrivals := Nat.mod_lt _ (by decide)
  padLimit := h.padLimit

/-- Entries and records taken away leave the queue lawful. -/
theorem RequestQueue.lawful_filter {r : RequestQueue} (h : r.lawful) (p : Entry → Bool) :
    RequestQueue.lawful { r with entries := r.entries.filter p } where
  bounded := RequestQueue.bounded_of_shorter h.bounded (List.length_filter_le ..) h.bounded.history
  order := inOrder_filter h.order p
  onePlaying := by
    simp only [List.filter_comm (p := fun e : Entry => !e.waits)]
    exact (List.length_filter_le ..).trans h.onePlaying
  rush := by
    simp only [rushCount, laneEntries_filter]
    exact (List.length_filter_le ..).trans h.rush
  songs := by
    simp only [waiting_filter]
    exact h.songs.sublist (List.filter_sublist.map _)
  ids := h.ids.sublist ((List.filter_sublist.map _).append_right _)
  idRange := fun e he => h.idRange e (List.mem_of_mem_filter he)

/-- Changes that keep every entry's place, and every record's id, leave the queue lawful. -/
theorem RequestQueue.lawful_map {r : RequestQueue} (h : r.lawful) {f : Entry → Entry}
    (hf : ∀ e ∈ r.entries, e.sameSeat (f e)) {g : HistoryRecord → HistoryRecord} (hg : ∀ x, (g x).id = x.id) :
    RequestQueue.lawful { r with entries := r.entries.map f, history := r.history.map g } where
  bounded := RequestQueue.bounded_of_shorter h.bounded (by simp) (by simpa using h.bounded.history)
  order := inOrder_map h.order f fun e he => ⟨(hf e he).lane, (hf e he).waits⟩
  onePlaying := by
    rw [List.filter_map, List.length_map, List.filter_congr (q := fun e => !e.waits) fun e he => by simp [(hf e he).waits]]
    exact h.onePlaying
  rush := by
    simp only [rushCount, laneEntries_map hf, List.length_map]
    exact h.rush
  songs := by
    have : ((waiting r.entries).map f).map (·.song) = (waiting r.entries).map (·.song) := by
      rw [List.map_map]
      exact List.map_congr_left fun e he => (hf e (mem_waiting.1 he).1).song
    rw [waiting_map hf, this]
    exact h.songs
  ids := by
    have hids : (r.entries.map f).map (·.id) = r.entries.map (·.id) := by
      rw [List.map_map]
      exact List.map_congr_left fun e he => (hf e he).id
    have hheld : (r.history.map g).map (·.id) = r.history.map (·.id) := by
      rw [List.map_map]
      exact List.map_congr_left fun x _ => hg x
    rw [hids, hheld]
    exact h.ids
  idRange := by
    intro e he
    obtain ⟨x, hx, rfl⟩ := List.mem_map.1 he
    rw [(hf x hx).id]
    exact h.idRange x hx

/-- The rush count after an insertion. -/
theorem rushCount_insertEntry (q : List Entry) (e : Entry) (p : Nat) (he : e.state ≠ .playing) :
    rushCount (insertEntry q e p) = rushCount q + if e.lane = .rush then 1 else 0 := by
  have hp := (((insertEntry_perm q e p).filter Entry.waits).filter fun e => e.lane == QueueLane.rush).length_eq
  rw [rushCount, laneEntries, waiting, hp, List.filter_cons_of_pos (by simpa using he), List.filter_cons]
  cases h : e.lane <;> simp [rushCount, laneEntries, waiting]

/-- A waiting entry with a new id and song put into a lane with room leaves the queue lawful, its bounds kept. -/
theorem RequestQueue.lawful_insert {r : RequestQueue} (h : r.lawful) (e : Entry) (p : Nat) (he : e.state ≠ .playing)
    (hid : r.holdsId e.id = false) (hrange : 1 ≤ e.id ∧ e.id ≤ 255) (hsong : waitingSong r.entries e.song = none)
    (hrush : e.lane = .rush → rushCount r.entries < 2) {r' : RequestQueue} (hr' : r'.bounded)
    (hq : r'.entries = insertEntry r.entries e p) (hh : r'.history = r.history) : r'.lawful where
  bounded := hr'
  order := hq ▸ inOrder_insertEntry _ e p he
  onePlaying := by
    have hp := ((insertEntry_perm r.entries e p).filter fun e => !e.waits).length_eq
    rw [hq, hp, List.filter_cons_of_neg (by simpa using he)]
    exact h.onePlaying
  rush := by
    have := h.rush
    rw [hq, rushCount_insertEntry _ e p he]
    split
    · next hl => have := hrush hl; omega
    · omega
  songs := by
    have hp := ((insertEntry_perm r.entries e p).filter Entry.waits).map (·.song)
    rw [hq, waiting, hp.nodup_iff, List.filter_cons_of_pos (by simpa using he), List.map_cons, List.nodup_cons]
    refine ⟨?_, h.songs⟩
    simp only [waitingSong, List.find?_eq_none, beq_iff_eq] at hsong
    rintro hmem
    obtain ⟨x, hx, hxs⟩ := List.mem_map.1 hmem
    exact hsong x hx hxs
  ids := by
    obtain ⟨hentries, hhistory⟩ := RequestQueue.holdsId_false.1 hid
    have hp := ((insertEntry_perm r.entries e p).map (·.id)).append_right (r.history.map (·.id))
    rw [hq, hh, hp.nodup_iff, List.map_cons, List.cons_append, List.nodup_cons]
    refine ⟨?_, h.ids⟩
    simpa [not_or] using ⟨hentries, hhistory⟩
  idRange := by
    intro x hx
    rcases mem_insertEntry.1 (hq ▸ hx) with rfl | hx
    · exact hrange
    · exact h.idRange x hx

theorem RequestQueue.lawful_make {r : RequestQueue} (h : r.lawful) (hlen : r.entries.length < 32) (song : Nat)
    (lane : QueueLane) (origin : Origin) (list : List Requester) (p : Nat) (hsong : waitingSong r.entries song = none)
    (hrush : lane = .rush → rushCount r.entries < 2) : (r.make song lane origin list p).lawful :=
  RequestQueue.lawful_insert h _ p (by simp) (RequestQueue.freeId_free h.bounded) (RequestQueue.freeId_range h.bounded)
    hsong hrush (RequestQueue.bounded_make h.bounded hlen song lane origin list p) rfl rfl

section
variable {r : RequestQueue} (h : r.lawful) {e : Entry} (he : e ∈ r.entries)
include h

theorem RequestQueue.lawful.idsNodup : (r.entries.map (·.id)).Nodup := (List.nodup_append.1 h.ids).1

theorem RequestQueue.lawful.unique {a b : Entry} (ha : a ∈ r.entries) (hb : b ∈ r.entries) (hab : a.id = b.id) : a = b :=
  entry_unique h.idsNodup ha hb hab

theorem RequestQueue.lawful.notInHistory {a : Entry} (ha : a ∈ r.entries) : ∀ x ∈ r.history, x.id ≠ a.id := by
  intro x hx hxa
  exact (List.nodup_append.1 h.ids).2.2 _ (List.mem_map_of_mem ha) _ (List.mem_map_of_mem hx) hxa.symm

include he

/-- No entry keeps the id of one that was removed. -/
theorem RequestQueue.lawful.removed_free : RequestQueue.holdsId { r with entries := removeEntry r.entries e.id } e.id = false :=
  RequestQueue.holdsId_false.2 ⟨fun _ hx => (mem_removeEntry.1 hx).2, h.notInHistory he⟩

/-- The song of a waiting entry waits no more once it is removed. -/
theorem RequestQueue.lawful.removed_song (hw : e.state ≠ .playing) : waitingSong (removeEntry r.entries e.id) e.song = none := by
  simp only [waitingSong, List.find?_eq_none, beq_iff_eq]
  intro x hx hsong
  obtain ⟨hx, hxw⟩ := mem_waiting.1 hx
  obtain ⟨hx, hid⟩ := mem_removeEntry.1 hx
  exact hid (congrArg _ (List.inj_on_of_nodup_map h.songs (mem_waiting.2 ⟨hx, hxw⟩) (mem_waiting.2 ⟨he, hw⟩) hsong))

end

@[simp] theorem updateEntry_length (q : List Entry) (id : Nat) (f : Entry → Entry) : (updateEntry q id f).length = q.length := by
  simp [updateEntry]

/-- A change of the entry of an id is a change of that entry alone. -/
theorem RequestQueue.lawful.mem_update {r : RequestQueue} (h : r.lawful) {e : Entry} (he : e ∈ r.entries)
    {f : Entry → Entry} {x : Entry} :
    x ∈ updateEntry r.entries e.id f ↔ x = f e ∨ x ∈ r.entries ∧ x.id ≠ e.id := by
  simp only [updateEntry, List.mem_map]
  constructor
  · rintro ⟨z, hz, rfl⟩
    split
    · next hid => exact .inl (congrArg f (h.unique hz he hid))
    · next hid => exact .inr ⟨hz, hid⟩
  · rintro (rfl | ⟨hx, hid⟩)
    · exact ⟨e, he, if_pos rfl⟩
    · exact ⟨x, hx, if_neg hid⟩

/-- A change of one entry that keeps its place leaves the queue lawful. -/
theorem RequestQueue.lawful_update {r : RequestQueue} (h : r.lawful) {e : Entry} (he : e ∈ r.entries) {f : Entry → Entry}
    (hf : e.sameSeat (f e)) : RequestQueue.lawful { r with entries := updateEntry r.entries e.id f } := by
  have seat : ∀ z ∈ r.entries, z.sameSeat (if z.id = e.id then f z else z) := by
    intro z hz
    split
    · next hid => rwa [h.unique hz he hid]
    · exact z.sameSeat_refl
  have := RequestQueue.lawful_map h seat (g := id) (fun _ => rfl)
  rwa [List.map_id] at this

/-- An entry taken out and put back in another place leaves one entry fewer to make room for it (R5). -/
theorem removeEntry_length_lt {q : List Entry} {e : Entry} (he : e ∈ q) : (removeEntry q e.id).length < q.length :=
  List.length_filter_lt_length_iff_exists.2 ⟨e, he, by simp⟩

theorem RequestQueue.bounded_place {r : RequestQueue} (h : r.bounded) {e x : Entry} (he : e ∈ r.entries) (p : Nat) :
    RequestQueue.bounded { r with entries := insertEntry (removeEntry r.entries e.id) x p } := by
  refine RequestQueue.bounded_of_shorter h ?_ h.history
  rw [insertEntry_length]
  exact removeEntry_length_lt he

theorem RequestQueue.lawful_place {r : RequestQueue} (h : r.lawful) {e : Entry} (he : e ∈ r.entries)
    (hw : e.state ≠ .playing) (l : QueueLane) (p : Nat) (hrush : l = .rush → rushCount (removeEntry r.entries e.id) < 2) :
    RequestQueue.lawful { r with entries := insertEntry (removeEntry r.entries e.id) { e with lane := l } p } := by
  have hid := h.removed_free he
  have hsong := h.removed_song he hw
  exact RequestQueue.lawful_insert (RequestQueue.lawful_filter h _) { e with lane := l } p hw hid (h.idRange e he) hsong hrush
    (RequestQueue.bounded_place h.bounded he p) rfl rfl

theorem RequestQueue.bounded_cue {r : RequestQueue} (h : r.bounded) {e x : Entry} (he : e ∈ r.entries) :
    RequestQueue.bounded { r with entries := x :: removeEntry r.entries e.id } :=
  RequestQueue.bounded_of_shorter h (removeEntry_length_lt he) h.history

/-- With no entry PLAYING, a waiting entry put at the head as PLAYING leaves the queue lawful (R22). -/
theorem RequestQueue.lawful_cue {r : RequestQueue} (h : r.lawful) (hp : ∀ x ∈ r.entries, x.state ≠ .playing) {e : Entry}
    (he : e ∈ r.entries) :
    RequestQueue.lawful { r with entries := { e with state := .playing } :: removeEntry r.entries e.id } := by
  have hrest := RequestQueue.lawful_filter h fun x => x.id != e.id
  have hnone : ∀ x ∈ removeEntry r.entries e.id, x.state ≠ .playing := fun x hx => hp x (mem_removeEntry.1 hx).1
  have hwait : waiting ({ e with state := .playing } :: removeEntry r.entries e.id) = waiting (removeEntry r.entries e.id) :=
    List.filter_cons_of_neg (by simp)
  refine ⟨RequestQueue.bounded_cue h.bounded he, inOrder_cons_playing hrest.order hnone rfl, ?_, ?_, ?_, ?_, ?_⟩
  · have hnil : (removeEntry r.entries e.id).filter (fun e => !e.waits) = [] := by
      simpa [List.filter_eq_nil_iff] using hnone
    rw [List.filter_cons_of_pos (by simp [Entry.waits]), hnil]
    exact Nat.le_refl 1
  · rw [rushCount, laneEntries, hwait]
    exact hrest.rush
  · rw [hwait]
    exact hrest.songs
  · obtain ⟨hentries, hhistory⟩ := RequestQueue.holdsId_false.1 (h.removed_free he)
    rw [List.map_cons, List.cons_append, List.nodup_cons]
    refine ⟨?_, hrest.ids⟩
    simpa [not_or] using ⟨hentries, hhistory⟩
  · intro x hx
    rcases List.mem_cons.1 hx with rfl | hx
    · exact h.idRange e he
    · exact hrest.idRange x hx

/-- An entry moved into the history as its newest record leaves the queue lawful (R23, R24). -/
theorem RequestQueue.lawful_shelve {r : RequestQueue} (h : r.lawful) {e : Entry} (he : e ∈ r.entries) (x : HistoryRecord)
    (hx : x.id = e.id) :
    RequestQueue.lawful { r with entries := removeEntry r.entries e.id, history := (x :: r.history).take 8 } := by
  have hrest := RequestQueue.lawful_filter h fun x => x.id != e.id
  obtain ⟨hentries, hhistory⟩ := RequestQueue.holdsId_false.1 (h.removed_free he)
  refine ⟨RequestQueue.bounded_of_shorter h.bounded (List.length_filter_le ..) (by simp), hrest.order, hrest.onePlaying,
    hrest.rush, hrest.songs, ?_, hrest.idRange⟩
  have hall : ((removeEntry r.entries e.id).map (·.id) ++ (x :: r.history).map (·.id)).Nodup := by
    rw [List.map_cons, List.nodup_middle, List.nodup_cons]
    refine ⟨?_, hrest.ids⟩
    simpa [not_or, hx] using ⟨hentries, hhistory⟩
  exact hall.sublist (((List.take_sublist 8 _).map _).append_left _)

theorem RequestQueue.lawful_policy {r : RequestQueue} (h : r.lawful) (rush : Bool) (limit : Nat)
    (hl : 1 ≤ limit ∧ limit ≤ 8) : RequestQueue.lawful { r with rushEnabled := rush, padLimit := limit } :=
  ⟨⟨h.bounded.entries, h.bounded.history, h.bounded.nextId, h.bounded.arrivals, hl⟩, h.order, h.onePlaying, h.rush,
    h.songs, h.ids, h.idRange⟩

/-- An empty queue and history within their bounds are lawful. -/
theorem RequestQueue.lawful_empty {r : RequestQueue} (h : r.bounded) (hq : r.entries = []) (hh : r.history = []) :
    r.lawful := by
  refine ⟨h, ?_, ?_, ?_, ?_, ?_, ?_⟩ <;> simp [hq, hh, waiting, laneEntries, rushCount]

end Sys2Proof.Machine

namespace Sys2Proof.Machine

/-! ## Slots and the entries they hold (R50, R52) -/

theorem State.slot_setSlot (s : State) (n k : SlotName) (x : Slot) :
    (s.setSlot n x).slot k = if k = n then x else s.slot k := by
  split
  · next h => rw [h, State.setSlot_slot]
  · next h => rw [State.setSlot_other _ _ h]

@[simp] theorem State.setEntries_slot (s : State) (q : List Entry) (n : SlotName) : (s.setEntries q).slot n = s.slot n := by
  cases n <;> rfl
@[simp] theorem State.tellPads_slot (s : State) (l : List Requester) (x : NewsItem) (n : SlotName) :
    (s.tellPads l x).slot n = s.slot n := by cases n <;> rfl
@[simp] theorem State.setPad_slot (s : State) (i : Fin 8) (p : PadRecord) (n : SlotName) : (s.setPad i p).slot n = s.slot n := by
  cases n <;> rfl
@[simp] theorem State.raiseIf_slot (s : State) (c : Bool) (m : Member) (n : SlotName) : (s.raiseIf c m).slot n = s.slot n := by
  cases c <;> simp

theorem Slot.holds_iff {x : Slot} {id : Nat} : x.holds id = true ↔ ∃ h, x.held = some h ∧ h.entryId = id := by
  simp [Slot.holds, Option.map_eq_some_iff]

@[simp] theorem Slot.emptied_state (x : Slot) : x.emptied.state = .empty := rfl
@[simp] theorem Slot.emptied_held (x : Slot) : x.emptied.held = none := rfl
@[simp] theorem Slot.emptied_holds (x : Slot) (id : Nat) : x.emptied.holds id = false := rfl

theorem State.slotHolding_some {s : State} {id : Nat} {n : SlotName} (h : s.slotHolding id = some n) :
    (s.slot n).holds id = true := by
  unfold State.slotHolding at h
  split_ifs at h with ha hb <;> cases h
  · exact ha
  · exact hb

theorem State.slotHolding_none {s : State} {id : Nat} :
    s.slotHolding id = none ↔ ∀ n : SlotName, (s.slot n).holds id = false := by
  have both : (∀ n : SlotName, (s.slot n).holds id = false) ↔ s.slotA.holds id = false ∧ s.slotB.holds id = false :=
    ⟨fun h => ⟨h .a, h .b⟩, fun h n => by cases n <;> simp [State.slot, h]⟩
  rw [both, State.slotHolding]
  cases s.slotA.holds id <;> cases s.slotB.holds id <;> simp

/-- The slot found for an entry is emptied, the other kept. -/
theorem State.emptySlotOf_slot (s : State) (id : Nat) (n : SlotName) :
    (s.emptySlotOf id).slot n = if s.slotHolding id = some n then (s.slot n).emptied else s.slot n := by
  unfold State.emptySlotOf
  cases s.slotHolding id with
  | none => simp
  | some k =>
    simp only [State.slot_setSlot, Option.some.injEq]
    by_cases h : n = k
    · simp [h]
    · simp [h, Ne.symm h]

section
variable (s : State) (id : Nat)
@[simp] theorem State.emptySlotOf_pending : (s.emptySlotOf id).pending = s.pending := by unfold State.emptySlotOf; split <;> simp
@[simp] theorem State.emptySlotOf_resetLow : (s.emptySlotOf id).resetLow = s.resetLow := by unfold State.emptySlotOf; split <;> simp
@[simp] theorem State.emptySlotOf_blocks : (s.emptySlotOf id).blocks = s.blocks := by unfold State.emptySlotOf; split <;> simp
@[simp] theorem State.emptySlotOf_draws : (s.emptySlotOf id).draws = s.draws := by unfold State.emptySlotOf; split <;> simp
@[simp] theorem State.emptySlotOf_rq : (s.emptySlotOf id).rq = s.rq := by unfold State.emptySlotOf; split <;> simp
@[simp] theorem State.emptySlotOf_pbc : (s.emptySlotOf id).pbc = s.pbc := by unfold State.emptySlotOf; split <;> simp
@[simp] theorem State.emptySlotOf_tr : (s.emptySlotOf id).tr = s.tr := by unfold State.emptySlotOf; split <;> simp
@[simp] theorem State.emptySlotOf_mfe : (s.emptySlotOf id).mfe = s.mfe := by unfold State.emptySlotOf; split <;> simp
@[simp] theorem State.emptySlotOf_su : (s.emptySlotOf id).su = s.su := by unfold State.emptySlotOf; split <;> simp
@[simp] theorem State.emptySlotOf_llu : (s.emptySlotOf id).llu = s.llu := by unfold State.emptySlotOf; split <;> simp
@[simp] theorem State.emptySlotOf_cmp : (s.emptySlotOf id).cmp = s.cmp := by unfold State.emptySlotOf; split <;> simp
@[simp] theorem State.emptySlotOf_att : (s.emptySlotOf id).att = s.att := by unfold State.emptySlotOf; split <;> simp
@[simp] theorem State.emptySlotOf_link : (s.emptySlotOf id).link = s.link := by unfold State.emptySlotOf; split <;> simp
end

/-! ## The match of queue, slots and Transport, slot by slot -/

/-- What `State.matched` asks of one slot beside a queue (R50, R52, R61). -/
structure Slot.fits (x : Slot) (q : List Entry) : Prop where
  empty : x.state = .empty ↔ x.held = none
  held : ∀ h, x.held = some h → 64 ≤ h.size ∧ h.size ≤ 262144 ∧
    ∃ e ∈ q, e.id = h.entryId ∧ x.state.entryState = some e.state
  checked : x.state = .staged ∨ x.state = .active → checkRange x.image = none

/-- An entry in a state in which a slot holds it (R52). -/
def Entry.slotted (e : Entry) : Prop := e.state = .loading ∨ e.state = .staged ∨ e.state = .playing

theorem SlotState.entryState_slotted {st : SlotState} {e : Entry} (h : st.entryState = some e.state) : e.slotted := by
  cases st <;> simp [SlotState.entryState] at h <;> simp [Entry.slotted, ← h]

theorem SlotState.entryState_playing {st : SlotState} : st.entryState = some .playing ↔ st = .active := by
  cases st <;> simp [SlotState.entryState]

theorem SlotState.entryState_staged {st : SlotState} : st.entryState = some .staged ↔ st = .staged := by
  cases st <;> simp [SlotState.entryState]

theorem Slot.fits_empty {x : Slot} (hs : x.state = .empty) (hh : x.held = none) (q : List Entry) : x.fits q :=
  ⟨by simp [hs, hh], by simp [hh], by simp [hs]⟩

/-- A slot fits another queue in which its entry stands in the same state. -/
theorem Slot.fits.toQueue {x : Slot} {q q' : List Entry} (h : x.fits q)
    (hq : ∀ e ∈ q, x.holds e.id = true → e.slotted → ∃ e' ∈ q', e'.id = e.id ∧ e'.state = e.state) : x.fits q' where
  empty := h.empty
  held := by
    intro y hy
    obtain ⟨hlo, hhi, e, he, hid, hst⟩ := h.held y hy
    obtain ⟨e', he', hid', hst'⟩ := hq e he (Slot.holds_iff.2 ⟨y, hy, hid.symm⟩) (SlotState.entryState_slotted hst)
    exact ⟨hlo, hhi, e', he', hid'.trans hid, hst' ▸ hst⟩
  checked := h.checked

theorem State.matched.fits {s : State} (h : s.matched) (n : SlotName) : (s.slot n).fits s.rq.entries :=
  ⟨h.empty n, h.held n, h.checked n⟩

/-- No two slots hold one entry. -/
theorem State.matched.oneHolder {s : State} (h : s.matched) {n k : SlotName} {id : Nat}
    (hn : (s.slot n).holds id = true) (hk : (s.slot k).holds id = true) : n = k := by
  cases n <;> cases k
  · rfl
  · exact absurd ⟨hn, hk⟩ (h.apart id)
  · exact absurd ⟨hk, hn⟩ (h.apart id)
  · rfl

/-- The entry a slot holds is in the state that matches the slot's. -/
theorem State.matched.heldState {s : State} (h : s.matched) {n : SlotName} {e : Entry} (he : e ∈ s.rq.entries)
    (hn : (s.slot n).holds e.id = true) : (s.slot n).state.entryState = some e.state := by
  obtain ⟨y, hy, hid⟩ := Slot.holds_iff.1 hn
  obtain ⟨_, _, x, hx, hxid, hst⟩ := h.held n y hy
  rwa [h.queue.unique hx he (hxid.trans hid)] at hst

theorem State.matched.heldSlotted {s : State} (h : s.matched) {n : SlotName} {e : Entry} (he : e ∈ s.rq.entries)
    (hn : (s.slot n).holds e.id = true) : e.slotted :=
  SlotState.entryState_slotted (h.heldState he hn)

/-- A slot that holds an id names an entry of the queue. -/
theorem State.matched.heldEntry {s : State} (h : s.matched) {n : SlotName} {id : Nat} (hn : (s.slot n).holds id = true) :
    ∃ e ∈ s.rq.entries, e.id = id := by
  obtain ⟨y, hy, hid⟩ := Slot.holds_iff.1 hn
  obtain ⟨_, _, e, he, hxid, _⟩ := h.held n y hy
  exact ⟨e, he, hxid.trans hid⟩

/-- A list of at most one entry holds no two. -/
theorem eq_of_length_le_one {l : List Entry} (h : l.length ≤ 1) {a b : Entry} (ha : a ∈ l) (hb : b ∈ l) : a = b := by
  obtain ⟨x, hx⟩ := List.length_eq_one_iff.1 (Nat.le_antisymm h (List.length_pos_of_mem ha))
  simp only [hx, List.mem_singleton] at ha hb
  rw [ha, hb]

theorem RequestQueue.lawful.onePlayingEntry {r : RequestQueue} (h : r.lawful) {a b : Entry} (ha : a ∈ r.entries)
    (hb : b ∈ r.entries) (hap : a.state = .playing) (hbp : b.state = .playing) : a = b :=
  eq_of_length_le_one h.onePlaying (List.mem_filter.2 ⟨ha, by simp [Entry.waits, hap]⟩)
    (List.mem_filter.2 ⟨hb, by simp [Entry.waits, hbp]⟩)

/-- The match, from slots that fit. That not both slots are ACTIVE follows: at most one entry is PLAYING. -/
theorem State.matched_of {s : State} (queue : s.rq.lawful) (fits : ∀ n, (s.slot n).fits s.rq.entries)
    (holder : ∀ e ∈ s.rq.entries, e.slotted → ∃ n : SlotName, (s.slot n).holds e.id = true)
    (oneHolder : ∀ (n k : SlotName) (id : Nat), (s.slot n).holds id = true → (s.slot k).holds id = true → n = k)
    (song : s.tr.state = .idle ↔ ∀ e ∈ s.rq.entries, e.state ≠ .playing) : s.matched where
  queue := queue
  empty n := (fits n).empty
  held n := (fits n).held
  holder := holder
  apart id h := by cases oneHolder .a .b id h.1 h.2
  oneActive := by
    have playing {n : SlotName} (hn : (s.slot n).state = .active) :
        ∃ e ∈ s.rq.entries, e.state = .playing ∧ (s.slot n).holds e.id = true := by
      cases hy : (s.slot n).held with
      | none => simp [(fits n).empty.2 hy] at hn
      | some y =>
        obtain ⟨_, _, e, he, hid, hst⟩ := (fits n).held y hy
        rw [SlotState.entryState_playing.2 hn, Option.some.injEq] at hst
        exact ⟨e, he, hst.symm, Slot.holds_iff.2 ⟨y, hy, hid.symm⟩⟩
    rintro ⟨ha, hb⟩
    obtain ⟨x, hx, hxp, hxa⟩ := playing (n := .a) ha
    obtain ⟨y, hy, hyp, hyb⟩ := playing (n := .b) hb
    rw [queue.onePlayingEntry hx hy hxp hyp] at hxa
    cases oneHolder .a .b y.id hxa hyb
  song := song
  checked n := (fits n).checked

/-! ## What keeps the match -/

/-- The queue, the slots, and whether a song is on, are the same in two states: what `State.matched` speaks of. -/
structure State.sameQueue (s t : State) : Prop where
  queue : t.rq = s.rq
  slotA : t.slotA = s.slotA
  slotB : t.slotB = s.slotB
  idle : t.tr.state = .idle ↔ s.tr.state = .idle

theorem State.sameQueue.slots {s t : State} (h : s.sameQueue t) (n : SlotName) : t.slot n = s.slot n := by
  cases n
  · exact h.slotA
  · exact h.slotB

/-- With the slots as they are, the match stands as long as the entries slots hold stand in their states. -/
theorem State.matched_of_queue {s t : State} (h : s.matched) (hslot : ∀ n, t.slot n = s.slot n)
    (hidle : t.tr.state = .idle ↔ s.tr.state = .idle) (hq : t.rq.lawful)
    (hold : ∀ e ∈ s.rq.entries, e.slotted → ∃ x ∈ t.rq.entries, x.id = e.id ∧ x.state = e.state)
    (hnew : ∀ x ∈ t.rq.entries, x.slotted → ∃ e ∈ s.rq.entries, x.id = e.id ∧ x.state = e.state) : t.matched := by
  refine State.matched_of hq ?_ ?_ ?_ ?_
  · intro n
    rw [hslot]
    exact (h.fits n).toQueue fun e he _ hsl => hold e he hsl
  · intro x hx hsl
    obtain ⟨e, he, hid, hst⟩ := hnew x hx hsl
    obtain ⟨n, hn⟩ := h.holder e he (by rwa [Entry.slotted, hst] at hsl)
    exact ⟨n, by rwa [hslot, hid]⟩
  · intro n k id hn hk
    rw [hslot] at hn hk
    exact h.oneHolder hn hk
  · rw [hidle, h.song]
    constructor
    · intro hp x hx hxp
      obtain ⟨e, he, _, hst⟩ := hnew x hx (.inr (.inr hxp))
      exact hp e he (hst ▸ hxp)
    · intro hp e he hep
      obtain ⟨x, hx, _, hst⟩ := hold e he (.inr (.inr hep))
      exact hp x hx (hst.trans hep)

theorem State.sameQueue.matched {s t : State} (h : s.sameQueue t) (hm : s.matched) : t.matched :=
  State.matched_of_queue hm h.slots h.idle (h.queue ▸ hm.queue) (fun e he _ => ⟨e, h.queue ▸ he, rfl, rfl⟩)
    (fun e he _ => ⟨e, h.queue ▸ he, rfl, rfl⟩)

/-- An entry taken out of the queue, the slot that holds it emptied, leaves the match, the Transport following. -/
theorem State.matched_remove {s t : State} (h : s.matched) (id : Nat) (hq : t.rq.lawful)
    (hentries : t.rq.entries = removeEntry s.rq.entries id)
    (hslot : ∀ n, t.slot n = if (s.slot n).holds id = true then (s.slot n).emptied else s.slot n)
    (hsong : t.tr.state = .idle ↔ ∀ e ∈ removeEntry s.rq.entries id, e.state ≠ .playing) : t.matched := by
  have kept {n : SlotName} {i : Nat} (hn : (t.slot n).holds i = true) : (s.slot n).holds i = true := by
    rw [hslot] at hn
    split at hn
    · simp at hn
    · exact hn
  refine State.matched_of hq ?_ ?_ (fun n k i hn hk => h.oneHolder (kept hn) (kept hk)) (by rw [hentries, hsong])
  · intro n
    rw [hslot, hentries]
    split
    · exact Slot.fits_empty rfl rfl _
    · next hn =>
      refine (h.fits n).toQueue fun e he hne _ => ⟨e, mem_removeEntry.2 ⟨he, ?_⟩, rfl, rfl⟩
      rintro rfl
      exact hn hne
  · intro e he hsl
    rw [hentries] at he
    obtain ⟨he, hne⟩ := mem_removeEntry.1 he
    obtain ⟨n, hn⟩ := h.holder e he hsl
    refine ⟨n, ?_⟩
    have : ¬ (s.slot n).holds id = true := by
      intro hid
      obtain ⟨y, hy, hyid⟩ := Slot.holds_iff.1 hid
      obtain ⟨z, hz, hzid⟩ := Slot.holds_iff.1 hn
      rw [hy] at hz
      cases hz
      exact hne (hzid.symm.trans hyid)
    rw [hslot, if_neg this]
    exact hn

/-! ### A slot and its entry changing state together -/

theorem setEntryState_rq (s : State) (id : Nat) (st : EntryState) :
    (s.setEntryState id st).rq =
      { s.rq with entries := updateEntry s.rq.entries id fun e => { e with state := st } } := rfl

@[simp] theorem setEntryState_tr (s : State) (id : Nat) (st : EntryState) : (s.setEntryState id st).tr = s.tr := rfl

@[simp] theorem setEntryState_slot (s : State) (id : Nat) (st : EntryState) (n : SlotName) :
    (s.setEntryState id st).slot n = s.slot n := State.setEntries_slot ..

/-- A slot beside the state that the entry of an id is turned to: it holds the entry, in the state that matches; or the
entry is READY, and the slot EMPTY. -/
inductive Slot.Turn (x : Slot) (id : Nat) (st : EntryState) : Prop where
  | emptied : x.state = .empty → x.held = none → st = .ready → x.Turn id st
  | holding (y : Held) : x.held = some y → y.entryId = id → 64 ≤ y.size → y.size ≤ 262144 → x.state.entryState = some st →
      (x.state = .staged → checkRange x.image = none) → x.Turn id st

theorem Slot.Turn.fits {x : Slot} {id : Nat} {st : EntryState} (h : x.Turn id st) (hst : st ≠ .playing) {q : List Entry}
    {e : Entry} (he : e ∈ q) (hid : e.id = id) (hes : e.state = st) : x.fits q := by
  cases h with
  | emptied hstate hheld _ => exact Slot.fits_empty hstate hheld q
  | holding y hy hyid hlo hhi hstate hchecked =>
    refine ⟨?_, ?_, ?_⟩
    · constructor <;> intro hc
      · simp [hc, SlotState.entryState] at hstate
      · simp [hc] at hy
    · intro z hz
      rw [hy] at hz
      cases hz
      exact ⟨hlo, hhi, e, he, hid.trans hyid.symm, hes ▸ hstate⟩
    · rintro (hc | hc)
      · exact hchecked hc
      · rw [SlotState.entryState_playing.2 hc, Option.some.injEq] at hstate
        exact absurd hstate.symm hst

theorem Slot.Turn.holds {x : Slot} {id i : Nat} {st : EntryState} (h : x.Turn id st) (hi : x.holds i = true) : i = id := by
  obtain ⟨z, hz, rfl⟩ := Slot.holds_iff.1 hi
  cases h with
  | emptied _ hheld _ => simp [hheld] at hz
  | holding y hy hyid =>
    rw [hy] at hz
    cases hz
    exact hyid

/-- Slot `n` and a waiting entry that no other slot holds turned together keep the match. -/
theorem State.matched_turn {s : State} (h : s.matched) {n : SlotName} {x : Slot} {e : Entry} {st : EntryState}
    (he : e ∈ s.rq.entries) (hw : e.state ≠ .playing) (hst : st ≠ .playing) (hx : x.Turn e.id st)
    (hothers : ∀ k ≠ n, (s.slot k).holds e.id = false) (hbefore : ∀ id, (s.slot n).holds id = true → id = e.id) :
    ((s.setSlot n x).setEntryState e.id st).matched := by
  have hlawful := RequestQueue.lawful_update h.queue he (f := fun z => { z with state := st })
    ⟨rfl, rfl, rfl, by rw [Bool.eq_iff_iff, Entry.waits_iff, Entry.waits_iff]; exact iff_of_true hst hw⟩
  have hmem {z : Entry} := h.queue.mem_update he (f := fun z => { z with state := st }) (x := z)
  have hslot (k : SlotName) : ((s.setSlot n x).setEntryState e.id st).slot k = if k = n then x else s.slot k := by
    rw [setEntryState_slot, State.slot_setSlot]
  have hrq : ((s.setSlot n x).setEntryState e.id st).rq =
      { s.rq with entries := updateEntry s.rq.entries e.id fun z => { z with state := st } } := by
    rw [setEntryState_rq, State.setSlot_rq]
  refine State.matched_of (hrq ▸ hlawful) ?_ ?_ ?_ ?_
  · intro k
    rw [hslot, hrq]
    split
    · exact hx.fits hst (hmem.2 (.inl rfl)) rfl rfl
    · next hk =>
      refine (h.fits k).toQueue fun z hz hzk _ => ⟨z, hmem.2 (.inr ⟨hz, fun hid => ?_⟩), rfl, rfl⟩
      rw [hid, hothers k hk] at hzk
      cases hzk
  · intro z hz hsl
    rw [hrq] at hz
    rcases hmem.1 hz with rfl | ⟨hz, hid⟩
    · refine ⟨n, ?_⟩
      rw [hslot, if_pos rfl]
      cases hx with
      | emptied _ _ hready => simp [Entry.slotted, hready] at hsl
      | holding y hy hyid => exact Slot.holds_iff.2 ⟨y, hy, hyid⟩
    · obtain ⟨k, hk⟩ := h.holder z hz hsl
      refine ⟨k, ?_⟩
      rwa [hslot, if_neg]
      rintro rfl
      exact hid (hbefore _ hk)
  · intro k j id hk hj
    rw [hslot] at hk hj
    split at hk <;> split at hj
    · next hkn hjn => rw [hkn, hjn]
    · next _ hjn => rw [hx.holds hk, hothers j hjn] at hj; cases hj
    · next hkn _ => rw [hx.holds hj, hothers k hkn] at hk; cases hk
    · exact h.oneHolder hk hj
  · rw [setEntryState_tr, State.setSlot_tr, h.song, hrq]
    constructor
    · intro hp z hz
      rcases hmem.1 hz with rfl | ⟨hz, _⟩
      · exact hst
      · exact hp z hz
    · intro hp z hz
      by_cases hid : z.id = e.id
      · rwa [h.queue.unique hz he hid]
      · exact hp z (hmem.2 (.inr ⟨hz, hid⟩))

end Sys2Proof.Machine

namespace Sys2Proof.Machine

/-! ## Everything a step can do to the queue and the slots

Each command moves the queue, the slots and the Transport by a chain of these moves; a condition that every move keeps
is kept by every step. -/

/-- The entry of an id, if the queue holds one, is a waiting one. -/
def cancellable (q : List Entry) (id : Nat) : Prop :=
  (∃ e ∈ q, e.id = id ∧ e.state ≠ .playing) ∨ ∀ e ∈ q, e.id ≠ id

/-- One move of the queue, the slots and whether a song is on. -/
inductive QueueMove : State → State → Prop where
  /-- Anything else of the state changes. -/
  | frame {s t : State} : s.sameQueue t → QueueMove s t
  /-- POLICY (R20). -/
  | policy (s : State) (rush : Bool) (limit : Nat) : 1 ≤ limit ∧ limit ≤ 8 →
      QueueMove s (s.setRq { s.rq with rushEnabled := rush, padLimit := limit })
  /-- Requester lists change (R9, R11, R25). -/
  | relisted (s : State) (f : Entry → Entry) (g : HistoryRecord → HistoryRecord) :
      (∀ e, e.sameSeat (f e) ∧ (f e).state = e.state) → (∀ x, (g x).id = x.id) →
      QueueMove s (s.setRq { s.rq with entries := s.rq.entries.map f, history := s.rq.history.map g })
  /-- A PENDING entry becomes READY (R13). -/
  | resolved (s : State) (e : Entry) (parts : Nat) (title : List Nat) : findEntry s.rq.entries e.id = some e →
      e.state = .pending →
      QueueMove s (s.setEntries (updateEntry s.rq.entries e.id fun x => x.resolved parts title))
  /-- A PENDING entry leaves the queue (R14). -/
  | dropped (s : State) (e : Entry) : findEntry s.rq.entries e.id = some e → e.state = .pending →
      QueueMove s (s.setEntries (removeEntry s.rq.entries e.id))
  /-- A waiting entry is cancelled (R12). -/
  | cancelled (s : State) (id : Nat) : cancellable s.rq.entries id →
      QueueMove s ((s.setEntries (removeEntry s.rq.entries id)).emptySlotOf id)
  /-- An entry is made (R10, R15). -/
  | made (s : State) (song : Nat) (lane : QueueLane) (origin : Origin) (list : List Requester) (p : Nat) :
      s.rq.entries.length < 32 → waitingSong s.rq.entries song = none → (lane = .rush → rushCount s.rq.entries < 2) →
      QueueMove s (s.setRq (s.rq.make song lane origin list p))
  /-- A waiting entry is put in another place (R16). -/
  | placed (s : State) (e : Entry) (l : QueueLane) (p : Nat) : e ∈ s.rq.entries → e.state ≠ .playing →
      (l = .rush → rushCount (removeEntry s.rq.entries e.id) < 2) →
      QueueMove s (s.setEntries (insertEntry (removeEntry s.rq.entries e.id) { e with lane := l } p))
  /-- A slot opens for a READY entry (R53). -/
  | opened (s : State) (n : SlotName) (x : Slot) (e : Entry) (size : Nat) : (s.slot n).state = .empty →
      e ∈ s.rq.entries → e.state = .ready → x.state = .filling → x.held = some ⟨e.id, size⟩ →
      64 ≤ size → size ≤ 262144 → QueueMove s ((s.setSlot n x).setEntryState e.id .loading)
  /-- A FILLING slot takes data or is sealed (R54, R55). -/
  | filled (s : State) (n : SlotName) (x : Slot) : (s.slot n).state = .filling → x.state = .filling ∨ x.state = .sealing →
      x.held = (s.slot n).held → QueueMove s (s.setSlot n x)
  /-- A SEALING slot's image passes the checks (R64). -/
  | validated (s : State) (n : SlotName) (y : Held) : (s.slot n).state = .sealing → (s.slot n).held = some y →
      checkRange (s.slot n).image = none →
      QueueMove s ((s.setSlot n { s.slot n with state := .staged }).setEntryState y.entryId .staged)
  /-- A slot that is not ACTIVE gives up its entry, which becomes READY (R64, R66). -/
  | yielded (s : State) (n : SlotName) (x : Slot) (y : Held) : (s.slot n).state ≠ .active → (s.slot n).held = some y →
      x.state = .empty → x.held = none → QueueMove s ((s.setSlot n x).setEntryState y.entryId .ready)
  /-- A slot that holds nothing is emptied (log entry 18). -/
  | reemptied (s : State) (n : SlotName) (x : Slot) : (s.slot n).held = none → x.state = .empty → x.held = none →
      QueueMove s (s.setSlot n x)
  /-- A STAGED entry is cued (R76). -/
  | cued (s : State) (e : Entry) : s.tr.state = .idle → e ∈ s.rq.entries → e.state = .staged → QueueMove s (s.cue e)
  /-- The song finishes (R96). -/
  | finished (s : State) (k : FinishKind) : s.tr.state ≠ .idle → QueueMove s (s.finishSong k)
  /-- A reset empties queue, history and slots (R26, R27, R70). -/
  | cleared {s t : State} : (s.rq.bounded → t.rq.bounded) → t.rq.entries = [] → t.rq.history = [] →
      (∀ n, (t.slot n).state = .empty ∧ (t.slot n).held = none) → t.tr.state = .idle → QueueMove s t

/-! ### Cueing and the finish -/

/-- Cueing with the slot that holds the entry known (R76). -/
theorem cue_queue {s : State} {e : Entry} {n : SlotName} (h : s.slotHolding e.id = some n) :
    (s.cue e).rq = { s.rq with entries := { e with state := .playing } :: removeEntry s.rq.entries e.id } ∧
      (s.cue e).tr.state = .cued ∧ ∀ k, (s.cue e).slot k = if k = n then { s.slot n with state := .active } else s.slot k := by
  simp only [State.cue, h]
  refine ⟨by simp [State.setEntries], by simp [Transport.cued], fun k => ?_⟩
  simp [State.slot_setSlot]

theorem cue_unheld {s : State} {e : Entry} (h : s.slotHolding e.id = none) : s.cue e = s := by
  simp only [State.cue, h]

theorem State.activeSlot_some {s : State} {n : SlotName} (h : s.activeSlot = some n) : (s.slot n).state = .active := by
  unfold State.activeSlot at h
  split_ifs at h with ha hb <;> cases h
  · exact ha
  · exact hb

theorem State.activeSlot_isSome {s : State} {n : SlotName} (h : (s.slot n).state = .active) : ∃ k, s.activeSlot = some k := by
  unfold State.activeSlot
  split_ifs with ha hb
  · exact ⟨_, rfl⟩
  · exact ⟨_, rfl⟩
  · cases n
    · exact absurd h ha
    · exact absurd h hb

theorem playingEntry_some {q : List Entry} {e : Entry} (h : playingEntry q = some e) : e ∈ q ∧ e.state = .playing :=
  ⟨List.mem_of_find?_eq_some h, by simpa using List.find?_some h⟩

theorem playingEntry_none {q : List Entry} : playingEntry q = none ↔ ∀ e ∈ q, e.state ≠ .playing := by
  simp [playingEntry]

theorem shelve_rq {s : State} {e : Entry} (h : playingEntry s.rq.entries = some e) (k : FinishKind) :
    (s.shelve k).rq = { s.rq with
      entries := removeEntry s.rq.entries e.id
      history := (⟨e.id, e.song, e.requesters, k, s.su.lanes.map Lane.result⟩ :: s.rq.history).take 8 } := by
  simp [State.shelve, h, State.placeInHistory]

@[simp] theorem shelve_slot (s : State) (k : FinishKind) (n : SlotName) : (s.shelve k).slot n = s.slot n := by
  cases n <;> simp [State.slot]

theorem shelve_none {s : State} (h : playingEntry s.rq.entries = none) (k : FinishKind) : s.shelve k = s := by
  simp only [State.shelve, h]

@[simp] theorem finishSong_rq (s : State) (k : FinishKind) : (s.finishSong k).rq = (s.shelve k).rq := by simp [State.finishSong]
@[simp] theorem finishSong_idle (s : State) (k : FinishKind) : (s.finishSong k).tr.state = .idle := by
  simp [State.finishSong, Transport.finished]

/-- The finish empties the ACTIVE slot (R69). -/
theorem finishSong_slot (s : State) (k : FinishKind) (n : SlotName) :
    (s.finishSong k).slot n = if s.activeSlot = some n then (s.slot n).emptied else s.slot n := by
  have hactive : ((s.shelve k).setSu (s.shelve k).su.cleared).activeSlot = s.activeSlot := by simp [State.activeSlot]
  simp only [State.finishSong, State.raise_slot, State.setTr_slot, State.setLlu_slot, State.releaseSlot, hactive]
  cases s.activeSlot with
  | none => simp
  | some m =>
    simp only [State.slot_setSlot, State.setSu_slot, shelve_slot, Option.some.injEq]
    by_cases h : n = m
    · simp [h]
    · simp [h, Ne.symm h]

/-! ### The bounds kept by every move -/

theorem QueueMove.bounded {s t : State} (h : QueueMove s t) (hs : s.rq.bounded) : t.rq.bounded := by
  have shorter {q : List Entry} (hq : q.length ≤ s.rq.entries.length) : RequestQueue.bounded { s.rq with entries := q } :=
    RequestQueue.bounded_of_shorter hs hq hs.history
  cases h with
  | frame h => rwa [h.queue]
  | policy rush limit hl => exact ⟨hs.entries, hs.history, hs.nextId, hs.arrivals, hl⟩
  | relisted f g _ _ => exact RequestQueue.bounded_of_shorter hs (by simp) (by simpa using hs.history)
  | resolved e parts title _ _ => exact shorter (updateEntry_length ..).le
  | dropped e _ _ => exact shorter (List.length_filter_le ..)
  | cancelled id _ =>
    rw [State.emptySlotOf_rq]
    exact shorter (List.length_filter_le ..)
  | made song lane origin list p hlen _ _ => exact RequestQueue.bounded_make hs hlen song lane origin list p
  | placed e l p he _ _ => exact RequestQueue.bounded_place hs he p
  | opened n x e size _ _ _ _ _ _ _ =>
    rw [setEntryState_rq, State.setSlot_rq]
    exact shorter (updateEntry_length ..).le
  | filled n x _ _ _ => rwa [State.setSlot_rq]
  | validated n y _ _ _ =>
    rw [setEntryState_rq, State.setSlot_rq]
    exact shorter (updateEntry_length ..).le
  | yielded n x y _ _ _ _ =>
    rw [setEntryState_rq, State.setSlot_rq]
    exact shorter (updateEntry_length ..).le
  | reemptied n x _ _ _ => rwa [State.setSlot_rq]
  | cued e _ he _ =>
    cases hn : s.slotHolding e.id with
    | none => rwa [cue_unheld hn]
    | some n =>
      rw [(cue_queue hn).1]
      exact RequestQueue.bounded_cue hs he
  | finished k _ =>
    rw [finishSong_rq]
    cases hp : playingEntry s.rq.entries with
    | none => rwa [shelve_none hp]
    | some e =>
      rw [shelve_rq hp]
      exact RequestQueue.bounded_of_shorter hs (List.length_filter_le ..) (by simp)
  | cleared hb _ _ _ _ => exact hb hs

/-! ### The match kept by every move -/

section
variable {s : State} (h : s.matched)
include h

theorem State.matched.not_playing_of_idle (hi : s.tr.state = .idle) : ∀ e ∈ s.rq.entries, e.state ≠ .playing := h.song.1 hi

/-- No slot holds an entry in a state in which none is held. -/
theorem State.matched.unheld {e : Entry} (he : e ∈ s.rq.entries) (hst : ¬ e.slotted) (n : SlotName) :
    (s.slot n).holds e.id = false := by
  by_contra hn
  exact hst (h.heldSlotted he (by simpa using hn))

/-- The slot found for an id is the one that holds it. -/
theorem State.matched.slotHolding_iff {id : Nat} {n : SlotName} : s.slotHolding id = some n ↔ (s.slot n).holds id = true := by
  refine ⟨State.slotHolding_some, fun hn => ?_⟩
  cases hk : s.slotHolding id with
  | none => rw [State.slotHolding_none.1 hk] at hn; cases hn
  | some k => rw [h.oneHolder hn (State.slotHolding_some hk)]

theorem State.matched.relisted {f : Entry → Entry} {g : HistoryRecord → HistoryRecord}
    (hf : ∀ e, e.sameSeat (f e) ∧ (f e).state = e.state) (hg : ∀ x, (g x).id = x.id) :
    (s.setRq { s.rq with entries := s.rq.entries.map f, history := s.rq.history.map g }).matched := by
  refine State.matched_of_queue h (by simp) (by simp) (RequestQueue.lawful_map h.queue (fun e _ => (hf e).1) hg) ?_ ?_
  · exact fun e he _ => ⟨f e, List.mem_map_of_mem he, (hf e).1.id, (hf e).2⟩
  · intro x hx _
    obtain ⟨e, he, rfl⟩ := List.mem_map.1 hx
    exact ⟨e, he, (hf e).1.id, (hf e).2⟩

theorem State.matched.resolved {e : Entry} (hfind : findEntry s.rq.entries e.id = some e) (hst : e.state = .pending)
    (parts : Nat) (title : List Nat) :
    (s.setEntries (updateEntry s.rq.entries e.id fun x => x.resolved parts title)).matched := by
  have he := (findEntry_some hfind).1
  have hmem {x : Entry} := h.queue.mem_update he (f := fun x => x.resolved parts title) (x := x)
  have hseat : e.sameSeat (e.resolved parts title) := ⟨rfl, rfl, rfl, by rw [Entry.waits, Entry.waits, hst]; rfl⟩
  refine State.matched_of_queue h (by simp) (by simp) (RequestQueue.lawful_update h.queue he hseat) ?_ ?_
  · intro x hx hsl
    refine ⟨x, hmem.2 (.inr ⟨hx, fun hid => ?_⟩), rfl, rfl⟩
    rw [h.queue.unique hx he hid] at hsl
    simp [Entry.slotted, hst] at hsl
  · intro x hx hsl
    rcases hmem.1 hx with rfl | ⟨hx, _⟩
    · simp [Entry.slotted, Entry.resolved] at hsl
    · exact ⟨x, hx, rfl, rfl⟩

theorem State.matched.dropped {e : Entry} (hfind : findEntry s.rq.entries e.id = some e) (hst : e.state = .pending) :
    (s.setEntries (removeEntry s.rq.entries e.id)).matched := by
  have he := (findEntry_some hfind).1
  have unheld := h.unheld he (by simp [Entry.slotted, hst])
  refine State.matched_remove h e.id (RequestQueue.lawful_filter h.queue _) rfl (by simp [unheld]) ?_
  rw [State.setEntries_tr, h.song]
  refine ⟨fun hp x hx => hp x (mem_removeEntry.1 hx).1, fun hp x hx hxp => ?_⟩
  refine hp x (mem_removeEntry.2 ⟨hx, fun hid => ?_⟩) hxp
  cases h.queue.unique hx he hid
  simp [hst] at hxp

theorem State.matched.cancelled {id : Nat} (hc : cancellable s.rq.entries id) :
    ((s.setEntries (removeEntry s.rq.entries id)).emptySlotOf id).matched := by
  have hw : ∀ e ∈ s.rq.entries, e.id = id → e.state ≠ .playing := by
    intro e he hid
    rcases hc with ⟨x, hx, hxid, hst⟩ | hnone
    · rwa [h.queue.unique he hx (hid.trans hxid.symm)]
    · exact absurd hid (hnone e he)
  refine State.matched_remove h id ?_ ?_ ?_ ?_
  · rw [State.emptySlotOf_rq]
    exact RequestQueue.lawful_filter h.queue _
  · rw [State.emptySlotOf_rq, State.setEntries_entries]
  · intro n
    have : (s.setEntries (removeEntry s.rq.entries id)).slotHolding id = s.slotHolding id := rfl
    simp only [State.emptySlotOf_slot, State.setEntries_slot, this, h.slotHolding_iff]
  · rw [State.emptySlotOf_tr, State.setEntries_tr, h.song]
    refine ⟨fun hp x hx => hp x (mem_removeEntry.1 hx).1, fun hp x hx hxp => ?_⟩
    exact hp x (mem_removeEntry.2 ⟨hx, fun hid => hw x hx hid hxp⟩) hxp

theorem State.matched.made {song : Nat} {lane : QueueLane} (origin : Origin) (list : List Requester) (p : Nat)
    (hlen : s.rq.entries.length < 32) (hsong : waitingSong s.rq.entries song = none)
    (hrush : lane = .rush → rushCount s.rq.entries < 2) : (s.setRq (s.rq.make song lane origin list p)).matched := by
  refine State.matched_of_queue h (by simp) (by simp)
    (RequestQueue.lawful_make h.queue hlen song lane origin list p hsong hrush) ?_ ?_
  · exact fun e he _ => ⟨e, mem_insertEntry.2 (.inr he), rfl, rfl⟩
  · intro x hx hsl
    rcases mem_insertEntry.1 hx with rfl | hx
    · simp [Entry.slotted] at hsl
    · exact ⟨x, hx, rfl, rfl⟩

theorem State.matched.placed {e : Entry} {l : QueueLane} (p : Nat) (he : e ∈ s.rq.entries) (hw : e.state ≠ .playing)
    (hrush : l = .rush → rushCount (removeEntry s.rq.entries e.id) < 2) :
    (s.setEntries (insertEntry (removeEntry s.rq.entries e.id) { e with lane := l } p)).matched := by
  refine State.matched_of_queue h (by simp) (by simp) (RequestQueue.lawful_place h.queue he hw l p hrush) ?_ ?_
  · intro x hx _
    by_cases hid : x.id = e.id
    · cases h.queue.unique hx he hid
      exact ⟨_, mem_insertEntry.2 (.inl rfl), rfl, rfl⟩
    · exact ⟨x, mem_insertEntry.2 (.inr (mem_removeEntry.2 ⟨hx, hid⟩)), rfl, rfl⟩
  · intro x hx _
    rcases mem_insertEntry.1 hx with rfl | hx
    · exact ⟨e, he, rfl, rfl⟩
    · exact ⟨x, (mem_removeEntry.1 hx).1, rfl, rfl⟩

theorem State.matched.opened {n : SlotName} {x : Slot} {e : Entry} {size : Nat} (hn : (s.slot n).state = .empty)
    (he : e ∈ s.rq.entries) (hst : e.state = .ready) (hx : x.state = .filling) (hheld : x.held = some ⟨e.id, size⟩)
    (hlo : 64 ≤ size) (hhi : size ≤ 262144) : ((s.setSlot n x).setEntryState e.id .loading).matched := by
  refine State.matched_turn h he (by simp [hst]) (by simp) ?_ ?_ ?_
  · exact .holding _ hheld rfl hlo hhi (by rw [hx]; rfl) (by simp [hx])
  · exact fun k _ => h.unheld he (by simp [Entry.slotted, hst]) k
  · intro id hid
    obtain ⟨y, hy, _⟩ := Slot.holds_iff.1 hid
    simp [(h.empty n).1 hn] at hy

/-- A slot changed but for what it holds keeps the match, if it still fits. -/
theorem State.matched.sameHeld {n : SlotName} {x : Slot} (hheld : x.held = (s.slot n).held) (hx : x.fits s.rq.entries) :
    (s.setSlot n x).matched := by
  have hholds (k : SlotName) (id : Nat) : ((s.setSlot n x).slot k).holds id = (s.slot k).holds id := by
    rw [State.slot_setSlot]
    split
    · next hk => rw [hk, Slot.holds, Slot.holds, hheld]
    · rfl
  refine State.matched_of (by simpa using h.queue) ?_ ?_ ?_ (by simpa using h.song)
  · intro k
    rw [State.slot_setSlot, State.setSlot_rq]
    split
    · exact hx
    · exact h.fits k
  · intro e he hsl
    obtain ⟨k, hk⟩ := h.holder e (by simpa using he) hsl
    exact ⟨k, by rwa [hholds]⟩
  · intro k j id hk hj
    rw [hholds] at hk hj
    exact h.oneHolder hk hj

theorem State.matched.filled {n : SlotName} {x : Slot} (hn : (s.slot n).state = .filling)
    (hx : x.state = .filling ∨ x.state = .sealing) (hheld : x.held = (s.slot n).held) : (s.setSlot n x).matched := by
  have hstate : x.state.entryState = (s.slot n).state.entryState := by
    rcases hx with hx | hx <;> simp [hx, hn, SlotState.entryState]
  refine h.sameHeld hheld ⟨?_, ?_, ?_⟩
  · rw [hheld, ← h.empty n, hn]
    rcases hx with hx | hx <;> simp [hx]
  · rw [hheld, hstate]
    exact h.held n
  · rcases hx with hx | hx <;> simp [hx]

/-- A slot that is not ACTIVE, and the entry it holds, turned together keep the match. -/
theorem State.matched.turned {n : SlotName} {x : Slot} {y : Held} {st : EntryState} (hn : (s.slot n).state ≠ .active)
    (hy : (s.slot n).held = some y) (hst : st ≠ .playing) (hx : x.Turn y.entryId st) :
    ((s.setSlot n x).setEntryState y.entryId st).matched := by
  obtain ⟨_, _, e, he, hid, hstate⟩ := h.held n y hy
  have hne : (s.slot n).holds e.id = true := Slot.holds_iff.2 ⟨y, hy, hid.symm⟩
  rw [← hid] at hx ⊢
  refine State.matched_turn h he ?_ hst hx ?_ ?_
  · intro hp
    rw [hp] at hstate
    exact hn (SlotState.entryState_playing.1 hstate)
  · intro k hk
    by_contra hke
    exact hk (h.oneHolder (by simpa using hke) hne)
  · intro i hi
    obtain ⟨z, hz, rfl⟩ := Slot.holds_iff.1 hi
    rw [hy] at hz
    cases hz
    exact hid.symm

theorem State.matched.validated {n : SlotName} {y : Held} (hn : (s.slot n).state = .sealing)
    (hy : (s.slot n).held = some y) (hc : checkRange (s.slot n).image = none) :
    ((s.setSlot n { s.slot n with state := .staged }).setEntryState y.entryId .staged).matched := by
  obtain ⟨hlo, hhi, _⟩ := h.held n y hy
  exact h.turned (by simp [hn]) hy (by simp) (.holding y hy rfl hlo hhi rfl fun _ => hc)

/-- Cueing keeps the match: the slot of the STAGED entry becomes ACTIVE as the entry becomes PLAYING, the first to do so
while the Transport was IDLE. -/
theorem State.matched.cued {e : Entry} (hi : s.tr.state = .idle) (he : e ∈ s.rq.entries) (hst : e.state = .staged) :
    (s.cue e).matched := by
  obtain ⟨n, hn⟩ := h.holder e he (.inr (.inl hst))
  obtain ⟨hrq, htr, hslot⟩ := cue_queue (h.slotHolding_iff.2 hn)
  have hnone := h.not_playing_of_idle hi
  have hstaged : (s.slot n).state = .staged := SlotState.entryState_staged.1 (hst ▸ h.heldState he hn)
  have hholds (k : SlotName) (id : Nat) : ((s.cue e).slot k).holds id = (s.slot k).holds id := by
    rw [hslot]
    split
    · next hk => rw [hk]; rfl
    · rfl
  refine State.matched_of (hrq ▸ RequestQueue.lawful_cue h.queue hnone he) ?_ ?_ ?_ ?_
  · intro k
    rw [hslot, hrq]
    split
    · refine ⟨?_, ?_, fun _ => h.checked n (.inl hstaged)⟩
      · rw [← h.empty n, hstaged]
        simp
      · intro y hy
        obtain ⟨hlo, hhi, x, hx, hid, _⟩ := h.held n y hy
        obtain ⟨z, hz, hzid⟩ := Slot.holds_iff.1 hn
        rw [show z = y from Option.some.inj (hz.symm.trans hy)] at hzid
        exact ⟨hlo, hhi, _, List.mem_cons_self, hzid.symm, rfl⟩
    · next hk =>
      refine (h.fits k).toQueue fun x hx hxk _ => ⟨x, List.mem_cons_of_mem _ (mem_removeEntry.2 ⟨hx, ?_⟩), rfl, rfl⟩
      intro hid
      rw [hid] at hxk
      exact hk (h.oneHolder hxk hn)
  · intro x hx hsl
    rw [hrq] at hx
    rcases List.mem_cons.1 hx with rfl | hx
    · exact ⟨n, by rwa [hholds]⟩
    · obtain ⟨k, hk⟩ := h.holder x (mem_removeEntry.1 hx).1 hsl
      exact ⟨k, by rwa [hholds]⟩
  · intro k j id hk hj
    rw [hholds] at hk hj
    exact h.oneHolder hk hj
  · rw [htr, hrq]
    simp

/-- The finish keeps the match: the PLAYING entry leaves for the history and its slot, the ACTIVE one, is emptied. -/
theorem State.matched.finished (k : FinishKind) (hi : s.tr.state ≠ .idle) : (s.finishSong k).matched := by
  cases hp : playingEntry s.rq.entries with
  | none => exact absurd (h.song.2 (playingEntry_none.1 hp)) hi
  | some e =>
    obtain ⟨he, hplaying⟩ := playingEntry_some hp
    obtain ⟨m, hm⟩ := h.holder e he (.inr (.inr hplaying))
    have hactive {n : SlotName} : s.activeSlot = some n ↔ (s.slot n).holds e.id = true := by
      have hma : (s.slot m).state = .active := SlotState.entryState_playing.1 (hplaying ▸ h.heldState he hm)
      have hone {j : SlotName} (hj : (s.slot j).state = .active) : j = m := by
        cases j <;> cases m
        · rfl
        · exact absurd ⟨hj, hma⟩ h.oneActive
        · exact absurd ⟨hma, hj⟩ h.oneActive
        · rfl
      obtain ⟨j, hj⟩ := State.activeSlot_isSome hma
      have hjm : s.activeSlot = some m := by rw [hj, hone (State.activeSlot_some hj)]
      rw [hjm, Option.some.injEq]
      exact ⟨fun hmn => hmn ▸ hm, fun hn => h.oneHolder hm hn⟩
    refine State.matched_remove h e.id ?_ ?_ ?_ ?_
    · rw [finishSong_rq, shelve_rq hp]
      exact RequestQueue.lawful_shelve h.queue he _ rfl
    · rw [finishSong_rq, shelve_rq hp]
    · intro n
      simp only [finishSong_slot, hactive]
    · rw [finishSong_idle]
      refine iff_of_true rfl fun x hx hxp => (mem_removeEntry.1 hx).2 ?_
      rw [h.queue.onePlayingEntry (mem_removeEntry.1 hx).1 he hxp hplaying]

end

/-- With nothing in the queue, the history and the slots, and the Transport IDLE, all match. -/
theorem State.matched_empty {s : State} (hb : s.rq.bounded) (hq : s.rq.entries = []) (hh : s.rq.history = [])
    (hslot : ∀ n, (s.slot n).state = .empty ∧ (s.slot n).held = none) (hi : s.tr.state = .idle) : s.matched := by
  have hholds (n : SlotName) (id : Nat) : (s.slot n).holds id = false := by simp [Slot.holds, (hslot n).2]
  refine State.matched_of (RequestQueue.lawful_empty hb hq hh) (fun n => Slot.fits_empty (hslot n).1 (hslot n).2 _) ?_ ?_ ?_
  · simp [hq]
  · intro n k id hn
    rw [hholds] at hn
    cases hn
  · simp [hq, hi]

theorem QueueMove.matched {s t : State} (h : QueueMove s t) (hs : s.matched) : t.matched := by
  cases h with
  | frame h => exact h.matched hs
  | policy rush limit hl =>
    exact State.matched_of_queue hs (by simp) (by simp) (RequestQueue.lawful_policy hs.queue rush limit hl)
      (fun e he _ => ⟨e, he, rfl, rfl⟩) (fun e he _ => ⟨e, he, rfl, rfl⟩)
  | relisted f g hf hg => exact hs.relisted hf hg
  | resolved e parts title hfind hst => exact hs.resolved hfind hst parts title
  | dropped e hfind hst => exact hs.dropped hfind hst
  | cancelled id hw => exact hs.cancelled hw
  | made song lane origin list p hlen hsong hrush => exact hs.made origin list p hlen hsong hrush
  | placed e l p he hw hrush => exact hs.placed p he hw hrush
  | opened n x e size hn he hst hx hheld hlo hhi => exact hs.opened hn he hst hx hheld hlo hhi
  | filled n x hn hx hheld => exact hs.filled hn hx hheld
  | validated n y hn hy hc => exact hs.validated hn hy hc
  | yielded n x y hn hy hx hheld => exact hs.turned hn hy (by simp) (.emptied hx hheld rfl)
  | reemptied n x hn hx hheld => exact hs.sameHeld (hheld.trans hn.symm) (Slot.fits_empty hx hheld _)
  | cued e hi he hst => exact hs.cued hi he hst
  | finished k hi => exact hs.finished k hi
  | cleared hb hq hh hslot hi => exact State.matched_empty (hb hs.queue.bounded) hq hh hslot hi

/-! ### Chains of moves -/

/-- A chain of moves. -/
def QueueMoves : State → State → Prop := Relation.ReflTransGen QueueMove

theorem QueueMoves.bounded {s t : State} (h : QueueMoves s t) (hs : s.rq.bounded) : t.rq.bounded := by
  induction h with
  | refl => exact hs
  | tail _ hmove ih => exact hmove.bounded ih

theorem QueueMoves.matched {s t : State} (h : QueueMoves s t) (hs : s.matched) : t.matched := by
  induction h with
  | refl => exact hs
  | tail _ hmove ih => exact hmove.matched ih

end Sys2Proof.Machine

namespace Sys2Proof.Machine

/-! ## Every step is a chain of queue moves -/

theorem QueueMoves.single {s t : State} (h : QueueMove s t) : QueueMoves s t := Relation.ReflTransGen.single h

theorem QueueMoves.trans {s t u : State} (h : QueueMoves s t) (hu : QueueMoves t u) : QueueMoves s u :=
  Relation.ReflTransGen.trans h hu

theorem QueueMoves.frame {s t : State} (h : s.sameQueue t) : QueueMoves s t := .single (.frame h)

theorem QueueMoves.same {s t : State} (h : t = s) : QueueMoves s t := h ▸ Relation.ReflTransGen.refl

/-- A move, and a change of the rest of the state. -/
theorem QueueMove.then {s t u : State} (h : QueueMove s t) (hu : t.sameQueue u) : QueueMoves s u :=
  (QueueMoves.single h).tail (.frame hu)

/-- A change of the rest of the state after a chain. -/
theorem QueueMoves.then {s t u : State} (h : QueueMoves s t) (hu : t.sameQueue u) : QueueMoves s u := h.tail (.frame hu)

theorem State.sameQueue.trans {s t u : State} (h : s.sameQueue t) (hu : t.sameQueue u) : s.sameQueue u :=
  ⟨hu.queue.trans h.queue, hu.slotA.trans h.slotA, hu.slotB.trans h.slotB, hu.idle.trans h.idle⟩

theorem sameQueue_refl (s : State) : s.sameQueue s := ⟨rfl, rfl, rfl, .rfl⟩
theorem sameQueue_raise (s : State) (m : Member) : s.sameQueue (s.raise m) := ⟨rfl, rfl, rfl, .rfl⟩
theorem sameQueue_raiseIf (s : State) (c : Bool) (m : Member) : s.sameQueue (s.raiseIf c m) :=
  ⟨by simp, by simp, by simp, by simp⟩
theorem sameQueue_tellPads (s : State) (l : List Requester) (n : NewsItem) : s.sameQueue (s.tellPads l n) :=
  ⟨rfl, rfl, rfl, .rfl⟩
theorem sameQueue_setPbc (s : State) (p : PadBus) : s.sameQueue (s.setPbc p) := ⟨rfl, rfl, rfl, .rfl⟩
theorem sameQueue_setPad (s : State) (i : Fin 8) (p : PadRecord) : s.sameQueue (s.setPad i p) := ⟨rfl, rfl, rfl, .rfl⟩
theorem sameQueue_setLink (s : State) (l : ControlLink) : s.sameQueue (s.setLink l) := ⟨rfl, rfl, rfl, .rfl⟩
theorem sameQueue_setTr (s : State) (t : Transport) (h : t.state = .idle ↔ s.tr.state = .idle) : s.sameQueue (s.setTr t) :=
  ⟨rfl, rfl, rfl, h⟩
theorem sameQueue_rebuild (s : State) : s.sameQueue s.rebuild := by
  unfold State.rebuild
  split
  · exact ⟨rfl, rfl, rfl, .rfl⟩
  · exact sameQueue_refl s

/-! ### Shared operations -/

theorem autoAdvance_moves (s : State) : QueueMoves s s.autoAdvance := by
  rcases autoAdvance_cases s with h | ⟨e, hi, _, hhead, hst, h⟩
  · exact .same h
  · rw [h]
    exact .single (.cued s e hi (mem_waiting.1 (List.mem_of_mem_head? hhead)).1 hst)

theorem QueueMoves.autoAdvance {s t : State} (h : QueueMoves s t) : QueueMoves s t.autoAdvance := h.trans (autoAdvance_moves t)

theorem QueueMoves.rebuild {s t : State} (h : QueueMoves s t) : QueueMoves s t.rebuild := h.then (sameQueue_rebuild t)

theorem finish_moves (s : State) (k : FinishKind) (h : s.tr.state ≠ .idle) : QueueMoves s (s.finish k) :=
  (QueueMoves.single (.finished s k h)).trans (autoAdvance_moves _)

theorem finishAtOnce_moves (s : State) (k : FinishKind) (h : s.tr.state ≠ .idle) : QueueMoves s (s.finishAtOnce k) := by
  unfold State.finishAtOnce
  split
  · exact finish_moves s k h
  · exact .same rfl

theorem sameQueue_resultEntry (s : State) (k : FinishKind) (h : s.tr.state ≠ .idle) : s.sameQueue (s.resultEntry k) :=
  ⟨rfl, rfl, rfl, iff_of_false nofun h⟩

theorem enterResult_moves (s : State) (k : FinishKind) (h : s.tr.state ≠ .idle) : QueueMoves s (s.enterResult k) :=
  (QueueMoves.frame (sameQueue_resultEntry s k h)).trans (finishAtOnce_moves _ k nofun)

theorem cancelEntry_moves (s : State) (e : Entry) (reason : DropReason)
    (h : cancellable s.rq.entries e.id) : QueueMoves s (s.cancelEntry e reason) :=
  (QueueMove.cancelled s e.id h).then ((sameQueue_tellPads ..).trans (sameQueue_raise ..))

theorem newEntry_moves (s : State) (song : Nat) (lane : QueueLane) (origin : Origin) (list : List Requester) (p : Nat)
    (hlen : s.rq.entries.length < 32) (hsong : waitingSong s.rq.entries song = none)
    (hrush : lane = .rush → rushCount s.rq.entries < 2) : QueueMoves s (s.newEntry song lane origin list p) :=
  (QueueMove.made s song lane origin list p hlen hsong hrush).then ((sameQueue_raiseIf ..).trans (sameQueue_raise ..))

/-- A change of requester lists alone. -/
theorem relist_moves (s : State) (id : Nat) (f : Entry → Entry) (hf : ∀ e, e.sameSeat (f e) ∧ (f e).state = e.state) :
    QueueMoves s (s.setEntries (updateEntry s.rq.entries id f)) := by
  have h := QueueMove.relisted s (fun e => if e.id = id then f e else e) (fun x => x) (fun e => ?_) (fun _ => rfl)
  · rw [List.map_id'] at h
    exact .single h
  · split
    · exact hf e
    · exact ⟨e.sameSeat_refl, rfl⟩

theorem cancellable_remove {q : List Entry} {id : Nat} (h : cancellable q id) (id' : Nat) :
    cancellable (removeEntry q id') id := by
  by_cases hid : id = id'
  · exact .inr fun e he => hid ▸ (mem_removeEntry.1 he).2
  · rcases h with ⟨e, he, heid, hst⟩ | hnone
    · exact .inl ⟨e, mem_removeEntry.2 ⟨he, by rwa [heid]⟩, heid, hst⟩
    · exact .inr fun e he => hnone e (mem_removeEntry.1 he).1

@[simp] theorem cancelEntry_rq (s : State) (e : Entry) (reason : DropReason) :
    (s.cancelEntry e reason).rq = { s.rq with entries := removeEntry s.rq.entries e.id } := by
  simp [State.cancelEntry, State.setEntries]

/-- Entries cancelled one after another, none of them PLAYING. -/
theorem cancelAll_moves (pad : Nat) (reason : DropReason) (l : List Entry) (s : State)
    (h : ∀ e ∈ l, cancellable s.rq.entries e.id) :
    QueueMoves s (l.foldl (fun s e => s.cancelEntry (e.without pad) reason) s) := by
  induction l generalizing s with
  | nil => exact .same rfl
  | cons e rest ih =>
    refine (cancelEntry_moves s (e.without pad) reason (h e List.mem_cons_self)).trans (ih _ fun x hx => ?_)
    rw [cancelEntry_rq]
    exact cancellable_remove (h x (List.mem_cons_of_mem _ hx)) _

/-! ### The pads' records (R9, R11, R25) -/

theorem takeRequest_moves (s : State) (pad song part : Nat) (rush : Bool) :
    QueueMoves s (takeRequest s pad song part rush).1 := by
  unfold takeRequest
  simp only
  split
  · exact .same rfl
  · split
    · next e _ =>
      split_ifs
      · exact .same rfl
      · exact (relist_moves s e.id (fun x => { x with requesters := x.requesters ++ [⟨pad, mergedChoice e part⟩] })
          fun x => ⟨⟨rfl, rfl, rfl, rfl⟩, rfl⟩).then (sameQueue_raise ..)
      · exact .same rfl
    · next hsong =>
      split_ifs with _ hlen
      · exact .same rfl
      · exact .same rfl
      · refine newEntry_moves s _ _ _ _ _ (by omega) hsong fun hl => ?_
        simp only [admittedLane] at hl
        split_ifs at hl with _ hroom
        exact hroom.2.1

theorem takeWithdraw_moves (s : State) (pad song : Nat) : QueueMoves s (takeWithdraw s pad song).1 := by
  unfold takeWithdraw
  split
  · exact .same rfl
  · next e he =>
    have hrelist := relist_moves s e.id (·.without pad) fun x => ⟨⟨rfl, rfl, rfl, rfl⟩, rfl⟩
    obtain ⟨hmem, hwaits⟩ := mem_waiting.1 (List.mem_of_find?_eq_some he)
    simp only
    split
    · refine (hrelist.trans (cancelEntry_moves _ (e.without pad) .cancelled (.inl ?_))).trans (autoAdvance_moves _)
      exact ⟨e.without pad, List.mem_map.2 ⟨e, hmem, if_pos rfl⟩, rfl, hwaits⟩
    · exact hrelist.then (sameQueue_raise ..)

/-- A history record with a pad's item taken off its requester list (R25). -/
def HistoryRecord.without (h : HistoryRecord) (pad : Nat) : HistoryRecord :=
  { h with requesters := h.requesters.filter fun r => r.pad != pad }

theorem releasePad_moves (s : State) (pad : Nat) : QueueMoves s (s.releasePad pad) := by
  unfold State.releasePad
  simp only
  refine QueueMoves.trans ?_ (autoAdvance_moves _)
  refine QueueMoves.then ?_ (sameQueue_raiseIf ..)
  refine (QueueMoves.single (.relisted s (·.without pad) (·.without pad) (fun e => ⟨⟨rfl, rfl, rfl, rfl⟩, rfl⟩) fun x => rfl)).trans
    (cancelAll_moves pad .cancelled _ _ fun e he => .inl ?_)
  obtain ⟨hmem, hwaits⟩ := mem_waiting.1 (List.mem_filter.1 he).1
  exact ⟨e.without pad, List.mem_map_of_mem hmem, rfl, hwaits⟩

/-! ### The host's messages -/

theorem takeResolve_moves (s : State) (id verdict parts : Nat) (title : List Nat) :
    QueueMoves s (takeResolve s id verdict parts title).state := by
  unfold takeResolve
  simp only
  split
  · exact .same rfl
  · split
    · exact .same rfl
    · next e he =>
      obtain rfl := (findEntry_some he).2
      split_ifs with hst
      · exact .same rfl
      · exact (QueueMove.resolved s e parts title he (not_not.1 hst)).then (sameQueue_raise ..)
      · exact ((QueueMove.dropped s e he (not_not.1 hst)).then
          ((sameQueue_tellPads ..).trans (sameQueue_raise ..))).trans (autoAdvance_moves _)

theorem takeQueueAdd_moves (s : State) (song lane lanePos : Nat) : QueueMoves s (takeQueueAdd s song lane lanePos).state := by
  unfold takeQueueAdd
  simp only
  split
  · exact .same rfl
  · split
    · exact .same rfl
    · split
      · exact .same rfl
      · next hsong =>
        split_ifs with hlen hrush
        · exact .same rfl
        · exact .same rfl
        · exact newEntry_moves s _ _ _ _ _ (by omega) hsong fun hl => Nat.not_le.1 fun hle => hrush ⟨hl, hle⟩

theorem takeQueueMove_moves (s : State) (id lane lanePos : Nat) : QueueMoves s (takeQueueMove s id lane lanePos).state := by
  unfold takeQueueMove
  simp only
  split
  · exact .same rfl
  · split
    · exact .same rfl
    · next e he =>
      obtain ⟨hmem, rfl⟩ := findEntry_some he
      split_ifs with hst hrush
      · exact .same rfl
      · exact .same rfl
      · exact ((QueueMove.placed s e _ _ hmem hst fun hl => Nat.not_le.1 fun hle => hrush ⟨hl, hle⟩).then (sameQueue_raiseIf ..)).autoAdvance

theorem takeQueueCancel_moves (s : State) (id : Nat) : QueueMoves s (takeQueueCancel s id).state := by
  unfold takeQueueCancel
  split
  · exact .same rfl
  · next e he =>
    obtain ⟨hmem, rfl⟩ := findEntry_some he
    split_ifs with hst
    · exact .same rfl
    · exact (cancelEntry_moves s e .cancelled (.inl ⟨e, hmem, rfl, hst⟩)).trans (autoAdvance_moves _)

theorem takePolicy_moves (s : State) (rush limit : Nat) : QueueMoves s (takePolicy s rush limit).state := by
  unfold takePolicy
  split
  · exact .same rfl
  · exact .single (.policy s _ _ (by simp only [clamp]; omega))

theorem takePadRelease_moves (s : State) (a : Nat) : QueueMoves s (takePadRelease s a).state := by
  unfold takePadRelease
  split
  · exact .same rfl
  · split
    · exact .same rfl
    · exact (QueueMoves.frame (sameQueue_setPad ..)).trans (releasePad_moves _ a)

theorem takeSlotOpen_moves (s : State) (slot id size : Nat) : QueueMoves s (takeSlotOpen s slot id size).state := by
  unfold takeSlotOpen
  split
  · exact .same rfl
  · next n _ =>
    split_ifs with hsize hempty
    · exact .same rfl
    · exact .same rfl
    · split
      · exact .same rfl
      · next e he =>
        obtain ⟨hmem, rfl⟩ := findEntry_some he
        split_ifs with hready
        · exact .same rfl
        · simp only [imageBytes, not_or, Nat.not_lt] at hsize
          exact (QueueMove.opened s n _ e size (not_not.1 hempty) hmem (not_not.1 hready) rfl rfl hsize.1 hsize.2).then
            (sameQueue_raise ..)

theorem takeSlotData_moves (s : State) (slot offset : Nat) (data : List Byte) :
    QueueMoves s (takeSlotData s slot offset data).state := by
  unfold takeSlotData
  split
  · exact .same rfl
  · next n _ =>
    simp only
    split_ifs with hsealing hfilling
    · exact .same rfl
    · exact .same rfl
    · exact .same rfl
    · exact .single (.filled s n _ (not_not.1 hfilling) (.inl (not_not.1 hfilling)) rfl)

theorem takeSlotSeal_moves (s : State) (slot : Nat) : QueueMoves s (takeSlotSeal s slot).state := by
  unfold takeSlotSeal
  split
  · exact .same rfl
  · next n _ =>
    simp only
    split_ifs with hfilling
    · exact .same rfl
    · split
      · exact .single (.filled s n _ (not_not.1 hfilling) (.inr rfl) rfl)
      · exact .single (.filled s n _ (not_not.1 hfilling) (.inl (not_not.1 hfilling)) rfl)

theorem takeSlotDiscard_moves (s : State) (slot : Nat) : QueueMoves s (takeSlotDiscard s slot).state := by
  unfold takeSlotDiscard
  split
  · exact .same rfl
  · next n _ =>
    simp only
    split
    · exact .same rfl
    · exact .same rfl
    · next hnone _ _ => exact .single (.reemptied s n _ hnone rfl rfl)
    · next y hy hactive _ => exact (QueueMove.yielded s n (s.slot n).emptied y hactive hy rfl rfl).then (sameQueue_raise ..)

theorem takeStart_moves (s : State) (id : Nat) : QueueMoves s (takeStart s id).state := by
  unfold takeStart
  split
  · exact .same rfl
  · next hi =>
    cases he : startEntry s id with
    | error c => exact .same rfl
    | ok e =>
      have : e ∈ s.rq.entries ∧ e.state = .staged := by
        unfold startEntry at he
        split at he
        · split at he
          · next x rest hw =>
            split at he <;> cases he
            next hst => exact ⟨(mem_waiting.1 (hw ▸ List.mem_cons_self)).1, hst⟩
          · cases he
        · split at he
          · next x hx =>
            split at he <;> cases he
            next hst => exact ⟨(findEntry_some hx).1, hst⟩
          · cases he
      exact .single (.cued s e (not_not.1 hi) this.1 this.2)

theorem sameQueue_resettle (s : State) (t : Transport) (h : s.tr.state ≠ .idle) : s.sameQueue (s.setTr t.resettle) := by
  refine sameQueue_setTr s _ (iff_of_false ?_ h)
  unfold Transport.resettle
  split <;> nofun

theorem syncRunning_moves (s : State) (p : Nat) (e : Int) : QueueMoves s (syncRunning s p e).state := by
  unfold syncRunning
  simp only
  split_ifs
  · exact .frame ⟨rfl, rfl, rfl, .rfl⟩
  · exact .frame ⟨rfl, rfl, rfl, .rfl⟩
  · exact QueueMoves.rebuild (.frame (sameQueue_setTr s _ .rfl))

theorem takeSync_moves (s : State) (position : Nat) : QueueMoves s (takeSync s position).state := by
  unfold takeSync
  simp only
  split
  · exact .same rfl
  · exact .same rfl
  · next h =>
    have hplay : s.tr.state ≠ .idle := by simp [h]
    simp only [accept]
    split
    · exact QueueMoves.rebuild (.frame (sameQueue_setTr s _ (iff_of_false nofun hplay)))
    · exact .frame (sameQueue_setTr s _ (iff_of_false nofun hplay))
  · next h => exact QueueMoves.rebuild (.frame (sameQueue_resettle s _ (by simp [h])))
  · exact .same rfl
  · exact syncRunning_moves s _ _
  · exact syncRunning_moves s _ _

theorem takePause_moves (s : State) : QueueMoves s (takePause s).state := by
  unfold takePause
  split
  · next h =>
    refine .frame (sameQueue_setTr s _ (iff_of_false nofun fun hi => ?_))
    simp [Transport.runs, hi] at h
  · exact .same rfl

theorem takeResume_moves (s : State) : QueueMoves s (takeResume s).state := by
  unfold takeResume
  split
  · next h => exact QueueMoves.rebuild (.frame (sameQueue_resettle s _ (by simp [h])))
  · exact .same rfl

theorem takeStop_moves (s : State) (flag : Nat) : QueueMoves s (takeStop s flag).state := by
  unfold takeStop
  split_ifs with _ hstate
  · exact .same rfl
  · exact .same rfl
  · exact enterResult_moves s _ fun hi => hstate (.inl hi)
  · have hclose : s.sameQueue (s.closeLanes .skipped) := ⟨rfl, rfl, rfl, .rfl⟩
    exact (QueueMoves.frame hclose).trans (finish_moves _ .skipped fun hi => hstate (.inl hi))

theorem takeTransportSet_moves (s : State) (a b c d e : Nat) : QueueMoves s (takeTransportSet s a b c d e).state := by
  unfold takeTransportSet
  split
  · exact .same rfl
  · exact QueueMoves.autoAdvance (.frame (sameQueue_setTr s _ .rfl))

/-! ### A request handed to its owner -/

theorem handle_moves (s : State) (r : Request) : QueueMoves s (handle s r).state := by
  cases r with
  | resolve i v p t => exact takeResolve_moves ..
  | queueAdd n l p => exact takeQueueAdd_moves ..
  | queueMove i l p => exact takeQueueMove_moves ..
  | queueCancel i => exact takeQueueCancel_moves ..
  | policy r l => exact takePolicy_moves ..
  | padRelease a => exact takePadRelease_moves ..
  | slotOpen n i z => exact takeSlotOpen_moves ..
  | slotData n o d => exact takeSlotData_moves ..
  | slotSeal n => exact takeSlotSeal_moves ..
  | slotDiscard n => exact takeSlotDiscard_moves ..
  | start i => exact takeStart_moves ..
  | sync p => exact takeSync_moves ..
  | pause => exact takePause_moves ..
  | resume => exact takeResume_moves ..
  | stop f => exact takeStop_moves ..
  | transportSet a y e h r => exact takeTransportSet_moves ..
  | echo b => exact .same rfl
  | softReset => exact .same rfl
  | attentionRead => exact .same rfl
  | transportRead => exact .same rfl
  | layoutRead => exact .same rfl
  | rate r => exact .frame (sameQueue_setTr s _ .rfl)
  | key k => exact .frame (sameQueue_setTr s _ .rfl)
  | layoutSet a b => exact .frame ⟨rfl, rfl, rfl, .rfl⟩
  | attentionAck x =>
    refine .frame ?_
    simp only [handle, takeAttentionAck]
    split
    · exact sameQueue_refl s
    · simp only [accept]
      split <;> exact ⟨rfl, rfl, rfl, .rfl⟩
  | _ =>
    -- the owners of the rest leave the state, or change a block other than the queue, the slots and the Transport
    refine .frame ?_
    simp only [handle, takeAttentionMask, takeQueueRead, takeHistoryRead, takePadAdmit, takePadRead, takePadBus, takeSlotRead,
      takeMicSet, takeMicRead, takeBind, takeScoreSet, takeLaneRead, takeBandMap, takeRowPlace, takePalette, takeBannerSet,
      takeGlyphLoad, takeGlyphDrop, takeGlyphClear, takeCompositorRead]
    repeat' split
    all_goals exact ⟨rfl, rfl, rfl, .rfl⟩

end Sys2Proof.Machine

namespace Sys2Proof.Machine

/-! ### Messages taken, and the link's arrivals -/

theorem answerTo_moves (s : State) (m : Message) : QueueMoves s (answerTo s m).state := by
  unfold answerTo
  split
  · exact .same rfl
  · exact .same rfl
  · exact handle_moves s _

theorem takeMessage_moves (s : State) (m : Message) : QueueMoves s (takeMessage s m) :=
  (answerTo_moves s m).then (sameQueue_setLink ..)

theorem takeNext_moves (s : State) : QueueMoves s (takeNext s) := by
  unfold takeNext
  split
  · exact takeMessage_moves s _
  · exact .same rfl

theorem sameQueue_dropMessage (s : State) : s.sameQueue (dropMessage s) := ⟨rfl, rfl, rfl, .rfl⟩

theorem offer_moves (s : State) (m : Message) : QueueMoves s (offer s m) := by
  unfold offer
  split
  · exact (QueueMoves.frame (sameQueue_setLink ..)).trans (takeNext_moves _)
  · exact .frame (sameQueue_dropMessage s)

theorem deliver_moves (s : State) (m : Message) : QueueMoves s (s.deliver m) := by
  unfold State.deliver
  split
  · exact .frame ⟨rfl, rfl, rfl, .rfl⟩
  · exact offer_moves s m

theorem judgeFrame_moves (s : State) (bytes : List Byte) (faulted : Bool) : QueueMoves s (judgeFrame s bytes faulted) := by
  unfold judgeFrame
  simp only
  split_ifs
  · exact .frame (sameQueue_dropMessage s)
  · exact .frame (sameQueue_dropMessage s)
  · exact offer_moves s _

theorem receiveByte_moves (s : State) (b : Byte) (faulted : Bool) : QueueMoves s (receiveByte s b faulted) := by
  unfold receiveByte
  split
  · split <;> exact .frame ⟨rfl, rfl, rfl, .rfl⟩
  · exact .frame ⟨rfl, rfl, rfl, .rfl⟩
  · simp only
    split_ifs
    · exact .frame ⟨rfl, rfl, rfl, .rfl⟩
    · have hhunt : s.sameQueue (s.setReceiver .hunt false) := ⟨rfl, rfl, rfl, .rfl⟩
      exact (QueueMoves.frame hhunt).trans (judgeFrame_moves ..)
    · exact .frame ⟨rfl, rfl, rfl, .rfl⟩

theorem gapExpires_moves (s : State) : QueueMoves s (gapExpires s) := by
  unfold gapExpires
  split
  · exact .same rfl
  · exact .frame ⟨rfl, rfl, rfl, .rfl⟩
  · exact .frame ⟨rfl, rfl, rfl, .rfl⟩

/-- The soft reset empties the queue, the history and the slots (R27, R70). -/
theorem softResetEffect_moves (s : State) : QueueMoves s (softResetEffect s) := by
  refine .single (.cleared (fun hb => ?_) rfl rfl (fun n => ?_) rfl)
  · exact RequestQueue.bounded_of_shorter hb (Nat.zero_le _) (Nat.zero_le _)
  · cases n <;> exact ⟨rfl, rfl⟩

theorem replyEnds_moves (s : State) : QueueMoves s (replyEnds s) := by
  unfold replyEnds
  split
  · refine QueueMoves.trans ?_ (takeNext_moves _)
    split
    · exact (QueueMoves.frame (sameQueue_setLink ..)).trans (softResetEffect_moves _)
    · exact .frame (sameQueue_setLink ..)
  · exact .same rfl

theorem noticeEnds_moves (s : State) : QueueMoves s (noticeEnds s) := by
  unfold noticeEnds
  split
  · exact .frame (sameQueue_setLink ..)
  · exact .same rfl

theorem chooseNext_moves (s : State) : QueueMoves s (chooseNext s) := .frame ⟨by simp, by simp, by simp, by simp⟩

/-! ### Validation (R64) -/

theorem checkRange_of_valid {m : ImageMemory} {size song : Nat} {g : GlyphStore}
    (h : validationFault m size song g = none) : checkRange m = none := by
  simp only [validationFault, Option.orElse_eq_none] at h
  obtain ⟨_, _, _, hrange, _⟩ := h
  exact hrange

theorem completeValidation_moves (s : State) (n : SlotName) : QueueMoves s (completeValidation s n) := by
  unfold completeValidation
  simp only
  split
  · next y hn hy =>
    refine QueueMoves.autoAdvance (QueueMoves.then ?_ ((sameQueue_raise ..).trans (sameQueue_raise ..)))
    split
    · next hvalid => exact .single (.validated s n y hn hy (checkRange_of_valid hvalid))
    · exact .single (.yielded s n _ y (by simp [hn]) hy rfl rfl)
  · exact .same rfl

/-! ### The block completion (R102) -/

theorem transportBlock_moves (s : State) : QueueMoves s (transportBlock s) := by
  have on (t : Transport) (h : s.tr.state ≠ .idle) (ht : t.state ≠ .idle) : s.sameQueue (s.setTr t) :=
    sameQueue_setTr s t (iff_of_false ht h)
  have ended (h : s.tr.state ≠ .idle) : QueueMoves s ((s.setTr s.tr.advance).resultEntry .completed) :=
    (QueueMoves.frame (on s.tr.advance h h)).then (sameQueue_resultEntry _ _ h)
  have lost (h : s.tr.state ≠ .idle) (t : Transport) : QueueMoves s ((s.setTr t.held).raise .syncLost) :=
    (QueueMoves.frame (on t.held h (by simp [Transport.held]))).then (sameQueue_raise ..)
  unfold transportBlock
  simp only
  split
  · exact .same rfl
  · exact .same rfl
  · next h => exact (QueueMoves.frame (on _ (by simp [h]) (by simp [h]))).then (sameQueue_raiseIf ..)
  · next h =>
    have hcount := QueueMoves.frame (on { s.tr with holdCount := s.tr.holdCount + 1 } (by simp [h]) (by simp [h]))
    split
    · exact hcount.then (sameQueue_resultEntry _ _ (by simp [h]))
    · exact hcount
  · next h =>
    have hcount := QueueMoves.frame
      (on { s.tr with resultCountdown := s.tr.resultCountdown - 1 } (by simp [h]) (by simp [h]))
    split
    · exact hcount.trans (finish_moves _ _ (by simp [h]))
    · exact hcount
  · next h =>
    split
    · exact ended (by simp [h])
    · split
      · exact lost (by simp [h]) _
      · rw [if_neg (by simp [h])]
        exact .frame (on _ (by simp [h]) (by simp [Transport.advance, h]))
  · next h =>
    split
    · exact ended (by simp [h])
    · split
      · exact lost (by simp [h]) _
      · split
        · exact .frame (on _ (by simp [h]) (by simp))
        · exact .frame (on _ (by simp [h]) (by simp [Transport.advance, h]))

theorem recordsTaken_moves (s : State) (x : BlockInput) : QueueMoves s (recordsTaken x s) :=
  (transportBlock_moves s).then ⟨by simp, by simp, by simp, by simp⟩

/-- A block completion that enters RESULT leaves a song on. -/
theorem transportBlock_result {s : State} {k : FinishKind} (h : s.tr.endKind = some k) :
    (transportBlock s).tr.state ≠ .idle := by
  unfold Transport.endKind at h
  split_ifs at h with hend hhold
  · rw [transportBlock_songEnd s hend]
    nofun
  · rw [transportBlock_holdLimit s hhold]
    nofun

theorem finishOwed_moves (s : State) (x : BlockInput) :
    QueueMoves (recordsTaken x s) (s.tr.finishOwed (recordsTaken x s)) := by
  rcases finishOwed_cases s.tr (recordsTaken x s) with ⟨k, hk, _, h⟩ | ⟨_, h⟩
  · rw [h]
    exact finish_moves _ k (by simpa using transportBlock_result hk)
  · exact .same h

theorem blockEvent_moves (s : State) (x : BlockInput) : QueueMoves s (blockEvent x s) :=
  ((recordsTaken_moves s x).trans (finishOwed_moves s x)).then ⟨by simp, by simp, by simp, by simp⟩

/-! ### The pad bus (R33 to R39) -/

theorem sameQueue_nextExchange (s v : State) : s.sameQueue (s.nextExchange v) := by
  obtain ⟨p, h, _⟩ := nextExchange_eq s v
  rw [h]
  exact sameQueue_setPbc s p

theorem sameQueue_afterExchange (s : State) : s.sameQueue s.afterExchange := by
  unfold State.afterExchange
  split
  · exact sameQueue_setPbc ..
  · exact (sameQueue_setPbc ..).trans (sameQueue_nextExchange ..)

theorem sameQueue_faultyCompletion (s : State) (i : Fin 8) : s.sameQueue (s.faultyCompletion i) :=
  (sameQueue_setPad ..).trans (sameQueue_raiseIf ..)

theorem filterRecord_moves (s : State) (i : Fin 8) (toggle : Bool) (take : State → State × PadOutcome)
    (h : ∀ s, QueueMoves s (take s).1) : QueueMoves s (s.filterRecord i toggle take) := by
  unfold State.filterRecord
  split
  · exact (h s).then (sameQueue_setPad ..)
  · exact .same rfl

theorem goodCompletion_moves (s : State) (i : Fin 8) (r : UplinkRecord) : QueueMoves s (s.goodCompletion i r) := by
  have forgiven : QueueMoves s (s.setPad i (s.pbc.registry.get i).forgive) := .frame (sameQueue_setPad ..)
  unfold State.goodCompletion
  simp only
  split
  · exact forgiven.trans (filterRecord_moves _ i _ _ fun s => takeRequest_moves ..)
  · exact forgiven.trans (filterRecord_moves _ i _ _ fun s => takeWithdraw_moves ..)
  · exact forgiven

theorem sameQueue_takeJoin (s : State) (serial : Word) : s.sameQueue (takeJoin s serial).1 := by
  unfold takeJoin
  simp only
  repeat' split
  all_goals exact ⟨rfl, rfl, rfl, .rfl⟩

theorem sameQueue_joinFrame (s : State) (ex : Exchange) (f : UplinkFrame) : s.sameQueue (s.joinFrame ex f) := by
  unfold State.joinFrame
  split
  · exact (sameQueue_takeJoin ..).trans (sameQueue_setPbc ..)
  · exact sameQueue_setPbc ..

theorem completeExchange_moves (s : State) (ex : Exchange) (r : Reception) : QueueMoves s (s.completeExchange ex r) := by
  unfold State.completeExchange
  split
  · exact .frame (sameQueue_setPbc ..)
  · split
    · exact .frame (sameQueue_setPbc ..)
    · exact .frame (sameQueue_joinFrame ..)
    · split
      · exact .frame (sameQueue_afterExchange s)
      · split
        · exact .frame ((sameQueue_faultyCompletion ..).trans (sameQueue_afterExchange _))
        · split
          · exact (goodCompletion_moves s _ _).then (sameQueue_afterExchange _)
          · exact .frame ((sameQueue_faultyCompletion ..).trans (sameQueue_afterExchange _))

theorem uplinkFrame_moves (s : State) (f : UplinkFrame) : QueueMoves s (uplinkFrame s f) := by
  unfold uplinkFrame
  split
  · exact .same rfl
  · split
    · exact .same rfl
    · exact completeExchange_moves ..

theorem replyTimeout_moves (s : State) : QueueMoves s (replyTimeout s) := by
  unfold replyTimeout
  split
  · exact .same rfl
  · split
    · exact completeExchange_moves ..
    · exact .same rfl

theorem characterGap_moves (s : State) : QueueMoves s (characterGap s) := by
  unfold characterGap
  split
  · exact .same rfl
  · split
    · exact completeExchange_moves ..
    · exact .same rfl

theorem sameQueue_drawDownlink (s : State) : s.sameQueue s.drawDownlink := by
  obtain ⟨n, p, h, _⟩ := drawDownlink_eq s
  rw [h]
  exact ⟨rfl, rfl, rfl, .rfl⟩

theorem takeUplinkByte_moves (s : State) (b : Byte) : QueueMoves s (takeUplinkByte s b) := by
  unfold takeUplinkByte
  split
  · exact .same rfl
  · simp only
    split
    · exact .same rfl
    · split
      · exact completeExchange_moves ..
      · exact .frame (sameQueue_setPbc ..)
    · split
      · exact completeExchange_moves ..
      · exact .frame (sameQueue_setPbc ..)
    · exact .same rfl

theorem uplinkCharacter_moves (s : State) (b : Byte) : QueueMoves s (uplinkCharacter s b) :=
  (QueueMoves.frame (sameQueue_drawDownlink s)).trans (takeUplinkByte_moves _ b)

theorem assignSent_moves (s : State) : QueueMoves s (assignSent s) := by
  unfold assignSent
  split
  · exact .same rfl
  · split
    · exact .frame (sameQueue_setPbc ..)
    · exact .same rfl

theorem faultyBy_moves (s : State) (c : FaultyCompletion) : QueueMoves s (faultyBy s c) := by
  cases c with
  | timeout => exact replyTimeout_moves s
  | characterGap => exact characterGap_moves s
  | frame bytes => exact uplinkFrame_moves ..

/-! ### The video path and the pins -/

theorem frameStart_moves (s : State) : QueueMoves s (frameStart s) := by
  refine .frame ?_
  have hrows : s.sameQueue s.settleRows := by
    unfold State.settleRows
    split
    · exact ⟨rfl, rfl, rfl, .rfl⟩
    · exact sameQueue_refl s
  exact hrows.trans ⟨by simp [frameStart], by simp [frameStart], by simp [frameStart], by simp [frameStart]⟩

theorem bounded_reset : RequestQueue.reset.bounded := ⟨by decide, by decide, by decide, by decide, by decide⟩

theorem poweredUp_moves (s : State) (low : Bool) : QueueMoves s (s.poweredUp low) :=
  .single (.cleared (fun _ => bounded_reset) rfl rfl (fun n => by cases n <;> exact ⟨rfl, rfl⟩) rfl)

/-! ### Commands and steps -/

theorem arrival_moves {f : State → State} {s t : State} (hf : ∀ s, QueueMoves s (f s)) (h : arrival f s = .next t) :
    QueueMoves s t := by
  unfold arrival at h
  cases h
  split
  · exact .same rfl
  · exact (hf s).trans (chooseNext_moves _)

theorem occurrence_moves {due : Bool} {f : State → State} {s t : State} (hf : ∀ s, QueueMoves s (f s))
    (h : occurrence due f s = .next t) : QueueMoves s t := by
  cases due with
  | true => exact arrival_moves hf h
  | false =>
    cases h
    exact .same rfl

theorem sendRequest_moves {tag : Byte} {r : Request} {s t : State} (h : sendRequest tag r s = .next t) : QueueMoves s t :=
  arrival_moves (fun s => deliver_moves s _) h

/-- Every command moves the queue, the slots and the Transport by queue moves alone. -/
theorem exec_moves {c : Instr} {s t : State} (h : exec c s = .next t) : QueueMoves s t := by
  cases c with
  | powerUp =>
    cases h
    exact poweredUp_moves s _
  | resetAssert =>
    cases h
    exact .frame ⟨rfl, rfl, rfl, .rfl⟩
  | resetRelease =>
    cases h
    split
    · exact poweredUp_moves s _
    · exact .same rfl
  | frameReceived byte faulted => exact occurrence_moves (receiveByte_moves · byte faulted) h
  | wrongLeadByte byte faulted => exact occurrence_moves (receiveByte_moves · byte faulted) h
  | payloadLengthAboveLimit byte faulted => exact occurrence_moves (receiveByte_moves · byte faulted) h
  | characterReceived byte faulted => exact arrival_moves (receiveByte_moves · byte faulted) h
  | gapTimerExpiry => exact arrival_moves gapExpires_moves h
  | unknownKind kind tag payload => exact arrival_moves (deliver_moves · _) h
  | replyEnd => exact arrival_moves replyEnds_moves h
  | attentionNotice => exact occurrence_moves (fun _ => .same rfl) h
  | noticeEnd => exact arrival_moves noticeEnds_moves h
  | validationCompletion slot => exact arrival_moves (completeValidation_moves · slot) h
  | blockCompletion input => exact arrival_moves (blockEvent_moves · input) h
  | presenceChange input => exact occurrence_moves (blockEvent_moves · input) h
  | songEnd input => exact occurrence_moves (blockEvent_moves · input) h
  | syncTimeout input => exact occurrence_moves (blockEvent_moves · input) h
  | holdLimit input => exact occurrence_moves (blockEvent_moves · input) h
  | settleSpent input => exact occurrence_moves (blockEvent_moves · input) h
  | cueStall input => exact occurrence_moves (blockEvent_moves · input) h
  | resultCountdownSpent input => exact occurrence_moves (blockEvent_moves · input) h
  | pollingRound input => exact occurrence_moves (blockEvent_moves · input) h
  | padReplyTimeout => exact arrival_moves replyTimeout_moves h
  | uplinkCharacterGap => exact arrival_moves characterGap_moves h
  | uplinkCharacterReceived byte => exact arrival_moves (uplinkCharacter_moves · byte) h
  | uplinkFaultyFrame bytes => exact arrival_moves (uplinkFrame_moves · _) h
  | padSilencing completion => exact occurrence_moves (faultyBy_moves · completion) h
  | idleRecord address => exact arrival_moves (uplinkFrame_moves · _) h
  | request address toggle song part rush => exact arrival_moves (uplinkFrame_moves · _) h
  | withdraw address toggle song => exact arrival_moves (uplinkFrame_moves · _) h
  | join address serial => exact arrival_moves (uplinkFrame_moves · _) h
  | assignSent => exact arrival_moves assignSent_moves h
  | videoFrameStart => exact arrival_moves frameStart_moves h
  | videoLoss => exact occurrence_moves frameStart_moves h
  | videoRestore => exact occurrence_moves frameStart_moves h
  | inputFrameCompletion frame =>
    have received (s : State) : s.sameQueue (s.setCmp (s.cmp.inputCompleted frame)) := ⟨rfl, rfl, rfl, .rfl⟩
    exact arrival_moves (fun s => .frame (received s)) h
  | _ => exact sendRequest_moves h

theorem step_moves {s t : State} (h : step s = .next t) : QueueMoves s t := by
  unfold step at h
  split at h
  · cases h
    split
    · exact .same rfl
    · exact .frame (sameQueue_setPbc ..)
  · next rest _ =>
    have taken : s.sameQueue { s with pending := rest } := ⟨rfl, rfl, rfl, .rfl⟩
    exact (QueueMoves.frame taken).trans (exec_moves h)

/-- Settles O22: each step is a chain of queue moves, and every move keeps the bounds, and the match. -/
theorem queueStaysBounded : Obligations.QueueStaysBounded :=
  ⟨fun _ _ hs h => (step_moves h).bounded hs, fun _ _ hs h => (step_moves h).matched hs⟩

end Sys2Proof.Machine

namespace Sys2Proof.Machine

/-! ## The reset states (R26, R48, R70, R99, R139, R183, R199, R209) -/

theorem Lane.reset_lawful : Lane.reset.lawful where
  idle := iff_of_true rfl rfl
  notes := rfl
  cursor := Nat.le_refl 0
  before := fun _ hi => absurd hi (Nat.not_lt_zero _)
  after := fun _ _ => rfl
  opened := fun i => iff_of_false (by simp [Lane.outcomeAt, Lane.reset]) (by simp [Lane.reset])
  openAtCursor := fun _ h => nomatch h
  scored := rfl
  empty := rfl
  void := rfl
  accuracy := Nat.le_refl 0

theorem freeRecord_lawful : freeRecord.lawful where
  serial := iff_of_true rfl rfl
  nonzero := nofun
  silenced := iff_of_false nofun (by decide)
  strikes := Nat.zero_le 8
  newsCounter := by decide
  unused := fun _ => ⟨rfl, rfl, rfl⟩
  cleared := fun _ => rfl

@[simp] theorem Oct.get_const {α : Type} (x : α) (i : Fin 8) : (Oct.const x).get i = x := by fin_cases i <;> rfl
@[simp] theorem Quad.get_const {α : Type} (x : α) (i : Fin 4) : (Quad.const x).get i = x := by fin_cases i <;> rfl

theorem reset_registry (i : Fin 8) : State.reset.pbc.registry.get i = freeRecord := Oct.get_const ..

theorem reset_matched : State.reset.matched :=
  State.matched_empty bounded_reset rfl rfl (fun n => by cases n <;> exact ⟨rfl, rfl⟩) rfl

theorem reset_settingsInRange : State.reset.settingsInRange := by
  constructor <;> decide

theorem reset_transport_lawful : State.reset.tr.lawful := by
  constructor <;> decide

/-- Settles O60: every record, lane and slot after reset is the empty one, and every setting stands in its range. -/
theorem resetIsLawful : Obligations.ResetIsLawful where
  left := ⟨rfl, rfl⟩
  right := by
    refine ⟨bounded_reset, reset_matched, ⟨?_, ?_⟩, ?_, reset_settingsInRange, reset_transport_lawful, Nat.zero_le _, ?_, ?_⟩
    · intro i
      rw [reset_registry]
      exact freeRecord_lawful
    · intro i j x hi
      rw [reset_registry] at hi
      cases hi
    · intro k
      change ((Quad.const Lane.reset).get k).lawful
      rw [Quad.get_const]
      exact Lane.reset_lawful
    · exact ⟨Nat.zero_le _, iff_of_true rfl rfl, nofun, iff_of_true rfl rfl, fun _ => ⟨rfl, rfl⟩⟩
    · exact nofun

/-- The answered message gone from the receive queue with its reply, and the transmitter IDLE (R196). -/
def State.replyGone (s : State) : State :=
  s.setLink { s.link with transmitter := .idle, formed := none, queue := s.link.queue.tail }

/-- The soft reset leaves no message to be taken and nothing to be sent: the end of its reply is its effect alone. -/
theorem replyEnd_softReset {s : State} {r : Reply} (hlow : s.resetLow = false) (htr : s.link.transmitter = .reply)
    (hformed : s.link.formed = some r) (hr : r.endsInReset = true) :
    exec .replyEnd s = .next (softResetEffect s.replyGone) := by
  have hends : replyEnds s = takeNext (softResetEffect s.replyGone) := by
    simp [replyEnds, htr, hformed, hr, State.replyGone]
  have hnone : takeNext (softResetEffect s.replyGone) = softResetEffect s.replyGone := rfl
  change arrival replyEnds s = _
  rw [arrival_awake _ _ hlow, hends, hnone, chooseNext_nothing _ fun _ => ⟨rfl, rfl⟩]

/-- Settles O11: every block's soft-reset values are those of `softResetEffect`. -/
theorem softResetTakesEffect : Obligations.SoftResetTakesEffect := by
  intro s tag summary hlow htr hformed
  refine ⟨_, replyEnd_softReset hlow htr hformed rfl, rfl, rfl, rfl, fun i => Oct.get_map .., rfl, rfl, rfl, rfl, ?_, ?_, ?_,
    rfl, rfl, rfl, rfl, rfl, rfl, fun k => Quad.get_const .., rfl, rfl, rfl, rfl, rfl, fun k => Quad.get_const .., rfl, rfl, rfl⟩
  · intro ex hex
    change s.pbc.exchange.map _ = _
    rw [hex]
    rfl
  · intro hex
    change s.pbc.exchange.map _ = _
    rw [hex]
    rfl
  · intro n
    cases n <;> exact ⟨rfl, rfl, rfl, rfl, rfl⟩

end Sys2Proof.Machine

namespace Sys2Proof.Machine

/-! ## The pads' records decided (R9 to R11) -/

theorem waitingSong_some {q : List Entry} {song : Nat} {e : Entry} (h : waitingSong q song = some e) : e ∈ waiting q :=
  List.mem_of_find?_eq_some h

/-- An entry put at the tail of its lane (R5). -/
theorem insertEntry_tail (q : List Entry) (e : Entry) :
    insertEntry q e ((laneEntries q e.lane).length + 1) =
      (q.filter fun x => !x.waits) ++ laneEntries q .rush ++ (if e.lane = .rush then [e] else []) ++
        laneEntries q .normal ++ (if e.lane = .rush then [] else [e]) := by
  have tail (l : List Entry) : insertAt l (l.length + 1) e = l ++ [e] := by simp [insertAt]
  cases h : e.lane <;> simp [insertEntry, h, tail]

/-- R10: whether a new pad entry goes to the RUSH lane, and the outcome its pad is told. -/
theorem admittedLane_eq (r : RequestQueue) (pad : Nat) (rush : Bool) :
    let toRush := rush && r.rushEnabled && decide (rushCount r.entries < 2) &&
      !(laneEntries r.entries .rush).any (fun e => e.lists pad)
    admittedLane r pad rush =
      (if toRush then .rush else .normal, if rush && !toRush then .demoted else .accepted) := by
  cases rush with
  | false => simp [admittedLane]
  | true =>
    by_cases h : r.rushEnabled = true ∧ rushCount r.entries < 2 ∧ ¬ (laneEntries r.entries .rush).any (fun e => e.lists pad) = true
    · obtain ⟨hr, hc, hp⟩ := h
      simp [admittedLane, hr, hc, hp]
    · have hnot : (true && r.rushEnabled && decide (rushCount r.entries < 2) &&
          !(laneEntries r.entries .rush).any (fun e => e.lists pad)) = false := by
        simpa [and_assoc] using h
      simp only [admittedLane, if_true, if_neg h, hnot]
      rfl

/-- Settles O15: the checks of R9 in their order; a request that passes them makes its entry at the tail of its lane. -/
theorem requestIsDecided : Obligations.RequestIsDecided := by
  intro s pad song part rush
  refine ⟨fun h => by simp only [takeRequest, if_pos h], ?_, ?_⟩
  · intro h1 h2 e he
    have hsong : ¬ (song < 1 ∨ 999999 < song) := by omega
    refine ⟨fun hl => ?_, fun hl hlen => ?_, fun hl hlen => ?_⟩
    · simp only [takeRequest, if_neg hsong, he, if_pos hl]
    · simp only [takeRequest, if_neg hsong, he, hl, if_pos hlen]
      rfl
    · simp only [takeRequest, if_neg hsong, he, hl, if_neg (Nat.not_lt.2 hlen)]
      rfl
  · intro h1 h2 hnone
    have hsong : ¬ (song < 1 ∨ 999999 < song) := by omega
    refine ⟨fun hlim => ?_, fun hlim hlen => ?_, fun hlim hlen => ?_⟩
    · simp only [takeRequest, if_neg hsong, hnone, if_pos hlim]
    · simp only [takeRequest, if_neg hsong, hnone, if_neg (Nat.not_le.2 hlim), if_pos hlen]
    · intro toRush entry q1
      have hlane : admittedLane s.rq pad rush = (entry.lane, if rush && !toRush then .demoted else .accepted) :=
        admittedLane_eq s.rq pad rush
      have hplaced : insertEntry s.rq.entries entry ((laneEntries s.rq.entries entry.lane).length + 1) = q1 := by
        rw [insertEntry_tail]
        simp only [q1, entry]
        cases toRush <;> rfl
      simp only [takeRequest, if_neg hsong, hnone, if_neg (Nat.not_le.2 hlim), if_neg (Nat.not_le.2 hlen), hlane]
      rw [← hplaced]
      rfl

/-! ## Cancellation (R12) -/

theorem removeEntry_updateEntry (q : List Entry) (id : Nat) {f : Entry → Entry} (hf : ∀ e, (f e).id = e.id) :
    removeEntry (updateEntry q id f) id = removeEntry q id := by
  induction q with
  | nil => rfl
  | cons e rest ih =>
    simp only [removeEntry, updateEntry, List.map_cons, List.filter_cons] at ih ⊢
    by_cases h : e.id = id
    · simp [h, hf, ih]
    · simp [h, ih]

section
variable (s : State) (e : Entry) (r : DropReason)
@[simp] theorem cancelEntry_pending : (s.cancelEntry e r).pending = s.pending := by simp [State.cancelEntry]
@[simp] theorem cancelEntry_resetLow : (s.cancelEntry e r).resetLow = s.resetLow := by simp [State.cancelEntry]
@[simp] theorem cancelEntry_blocks : (s.cancelEntry e r).blocks = s.blocks := by simp [State.cancelEntry]
@[simp] theorem cancelEntry_draws : (s.cancelEntry e r).draws = s.draws := by simp [State.cancelEntry]
@[simp] theorem cancelEntry_tr : (s.cancelEntry e r).tr = s.tr := by simp [State.cancelEntry]
@[simp] theorem cancelEntry_mfe : (s.cancelEntry e r).mfe = s.mfe := by simp [State.cancelEntry]
@[simp] theorem cancelEntry_su : (s.cancelEntry e r).su = s.su := by simp [State.cancelEntry]
@[simp] theorem cancelEntry_llu : (s.cancelEntry e r).llu = s.llu := by simp [State.cancelEntry]
@[simp] theorem cancelEntry_cmp : (s.cancelEntry e r).cmp = s.cmp := by simp [State.cancelEntry]
@[simp] theorem cancelEntry_att : (s.cancelEntry e r).att = s.att.raise .queueChanged := by simp [State.cancelEntry]
@[simp] theorem cancelEntry_link : (s.cancelEntry e r).link = s.link := by simp [State.cancelEntry]

/-- No pad is told of the cancellation of an entry with an empty list. -/
theorem cancelEntry_pbc_unlisted (h : e.requesters = []) : (s.cancelEntry e r).pbc = s.pbc := by
  rw [State.cancelEntry, State.raise_pbc, h]
  change (State.emptySlotOf _ _).pbc = _
  simp

theorem cancelEntry_slot (n : SlotName) :
    (s.cancelEntry e r).slot n = if s.slotHolding e.id = some n then (s.slot n).emptied else s.slot n := by
  have : (s.setEntries (removeEntry s.rq.entries e.id)).slotHolding e.id = s.slotHolding e.id := rfl
  rw [State.cancelEntry, State.raise_slot, State.tellPads_slot, State.emptySlotOf_slot, State.setEntries_slot, this]
end

/-- Settles O16: the entry found is the first waiting one of the song that lists the pad; taking the pad's item off and then
the entry itself out is taking the entry out. -/
theorem withdrawIsDecided : Obligations.WithdrawIsDecided := by
  intro s pad song
  refine ⟨fun hnone => ?_, fun e he => ⟨fun hleft => ?_, fun hleft ho => ?_⟩⟩
  · have hfind : ((waiting s.rq.entries).find? fun e => e.song == song && e.lists pad) = none := by
      simp only [List.find?_eq_none, Bool.and_eq_true, beq_iff_eq, not_and, Bool.not_eq_true]
      exact fun e he => hnone e (mem_waiting.1 he).1 (by simpa using (mem_waiting.1 he).2)
    simp only [takeWithdraw, hfind]
  · have hstay : ¬ ((e.without pad).requesters = [] ∧ e.origin = .pad) := by
      rintro ⟨hempty, ho⟩
      rcases hleft with h | h
      · exact h hempty
      · simp [ho] at h
    simp only [takeWithdraw, he, if_neg hstay]
    rfl
  · have hgone : (e.without pad).requesters = [] := hleft
    refine ⟨(s.setEntries (updateEntry s.rq.entries e.id fun x => x.without pad)).cancelEntry (e.without pad) .cancelled, ?_, ?_,
      by simp, ?_, by simp, by simp, by simp, by simp, by simp, by simp, by simp, by simp, by simp, by simp, ?_⟩
    · simp only [takeWithdraw, he, if_pos (And.intro hgone ho)]
    · have hout := removeEntry_updateEntry s.rq.entries e.id (f := (·.without pad)) fun _ => rfl
      rw [cancelEntry_rq]
      exact congrArg (fun q => { s.rq with entries := q }) hout
    · rw [cancelEntry_pbc_unlisted _ _ _ hgone, State.setEntries_pbc]
    · intro n
      rw [cancelEntry_slot, State.setEntries_slot]
      rfl

end Sys2Proof.Machine

namespace Sys2Proof.Machine

/-! ## The host's messages to the Request Queue (R13 to R17) -/

/-- A request refused by its owner over a free link: nothing changes but the reply. -/
theorem sendRequest_refused (s : State) (tag : Byte) (r : Request) (code : ResultCode) (h : LinkFree s)
    (hr : ∀ x, r ≠ .attentionAck x) (hk : r.keepsLength = true) (hl : r.payload.length ≤ 1100)
    (ha : handle s r = refuse s code) : sendRequest tag r s = .next (s.answered (r.message tag) code []) :=
  sendRequest_taken s tag r s code [] h hr hk hl ha rfl

/-! ### RESOLVE (R13, R14) -/

theorem flatMap_le16_length (t : List Half) : (t.flatMap le16).length = 2 * t.length := by
  induction t with
  | nil => rfl
  | cons h t ih =>
    simp only [List.flatMap_cons, List.length_append, le16_length, List.length_cons, ih]
    omega

/-- The values of a RESOLVE of either verdict are refused unless parts and title keep their ranges. -/
theorem badResolve_iff (verdict parts : Nat) (title : List Half) (hv : verdict ≤ 1) :
    badResolve verdict parts (title.map BitVec.toNat) = true ↔
      ¬ (1 ≤ parts ∧ parts ≤ 4 ∧ title.length ≤ 32 ∧ ∀ c ∈ title, 1 ≤ c.toNat ∧ c.toNat ≤ 4095) := by
  have hcodes : ((title.map BitVec.toNat).any fun c => decide (c < 1 ∨ 4095 < c)) = true ↔
      ¬ ∀ c ∈ title, 1 ≤ c.toNat ∧ c.toNat ≤ 4095 := by
    simp only [List.any_eq_true, List.mem_map, exists_exists_and_eq_and, decide_eq_true_eq, not_forall, exists_prop]
    exact exists_congr fun c => and_congr_right fun _ => by omega
  simp only [badResolve, Bool.or_eq_true, hcodes, decide_eq_true_eq, List.length_map]
  constructor
  · rintro (((h | h) | h) | h) ⟨h1, h2, h3, h4⟩
    · omega
    · omega
    · omega
    · exact h h4
  · intro h
    by_contra hno
    simp only [not_or, not_not] at hno
    exact h ⟨by omega, by omega, by omega, hno.2⟩

section
variable (s : State) (tag id : Byte) (found : Bool) (parts : Byte) (title : List Half)

/-- The RESOLVE of either verdict as its request. -/
def resolveRequest : Request := .resolve id (if found then 1 else 0) parts title

variable {s tag id found parts title} (h : LinkFree s) (ht : title.length ≤ 255)
include h ht

theorem resolve_taken {s' : State} {code : ResultCode} {data : List Byte}
    (ha : takeResolve s id.toNat (if found then 1 else 0) parts.toNat (title.map BitVec.toNat) = ⟨s', code, data⟩)
    (hs : s'.link = s.link) :
    sendRequest tag (resolveRequest id found parts title) s =
      .next (s'.answered ((resolveRequest id found parts title).message tag) code data) := by
  refine sendRequest_taken s tag _ s' code data h nofun (by simpa [resolveRequest, Request.keepsLength] using ht) ?_ ?_ hs
  · simp only [resolveRequest, Request.payload, List.length_append, flatMap_le16_length, List.length_cons, List.length_nil]
    omega
  · rw [← ha]
    cases found <;> rfl

end

section
variable {s : State} {e : Entry} {id parts : Nat} {title : List Nat}

theorem takeResolve_found (hv : ¬ badResolve 1 parts title = true) (he : findEntry s.rq.entries id = some e)
    (hst : e.state = .pending) :
    takeResolve s id 1 parts title =
      accept ((s.setEntries (updateEntry s.rq.entries id fun x => x.resolved parts title)).raise .queueChanged)
        (n8 id ++ n8 (positionOf s.rq.entries id)) := by
  simp only [takeResolve, if_neg hv, he, if_neg (not_not.2 hst), if_true]

theorem takeResolve_absent (hv : ¬ badResolve 0 parts title = true) (he : findEntry s.rq.entries id = some e)
    (hst : e.state = .pending) :
    takeResolve s id 0 parts title =
      accept (((s.setEntries (removeEntry s.rq.entries id)).tellPads e.requesters
        ⟨.dropped .notInCatalogue, e.song⟩).raise .queueChanged).autoAdvance (n8 id ++ n8 0) := by
  simp only [takeResolve, if_neg hv, he, if_neg (not_not.2 hst), if_neg Nat.zero_ne_one]

end

@[simp] theorem n8_toNat (b : Byte) : n8 b.toNat = [b] := by simp [n8]

/-- Settles O17: the verdicts differ only past the refusals. -/
theorem resolveSettlesEntry : Obligations.ResolveSettlesEntry := by
  intro s tag id parts title hlink ht fields good
  have hbad (found : Bool) : badResolve (if found then 1 else 0) parts.toNat (title.map BitVec.toNat) = true ↔ ¬ good :=
    badResolve_iff _ _ _ (by cases found <;> decide)
  have hgood (found : Bool) (hg : good) : ¬ badResolve (if found then 1 else 0) parts.toNat (title.map BitVec.toNat) = true :=
    fun hb => (hbad found).1 hb hg
  refine ⟨fun found => ?_, fun hg e he hst => ?_⟩
  · intro c m
    have hsend : exec c s = sendRequest tag (resolveRequest id found parts title) s := by cases found <;> rfl
    have hm : m = (resolveRequest id found parts title).message tag := by cases found <;> rfl
    rw [hsend, hm]
    refine ⟨fun hg => ?_, fun hg hnone => ?_, fun hg e he hst => ?_⟩
    · exact resolve_taken hlink ht (by simp only [takeResolve, if_pos ((hbad found).2 hg)]; rfl) rfl
    · exact resolve_taken hlink ht (by simp only [takeResolve, if_neg (hgood found hg), hnone]; rfl) rfl
    · exact resolve_taken hlink ht (by simp only [takeResolve, if_neg (hgood found hg), he, if_pos hst]; rfl) rfl
  · constructor
    · refine resolve_taken (found := true) hlink ht ((takeResolve_found (hgood true hg) he hst).trans ?_) rfl
      rw [n8_toNat]
      rfl
    · refine resolve_taken (found := false) hlink ht ((takeResolve_absent (hgood false hg) he hst).trans ?_) (by simp)
      rw [n8_toNat]
      rfl

/-! ### QUEUE_ADD (R15) -/

theorem laneNamed_bad {b : Byte} (h : 1 < b.toNat) : laneNamed b.toNat = none := by
  unfold laneNamed
  split
  · omega
  · omega
  · rfl

theorem laneNamed_good {b : Byte} (h : b.toNat ≤ 1) : laneNamed b.toNat = some (if b = 1 then .rush else .normal) := by
  have : b = 0 ∨ b = 1 := by
    rcases Nat.le_one_iff_eq_zero_or_eq_one.1 h with h0 | h1
    · exact .inl (BitVec.eq_of_toNat_eq h0)
    · exact .inr (BitVec.eq_of_toNat_eq h1)
  rcases this with rfl | rfl <;> rfl

/-- An insertion at a place of the entry's own lane, the other lane standing (R5). -/
theorem insertEntry_placed (q : List Entry) (e : Entry) (p : Nat) :
    insertEntry q e p = (q.filter fun x => !x.waits) ++
      (if e.lane = .rush then insertAt (laneEntries q e.lane) p e ++ laneEntries q .normal
        else laneEntries q .rush ++ insertAt (laneEntries q e.lane) p e) := by
  cases h : e.lane <;> simp [insertEntry, h]

/-- Settles O18. -/
theorem queueAddMakesOperatorEntry : Obligations.QueueAddMakesOperatorEntry := by
  intro s tag lane lanePos song hlink m q bad l
  have sent {s' : State} {code : ResultCode} {data : List Byte}
      (ha : takeQueueAdd s song.toNat lane.toNat lanePos.toNat = ⟨s', code, data⟩) (hs : s'.link = s.link) :
      exec (.queueAdd tag song lane lanePos) s = .next (s'.answered m code data) :=
    sendRequest_taken s tag (.queueAdd song lane lanePos) s' code data hlink nofun rfl (by simp [Request.payload, le32_length])
      ha hs
  have hlane (hb : ¬ bad) : laneNamed lane.toNat = some l := laneNamed_good (by omega)
  have hsong (hb : ¬ bad) : ¬ (song.toNat < 1 ∨ 999999 < song.toNat) := by omega
  refine ⟨fun hb => ?_, fun hb e (he : waitingSong s.rq.entries song.toNat = some e) => ?_,
    fun hb (hnone : waitingSong s.rq.entries song.toNat = none) hfull => ?_,
    fun hb (hnone : waitingSong s.rq.entries song.toNat = none) hlen hrush => ?_⟩
  · refine sent ?_ rfl
    by_cases hl : 1 < lane.toNat
    · simp only [takeQueueAdd, laneNamed_bad hl]
      rfl
    · have : song.toNat < 1 ∨ 999999 < song.toNat := by omega
      simp only [takeQueueAdd, laneNamed_good (Nat.not_lt.1 hl), if_pos this]
      rfl
  · refine sent ?_ rfl
    simp only [takeQueueAdd, hlane hb, if_neg (hsong hb), he]
    rfl
  · refine sent ?_ rfl
    simp only [takeQueueAdd, hlane hb, if_neg (hsong hb), hnone]
    by_cases hlen : 32 ≤ s.rq.entries.length
    · rw [if_pos hlen]
      rfl
    · rw [if_neg hlen, if_pos (hfull.resolve_left hlen)]
      rfl
  · intro p entry placed q1
    have hlen' : ¬ 32 ≤ s.rq.entries.length := Nat.not_le.2 hlen
    have hroom : ¬ (l = .rush ∧ 2 ≤ rushCount s.rq.entries) := fun ⟨hl, hc⟩ => Nat.not_lt.2 hc (hrush hl)
    have hq1 : insertEntry s.rq.entries entry p = q1 := insertEntry_placed ..
    refine sent ?_ rfl
    simp only [takeQueueAdd, hlane hb, if_neg (hsong hb), hnone, if_neg hlen', if_neg hroom]
    rw [← hq1]
    rfl

/-! ### QUEUE_MOVE and QUEUE_CANCEL (R16, R17) -/

/-- Settles O19. -/
theorem queueMovePlacesEntry : Obligations.QueueMovePlacesEntry := by
  intro s tag id lane lanePos hlink m refused
  have sent {s' : State} {code : ResultCode} {data : List Byte}
      (ha : takeQueueMove s id.toNat lane.toNat lanePos.toNat = ⟨s', code, data⟩) (hs : s'.link = s.link) :
      exec (.queueMove tag id lane lanePos) s = .next (s'.answered m code data) :=
    sendRequest_taken s tag (.queueMove id lane lanePos) s' code data hlink nofun rfl (by simp [Request.payload]) ha hs
  refine ⟨fun hl => sent ?_ rfl, fun hl hnone => sent ?_ rfl, fun hl e he => ?_⟩
  · simp only [takeQueueMove, laneNamed_bad hl]
    rfl
  · simp only [takeQueueMove, laneNamed_good hl, hnone]
    rfl
  · intro others l
    refine ⟨fun hp => sent ?_ rfl, fun hp hlr hfull => sent ?_ rfl, fun hp hroom => ?_⟩
    · simp only [takeQueueMove, laneNamed_good hl, he, if_pos hp]
      rfl
    · have hfull' : (if lane = 1 then QueueLane.rush else .normal) = .rush ∧ 2 ≤ rushCount (removeEntry s.rq.entries id.toNat) :=
        ⟨hlr, hfull⟩
      simp only [takeQueueMove, laneNamed_good hl, he, if_neg hp, if_pos hfull']
      rfl
    · intro p placed q1
      have hroom' : ¬ ((if lane = 1 then QueueLane.rush else .normal) = .rush ∧
          2 ≤ rushCount (removeEntry s.rq.entries id.toNat)) := fun ⟨h1, h2⟩ => Nat.not_lt.2 h2 (hroom h1)
      have hq1 : insertEntry (removeEntry s.rq.entries id.toNat) { e with lane := l } p = q1 := insertEntry_placed ..
      have hraised : (s.setEntries q1).raiseIf (decide (q1 ≠ s.rq.entries)) .queueChanged =
          { s with
            rq := { s.rq with entries := q1 }
            att := if q1 = s.rq.entries then s.att else s.att.raise .queueChanged } := by
        by_cases h : q1 = s.rq.entries
        · simp only [h, ne_eq, not_true_eq_false, decide_false, if_true]
          rfl
        · simp only [h, ne_eq, not_false_eq_true, decide_true, if_false]
          rfl
      refine sent (s' := State.autoAdvance _) ?_ (by simp)
      rw [← hraised, ← hq1]
      simp only [takeQueueMove, laneNamed_good hl, he, if_neg hp, if_neg hroom']
      rfl

/-- A cancellation, field by field (R12). -/
theorem cancelEntry_eq (s : State) (e : Entry) (r : DropReason) :
    s.cancelEntry e r = { s with
      rq := { s.rq with entries := removeEntry s.rq.entries e.id }
      slotA := if s.slotHolding e.id = some .a then s.slotA.emptied else s.slotA
      slotB := if s.slotHolding e.id = some .b then s.slotB.emptied else s.slotB
      pbc := (s.tellPads e.requesters ⟨.dropped r, e.song⟩).pbc
      att := s.att.raise .queueChanged } := by
  have hfind : (s.setEntries (removeEntry s.rq.entries e.id)).slotHolding e.id = s.slotHolding e.id := rfl
  simp only [State.cancelEntry, State.emptySlotOf, hfind]
  cases s.slotHolding e.id with
  | none => rfl
  | some n => cases n <;> rfl

/-- Settles O20. -/
theorem queueCancelRemovesEntry : Obligations.QueueCancelRemovesEntry := by
  intro s tag id hlink
  have sent {s' : State} {code : ResultCode} {data : List Byte} (ha : takeQueueCancel s id.toNat = ⟨s', code, data⟩)
      (hs : s'.link = s.link) : exec (.queueCancel tag id) s = .next (s'.answered ⟨0x13, tag, [id]⟩ code data) :=
    sendRequest_taken s tag (.queueCancel id) s' code data hlink nofun rfl (by simp [Request.payload]) ha hs
  refine ⟨fun hnone => sent ?_ rfl, fun e he => ⟨fun hp => sent ?_ rfl, fun hp => ?_⟩⟩
  · simp only [takeQueueCancel, hnone]
    rfl
  · simp only [takeQueueCancel, he, if_pos hp]
    rfl
  · refine sent (s' := State.autoAdvance _) ?_ (by simp)
    simp only [takeQueueCancel, he, if_neg hp, cancelEntry_eq, (findEntry_some he).2]
    rfl

end Sys2Proof.Machine

namespace Sys2Proof.Machine

/-! ## The release of a pad's address (R25, R44) -/

/-- Raising a member twice is raising it once (R202). -/
theorem Attention.raise_again (a : Attention) (m : Member) : (a.raise m).raise m = a.raise m := by
  have latched : AttentionSet.has (a.latched ||| m.single) m = true := by
    cases m <;> simp [AttentionSet.has, Member.single, Member.bit]
  by_cases hmask : AttentionSet.has a.mask m = true
  · simp [Attention.raise, hmask]
  · by_cases hl : AttentionSet.has a.latched m = true
    · simp [Attention.raise, hmask, hl]
    · simp [Attention.raise, hmask, hl, latched]

/-- Entries cancelled one after another for want of requesters, the pad taken off their lists (R25). -/
def State.cancelAll (s : State) (pad : Nat) (l : List Entry) : State :=
  l.foldl (fun s e => s.cancelEntry (e.without pad) .cancelled) s

section
variable (pad : Nat)

@[simp] theorem cancelAll_nil (s : State) : s.cancelAll pad [] = s := rfl
@[simp] theorem cancelAll_cons (s : State) (e : Entry) (l : List Entry) :
    s.cancelAll pad (e :: l) = (s.cancelEntry (e.without pad) .cancelled).cancelAll pad l := rfl

/-- What no cancellation touches. -/
theorem cancelAll_frame (l : List Entry) (s : State) :
    (s.cancelAll pad l).tr = s.tr ∧ (s.cancelAll pad l).mfe = s.mfe ∧ (s.cancelAll pad l).su = s.su ∧
      (s.cancelAll pad l).llu = s.llu ∧ (s.cancelAll pad l).cmp = s.cmp ∧ (s.cancelAll pad l).link = s.link ∧
      (s.cancelAll pad l).pending = s.pending ∧ (s.cancelAll pad l).resetLow = s.resetLow ∧
      (s.cancelAll pad l).blocks = s.blocks ∧ (s.cancelAll pad l).draws = s.draws := by
  induction l generalizing s with
  | nil => simp
  | cons e rest ih => simpa using ih (s.cancelEntry (e.without pad) .cancelled)

theorem cancelAll_rq (l : List Entry) (s : State) :
    (s.cancelAll pad l).rq = { s.rq with entries := s.rq.entries.filter fun x => !l.any fun e => e.id == x.id } := by
  induction l generalizing s with
  | nil => simp
  | cons e rest ih =>
    rw [cancelAll_cons, ih, cancelEntry_rq]
    simp only [removeEntry, List.filter_filter, List.any_cons, Bool.not_or]
    congr 1
    exact List.filter_congr fun x _ => by
      rw [Bool.and_comm, show (e.without pad).id = e.id from rfl, bne, Bool.beq_comm (a := x.id)]

theorem cancelAll_pbc (l : List Entry) (s : State) (h : ∀ e ∈ l, (e.without pad).requesters = []) :
    (s.cancelAll pad l).pbc = s.pbc := by
  induction l generalizing s with
  | nil => rfl
  | cons e rest ih =>
    rw [cancelAll_cons, ih _ fun x hx => h x (List.mem_cons_of_mem _ hx),
      cancelEntry_pbc_unlisted _ _ _ (h e List.mem_cons_self)]

theorem cancelAll_att (l : List Entry) (s : State) :
    (s.cancelAll pad l).att = if l = [] then s.att else s.att.raise .queueChanged := by
  induction l generalizing s with
  | nil => rfl
  | cons e rest ih =>
    rw [cancelAll_cons, ih, cancelEntry_att, Attention.raise_again]
    simp

/-- A slot that holds none of the entries stands. -/
theorem cancelAll_slot_kept (l : List Entry) (s : State) (n : SlotName) (h : ∀ e ∈ l, (s.slot n).holds e.id = false) :
    (s.cancelAll pad l).slot n = s.slot n := by
  induction l generalizing s with
  | nil => rfl
  | cons e rest ih =>
    have kept : (s.cancelEntry (e.without pad) .cancelled).slot n = s.slot n := by
      rw [cancelEntry_slot, if_neg]
      intro hn
      have := h e List.mem_cons_self
      rw [show e.id = (e.without pad).id from rfl, State.slotHolding_some hn] at this
      cases this
    rw [cancelAll_cons, ih _ fun x hx => ?_, kept]
    rw [kept]
    exact h x (List.mem_cons_of_mem _ hx)

theorem State.slotHolding_iff {s : State} {id : Nat} {n : SlotName} :
    s.slotHolding id = some n ↔ (s.slot n).holds id = true ∧ (n = .b → (s.slot .a).holds id = false) := by
  unfold State.slotHolding
  cases n <;> cases ha : s.slotA.holds id <;> cases hb : s.slotB.holds id <;> simp [State.slot, ha, hb]

/-- A slot holds one entry at most. -/
theorem Slot.holds_unique {x : Slot} {i j : Nat} (hi : x.holds i = true) (hj : x.holds j = true) : i = j := by
  obtain ⟨y, hy, rfl⟩ := Slot.holds_iff.1 hi
  obtain ⟨z, hz, rfl⟩ := Slot.holds_iff.1 hj
  rw [hy] at hz
  cases hz
  rfl

/-- The cancellation of another entry leaves the slot found for an entry as it is, and it is still the one found. -/
theorem cancelEntry_slot_other {s : State} {e : Entry} {r : DropReason} {id : Nat} {n : SlotName} (hne : e.id ≠ id)
    (hn : s.slotHolding id = some n) :
    (s.cancelEntry e r).slot n = s.slot n ∧ (s.cancelEntry e r).slotHolding id = some n := by
  obtain ⟨hholds, hfirst⟩ := State.slotHolding_iff.1 hn
  have kept : (s.cancelEntry e r).slot n = s.slot n := by
    rw [cancelEntry_slot, if_neg]
    exact fun he => hne (Slot.holds_unique (State.slotHolding_some he) hholds)
  refine ⟨kept, State.slotHolding_iff.2 ⟨kept ▸ hholds, fun hb => ?_⟩⟩
  rw [cancelEntry_slot]
  split
  · rfl
  · exact hfirst hb

/-- The slot found for one of the entries is emptied. -/
theorem cancelAll_slot_emptied (l : List Entry) (s : State) {e : Entry} {n : SlotName} (he : e ∈ l)
    (hn : s.slotHolding e.id = some n) : (s.cancelAll pad l).slot n = (s.slot n).emptied := by
  induction l generalizing s with
  | nil => cases he
  | cons x rest ih =>
    rw [cancelAll_cons]
    by_cases hid : x.id = e.id
    · have gone : (s.cancelEntry (x.without pad) .cancelled).slot n = (s.slot n).emptied := by
        rw [cancelEntry_slot, if_pos]
        rw [← hn, ← hid]
        rfl
      rw [cancelAll_slot_kept _ _ _ _ fun y _ => by rw [gone]; rfl, gone]
    · obtain ⟨kept, hn'⟩ := cancelEntry_slot_other (s := s) (e := x.without pad) (r := .cancelled) hid hn
      have hmem : e ∈ rest := (List.mem_cons.1 he).resolve_left fun h => hid (h ▸ rfl)
      rw [ih _ hmem hn', kept]

end

/-! ### PAD_RELEASE -/

theorem padNamed_place (i : Fin 8) : padNamed (i.val + 1) = some i := by fin_cases i <;> rfl

theorem padNamed_bad {a : Nat} (h : a < 1 ∨ 8 < a) : padNamed a = none := by
  simp only [padNamed, List.find?_eq_none, beq_iff_eq, padAddress]
  intro i _
  omega

/-- Whether a waiting PAD entry with requesters loses them all at a pad's release (R25). -/
def Entry.leftEmpty (e : Entry) (pad : Nat) : Bool :=
  e.waits && e.origin == .pad && !e.requesters.isEmpty && (e.requesters.filter fun r => r.pad != pad).isEmpty

/-- The waiting PAD entries that a pad's release leaves without requesters (R25). -/
def emptiedBy (pad : Nat) (q : List Entry) : List Entry :=
  (waiting q).filter fun e => e.origin == .pad && e.lists pad && (e.without pad).requesters.isEmpty

/-- Whether a pad's release changes a requester list (R25). -/
def RequestQueue.listsPad (r : RequestQueue) (pad : Nat) : Bool :=
  r.entries.any (fun e => e.lists pad) || r.history.any fun h => h.requesters.any fun x => x.pad == pad

/-- The pad's address taken off every requester list of the queue and the history (R25). -/
def State.delisted (s : State) (pad : Nat) : State :=
  s.setRq { s.rq with entries := s.rq.entries.map (·.without pad), history := s.rq.history.map (·.without pad) }

theorem delisted_slot (s : State) (pad : Nat) (n : SlotName) : (s.delisted pad).slot n = s.slot n := State.setRq_slot ..
theorem delisted_slotHolding (s : State) (pad id : Nat) : (s.delisted pad).slotHolding id = s.slotHolding id := rfl

/-- The release up to the test of R74. -/
def State.padReleased (s : State) (pad : Nat) : State :=
  ((s.delisted pad).cancelAll pad (emptiedBy pad s.rq.entries)).raiseIf (s.rq.listsPad pad) .queueChanged

theorem releasePad_eq (s : State) (pad : Nat) : s.releasePad pad = (s.padReleased pad).autoAdvance := rfl

/-- A list left empty held the pad exactly when it held anything. -/
theorem lists_of_without_empty {e : Entry} {pad : Nat} (h : (e.without pad).requesters = []) :
    e.lists pad = !e.requesters.isEmpty := by
  have hall : ∀ r ∈ e.requesters, r.pad = pad := by simpa [Entry.without, List.filter_eq_nil_iff] using h
  cases hr : e.requesters with
  | nil => simp [Entry.lists, hr]
  | cons r rest => simp [Entry.lists, hr, hall r (hr ▸ List.mem_cons_self)]

theorem mem_emptiedBy {pad : Nat} {q : List Entry} {e : Entry} :
    e ∈ emptiedBy pad q ↔ e ∈ q ∧ e.leftEmpty pad = true := by
  simp only [emptiedBy, Entry.leftEmpty, List.mem_filter, mem_waiting, Bool.and_eq_true, Entry.waits_iff, List.isEmpty_iff]
  constructor
  · rintro ⟨⟨hq, hw⟩, ⟨ho, hl⟩, hempty⟩
    exact ⟨hq, ⟨⟨hw, ho⟩, lists_of_without_empty hempty ▸ hl⟩, hempty⟩
  · rintro ⟨hq, ⟨⟨hw, ho⟩, hl⟩, hempty⟩
    exact ⟨⟨hq, hw⟩, ⟨ho, (lists_of_without_empty hempty).symm ▸ hl⟩, hempty⟩

/-- With distinct ids the entries cancelled are the emptied ones alone. -/
theorem emptiedBy_ids {q : List Entry} (hq : (q.map (·.id)).Nodup) {pad : Nat} {x : Entry} (hx : x ∈ q) :
    ((emptiedBy pad q).any fun e => e.id == x.id) = x.leftEmpty pad := by
  rw [Bool.eq_iff_iff, List.any_eq_true]
  constructor
  · rintro ⟨e, he, hid⟩
    obtain ⟨heq, hemptied⟩ := mem_emptiedBy.1 he
    rwa [← entry_unique hq heq hx (by simpa using hid)]
  · exact fun h => ⟨x, mem_emptiedBy.2 ⟨hx, h⟩, by simp⟩

theorem filter_pad_eq_self {l : List Requester} {pad : Nat} :
    (l.filter fun r => r.pad != pad) = l ↔ (l.any fun r => r.pad == pad) = false := by
  simp [List.filter_eq_self]

/-- No list changes exactly when none held the pad. -/
theorem listsPad_false {r : RequestQueue} {pad : Nat} : r.listsPad pad = false ↔
    (∀ e ∈ r.entries, (e.requesters.filter fun r => r.pad != pad) = e.requesters) ∧
      ∀ h ∈ r.history, (h.requesters.filter fun r => r.pad != pad) = h.requesters := by
  simp only [filter_pad_eq_self, RequestQueue.listsPad, Bool.or_eq_false_iff, List.any_eq_false, Bool.not_eq_true, Entry.lists]

/-- Where an entry is cancelled, a list changes. -/
theorem emptiedBy_nil {r : RequestQueue} {pad : Nat} (h : r.listsPad pad = false) : emptiedBy pad r.entries = [] := by
  simp only [RequestQueue.listsPad, Bool.or_eq_false_iff, List.any_eq_false, Bool.not_eq_true] at h
  obtain ⟨hentries, _⟩ := h
  simp only [emptiedBy, List.filter_eq_nil_iff, Bool.and_eq_true, not_and]
  intro e he ⟨_, hl⟩
  rw [hentries e (mem_waiting.1 he).1] at hl
  cases hl

section
variable (s : State) (pad : Nat)

theorem padReleased_pbc : (s.padReleased pad).pbc = s.pbc := by
  rw [State.padReleased, State.raiseIf_pbc, cancelAll_pbc, State.delisted, State.setRq_pbc]
  intro e he
  obtain ⟨_, hempty⟩ := mem_emptiedBy.1 he
  simp only [Entry.leftEmpty, Bool.and_eq_true, List.isEmpty_iff] at hempty
  exact hempty.2

theorem padReleased_rq (hq : (s.rq.entries.map (·.id)).Nodup) : (s.padReleased pad).rq = { s.rq with
    entries := (s.rq.entries.filter fun e => !e.leftEmpty pad).map (·.without pad)
    history := s.rq.history.map (·.without pad) } := by
  have hkept : (s.rq.entries.filter fun e => !(emptiedBy pad s.rq.entries).any fun x => x.id == e.id) =
      s.rq.entries.filter fun e => !e.leftEmpty pad :=
    List.filter_congr fun e he => congrArg (!·) (emptiedBy_ids hq he)
  rw [State.padReleased, State.raiseIf_rq, cancelAll_rq, State.delisted, State.setRq_rq, List.filter_map, ← hkept]
  rfl

theorem padReleased_att : (s.padReleased pad).att =
    if s.rq.listsPad pad then s.att.raise .queueChanged else s.att := by
  cases h : s.rq.listsPad pad with
  | false => simp [State.padReleased, State.delisted, h, emptiedBy_nil h]
  | true =>
    rw [State.padReleased, h, State.raiseIf_true, State.raise_att, cancelAll_att]
    split
    · rfl
    · rw [Attention.raise_again]
      rfl

theorem padReleased_slot_emptied {e : Entry} {n : SlotName} (he : e ∈ s.rq.entries) (hem : e.leftEmpty pad = true)
    (hn : s.slotHolding e.id = some n) : (s.padReleased pad).slot n = (s.slot n).emptied := by
  rw [← delisted_slotHolding s pad] at hn
  rw [State.padReleased, State.raiseIf_slot, cancelAll_slot_emptied pad _ _ (mem_emptiedBy.2 ⟨he, hem⟩) hn, delisted_slot]

theorem padReleased_slot_kept {n : SlotName}
    (h : ∀ e ∈ s.rq.entries, e.leftEmpty pad = true → (s.slot n).holds e.id = false) :
    (s.padReleased pad).slot n = s.slot n := by
  rw [State.padReleased, State.raiseIf_slot, cancelAll_slot_kept, delisted_slot]
  intro e he
  obtain ⟨heq, hem⟩ := mem_emptiedBy.1 he
  rw [delisted_slot]
  exact h e heq hem

theorem padReleased_frame : (s.padReleased pad).tr = s.tr ∧ (s.padReleased pad).mfe = s.mfe ∧
    (s.padReleased pad).su = s.su ∧ (s.padReleased pad).llu = s.llu ∧ (s.padReleased pad).cmp = s.cmp ∧
    (s.padReleased pad).link = s.link ∧ (s.padReleased pad).pending = s.pending ∧
    (s.padReleased pad).resetLow = s.resetLow ∧ (s.padReleased pad).blocks = s.blocks ∧
    (s.padReleased pad).draws = s.draws := by
  simpa [State.padReleased, State.delisted] using cancelAll_frame pad (emptiedBy pad s.rq.entries) (s.delisted pad)

end

/-- Settles O31: the release of the freed pad is `padReleased`, with distinct ids cancelling the emptied entries alone. -/
theorem padReleaseFreesAddress : Obligations.PadReleaseFreesAddress := by
  have sent {s s' : State} {tag a : Byte} {code : ResultCode} (hlink : LinkFree s)
      (ha : takePadRelease s a.toNat = ⟨s', code, []⟩) (hs : s'.link = s.link) :
      exec (.padRelease tag a) s = .next (s'.answered ⟨0x19, tag, [a]⟩ code []) :=
    sendRequest_taken s tag (.padRelease a) s' code [] hlink nofun rfl (by simp [Request.payload]) ha hs
  refine ⟨fun s tag a hlink hbad => sent hlink ?_ rfl, fun s tag a i hlink hi => ⟨fun hfree => sent hlink ?_ rfl, ?_⟩⟩
  · simp only [takePadRelease, padNamed_bad hbad]
    rfl
  · simp only [takePadRelease, hi, padNamed_place, if_pos hfree]
    rfl
  · intro hused hq off emptied
    obtain ⟨htr, hmfe, hsu, hllu, hcmp, hl, hpending, hlow, hblocks, hdraws⟩ :=
      padReleased_frame (s.setPad i freeRecord) (i.val + 1)
    refine ⟨(s.setPad i freeRecord).padReleased (i.val + 1), ?_, padReleased_pbc .., padReleased_rq _ _ hq, ?_,
      fun n => ⟨?_, ?_⟩, htr, hmfe, hsu, hllu, hcmp, hl, hpending, hlow, hblocks, hdraws⟩
    · refine sent hlink ?_ ((autoAdvance_link _).trans hl)
      simp only [takePadRelease, hi, padNamed_place, if_neg hused]
      rfl
    · rw [padReleased_att]
      change (if s.rq.listsPad (i.val + 1) then s.att.raise .queueChanged else s.att) = _
      cases h : s.rq.listsPad (i.val + 1) with
      | false => exact (if_pos (listsPad_false.1 h)).symm
      | true =>
        refine (if_neg fun hsame => ?_).symm
        rw [listsPad_false.2 hsame] at h
        cases h
    · intro e he hem hn
      exact (padReleased_slot_emptied (s.setPad i freeRecord) _ he hem hn).trans (congrArg _ (State.setPad_slot ..))
    · intro hnone
      refine (padReleased_slot_kept (s.setPad i freeRecord) _ fun e he hem => ?_).trans (State.setPad_slot ..)
      rw [State.setPad_slot]
      exact hnone e he hem

end Sys2Proof.Machine

namespace Sys2Proof.Machine

/-! ## Cueing and START (R22, R68, R75, R76, R121, R124, R144) -/

/-- What cueing leaves, the slot that holds the entry being known. -/
theorem cue_eq {s : State} {e : Entry} {n : SlotName} (h : s.slotHolding e.id = some n) :
    s.cue e = { s.setSlot n { s.slot n with state := .active } with
      rq := { s.rq with entries := { e with state := .playing } :: removeEntry s.rq.entries e.id }
      tr := s.tr.cued (imgDuration (s.slot n).image)
      su := s.su.arm (s.slot n).image e.requesters s.mfe.channels
      llu := s.llu.opened (s.slot n).image
      pbc := (s.tellPads e.requesters ⟨.started, e.song⟩).pbc
      att := (s.att.raise .songStarted).raise .queueChanged } := by
  simp only [State.cue, h]
  cases n <;> rfl

theorem armed_lane (u : ScoringUnit) (m : ImageMemory) (list : List Requester) (channels : Quad Channel) (k : Fin 4) :
    (u.arm m list channels).lanes.get k = armLane u m list channels k := Quad.get_mapIdx ..

/-- The row slots opened at cueing await each its first line (R144). -/
theorem opened_row (l : LayoutUnit) (m : ImageMemory) (k : Fin 4) : (l.opened m).rows.get k =
    ⟨none, none, (List.range (imgLines m)).find? (fun i => (lineAt m i).hint == k.val), 0⟩ := by
  simp only [LayoutUnit.opened, Quad.get_mapIdx, slotLines, List.head?_filter, beq_eq_decide]

/-- A lane armed for the part it resolved (R121, R124). -/
theorem armLane_fields (u : ScoringUnit) (m : ImageMemory) (list : List Requester) (channels : Quad Channel) (k : Fin 4) :
    (armLane u m list channels k).part = resolvePart (u.bindings.get k) (imgParts m) list k.val ∧
      (armLane u m list channels k).state = (if (armLane u m list channels k).part = none then .idle
        else if (channels.get k).latest.presence = .present then .armed else .suspended) ∧
      (armLane u m list channels k).noteCount = ((armLane u m list channels k).part.map (imgNotes m)).getD 0 := by
  refine ⟨rfl, ?_, ?_⟩ <;> cases h : resolvePart (u.bindings.get k) (imgParts m) list k.val <;> simp [armLane, h]

theorem startEntry_head {s : State} {e : Entry} (h : (waiting s.rq.entries).head? = some e) :
    startEntry s 0 = if e.state = .staged then .ok e else .error .badState := by
  obtain ⟨rest, hw⟩ := List.head?_eq_some_iff.1 h
  simp [startEntry, hw]

theorem startEntry_empty {s : State} (h : (waiting s.rq.entries).head? = none) : startEntry s 0 = .error .badState := by
  simp [startEntry, List.head?_eq_none_iff.1 h]

theorem startEntry_id {s : State} {id : Nat} {e : Entry} (hid : id ≠ 0) (h : findEntry s.rq.entries id = some e) :
    startEntry s id = if e.state = .staged then .ok e else .error .badState := by
  simp [startEntry, hid, h]

theorem startEntry_unknown {s : State} {id : Nat} (hid : id ≠ 0) (h : findEntry s.rq.entries id = none) :
    startEntry s id = .error .notFound := by
  simp [startEntry, hid, h]

theorem byte_ne_zero {b : Byte} (h : b ≠ 0) : b.toNat ≠ 0 := fun h0 => h (BitVec.eq_of_toNat_eq h0)

/-- Settles O40: cueing field by field; START cues what `startEntry` names. -/
theorem startCuesSongOrRefuses : Obligations.StartCuesSongOrRefuses := by
  have sent {s s' : State} {tag id : Byte} {code : ResultCode} {data : List Byte} (hlink : LinkFree s)
      (ha : takeStart s id.toNat = ⟨s', code, data⟩) (hs : s'.link = s.link) :
      exec (.start tag id) s = .next (s'.answered ⟨0x28, tag, [id]⟩ code data) :=
    sendRequest_taken s tag (.start id) s' code data hlink nofun rfl (by simp [Request.payload]) ha hs
  refine ⟨fun s e n hn => ?_, fun s tag id e n hlink hidle hi hst hn => ?_, fun s tag id hlink => ?_⟩
  · intro image t
    have ht : t = _ := cue_eq hn
    have hlane (k : Fin 4) : t.su.lanes.get k = armLane s.su image e.requesters s.mfe.channels k := by
      rw [ht]
      exact armed_lane ..
    obtain ⟨hslot, hother⟩ : t.slot n = { s.slot n with state := .active } ∧ ∀ k, k ≠ n → t.slot k = s.slot k := by
      obtain ⟨_, _, hslots⟩ := cue_queue hn
      exact ⟨(hslots n).trans (if_pos rfl), fun k hk => (hslots k).trans (if_neg hk)⟩
    refine ⟨hslot, hother, ?_⟩
    have hlanes (k : Fin 4) := armLane_fields s.su image e.requesters s.mfe.channels k
    simp only [hlane]
    rw [ht]
    refine ⟨rfl, rfl, rfl, rfl, rfl, rfl, rfl, fun k => ?_, rfl, rfl, rfl, rfl, rfl, fun k => opened_row .., ?_⟩
    · obtain ⟨hpart, hstate, hnotes⟩ := hlanes k
      refine ⟨hpart, hstate, ?_, rfl, rfl, hnotes, rfl, rfl, rfl, rfl, rfl, rfl, rfl, rfl, rfl, rfl⟩
      cases h : s.su.level <;> simp [armLane, h, Level.tolerance]
    · simp
  · have hstart : startEntry s id.toNat = .ok e := by
      rcases hi with ⟨rfl, hhead⟩ | ⟨hid, hfind⟩
      · exact (startEntry_head hhead).trans (if_pos hst)
      · exact (startEntry_id (byte_ne_zero hid) hfind).trans (if_pos hst)
    refine sent hlink ?_ (cue_link s e)
    simp only [takeStart, hidle, ne_eq, not_true_eq_false, if_false, hstart]
    rw [cue_eq hn]
    rfl
  · intro refused
    have refuses {code : ResultCode} (hi : s.tr.state = .idle) (hstart : startEntry s id.toNat = .error code) :
        refused code := by
      refine sent hlink ?_ rfl
      simp only [takeStart, hi, ne_eq, not_true_eq_false, if_false, hstart]
      rfl
    refine ⟨fun hi => sent hlink (by simp only [takeStart, if_pos hi]; rfl) rfl, fun hi hid hnone => ?_,
      fun hi hid hfind => refuses hi (startEntry_unknown (byte_ne_zero hid) hfind),
      fun hi hid e hfind hst => refuses hi ((startEntry_id (byte_ne_zero hid) hfind).trans (if_neg hst))⟩
    subst hid
    cases hhead : (waiting s.rq.entries).head? with
    | none => exact refuses hi (startEntry_empty hhead)
    | some e => exact refuses hi ((startEntry_head hhead).trans (if_neg (hnone e hhead)))

end Sys2Proof.Machine

namespace Sys2Proof.Machine

/-! ## Readings of the queue and the history (R18, R19, R214) -/

/-! ### Bytes of a reading -/

theorem u8_beyond {p : List Byte} {i : Nat} (h : p.length ≤ i) : u8 p i = 0 := by
  simp [u8, List.getElem?_eq_none h]

/-- A byte of the record at place `k` among records of one length. -/
theorem u8_flatMap {α : Type} {f : α → List Byte} {n : Nat} (hf : ∀ x, (f x).length = n) {l : List α} {k j : Nat} {x : α}
    (hx : l[k]? = some x) (hj : j < n) : u8 (l.flatMap f) (n * k + j) = u8 (f x) j := by
  induction l generalizing k with
  | nil => simp at hx
  | cons y rest ih =>
    rw [List.flatMap_cons]
    cases k with
    | zero =>
      cases Option.some.inj hx
      rw [Nat.mul_zero, Nat.zero_add, u8_append_left _ _ _ (by rw [hf]; exact hj)]
    | succ k =>
      rw [u8_append_right _ _ _ (by rw [hf, Nat.mul_succ]; omega), hf,
        show n * (k + 1) + j - n = n * k + j by rw [Nat.mul_succ]; omega]
      exact ih (by simpa using hx)

theorem flatMap_length {α : Type} {f : α → List Byte} {n : Nat} (hf : ∀ x, (f x).length = n) (l : List α) :
    (l.flatMap f).length = n * l.length := by
  induction l with
  | nil => simp
  | cons y rest ih => rw [List.flatMap_cons, List.length_append, hf, ih, List.length_cons, Nat.mul_succ, Nat.add_comm]

theorem padTo_length (n : Nat) (l : List Byte) : (padTo n l).length = n := by
  simp only [padTo, List.length_take, List.length_append, List.length_replicate]
  omega

theorem u8_replicate_zero (n i : Nat) : u8 (List.replicate n 0) i = 0 := by
  simp only [u8, List.getD_eq_getElem?_getD, List.getElem?_replicate]
  split <;> rfl

/-- A byte of a padded list: the list's own, or zero past its end. -/
theorem u8_padTo {n i : Nat} (l : List Byte) (hi : i < n) : u8 (padTo n l) i = u8 l i := by
  have htake : u8 (padTo n l) i = u8 (l ++ List.replicate (n - l.length) 0) i := by
    simp [padTo, u8, List.getD_eq_getElem?_getD, hi]
  rw [htake]
  by_cases h : i < l.length
  · exact u8_append_left _ _ _ h
  · rw [u8_append_right _ _ _ (Nat.not_lt.1 h), u8_replicate_zero, u8_beyond (Nat.not_lt.1 h)]

/-- A field of a padded list of records: the record's own, or zero where no record stands. -/
theorem u8_padTo_flatMap {α : Type} {f : α → List Byte} {n m k j : Nat} (hf : ∀ x, (f x).length = n) (l : List α)
    (hj : j < n) (hk : n * k + j < m) :
    u8 (padTo m (l.flatMap f)) (n * k + j) = (l[k]?.map fun x => u8 (f x) j).getD 0 := by
  rw [u8_padTo _ hk]
  cases hx : l[k]? with
  | some x => exact u8_flatMap hf hx hj
  | none =>
    refine u8_beyond ?_
    rw [flatMap_length hf]
    have := Nat.mul_le_mul_left n (List.getElem?_eq_none_iff.1 hx)
    omega

theorem u16_congr {p q : List Byte} {a b : Nat} (h : ∀ i < 2, u8 p (a + i) = u8 q (b + i)) : u16 p a = u16 q b := by
  rw [u16, u16, h 1 (by decide), show u8 p a = u8 q b from h 0 (by decide)]

theorem u32_congr {p q : List Byte} {a b : Nat} (h : ∀ i < 4, u8 p (a + i) = u8 q (b + i)) : u32 p a = u32 q b := by
  rw [u32, u32, h 1 (by decide), h 2 (by decide), h 3 (by decide), show u8 p a = u8 q b from h 0 (by decide)]

/-- A two-byte field of a padded list of such fields, zero where none stands. -/
theorem u16_padTo_n16 {m j : Nat} (l : List Nat) (hj : 2 * j + 1 < m) :
    u16 (padTo m (l.flatMap n16)) (2 * j) = BitVec.ofNat 16 (l.getD j 0) := by
  have hlen (x : Nat) : (n16 x).length = 2 := rfl
  have hlow := u8_padTo_flatMap (j := 0) hlen l (by decide) (Nat.lt_of_succ_lt hj)
  have hhigh := u8_padTo_flatMap hlen l (by decide) hj
  rw [u16, hhigh, show 2 * j = 2 * j + 0 from rfl, hlow, List.getD_eq_getElem?_getD]
  cases l[j]? with
  | none => rfl
  | some x => exact join16 _

/-! ### The queue's records -/

/-- A requester list as sent: its items, the unused ones 0 (R214). -/
def requesterItems (l : List Requester) : List Byte := padTo 8 (l.flatMap fun r => n8 r.pad ++ n8 r.part)

theorem requesterData_eq (l : List Requester) : requesterData l = n8 l.length ++ requesterItems l := rfl

theorem requesterItems_length (l : List Requester) : (requesterItems l).length = 8 := padTo_length ..

theorem u8_requesterItems (l : List Requester) {j : Nat} (hj : j < 4) :
    u8 (requesterItems l) (2 * j) = BitVec.ofNat 8 ((l[j]?.map (·.pad)).getD 0) ∧
      u8 (requesterItems l) (2 * j + 1) = BitVec.ofNat 8 ((l[j]?.map (·.part)).getD 0) := by
  have hlen (r : Requester) : (n8 r.pad ++ n8 r.part).length = 2 := rfl
  have hpad := u8_padTo_flatMap (m := 8) (k := j) (j := 0) hlen l (by decide) (by omega)
  have hpart := u8_padTo_flatMap (m := 8) (k := j) (j := 1) hlen l (by decide) (by omega)
  refine ⟨hpad.trans ?_, hpart.trans ?_⟩ <;> cases l[j]? <;> rfl

/-- A queue record up to its requester list's items (R214). -/
def queueRecordHead (q : List Entry) (e : Entry) : List Byte :=
  n8 (positionOf q e.id) ++ n8 e.id ++ n32 e.song ++ n8 e.lane.value ++ n8 e.state.value ++ n8 e.origin.value ++
    n32 e.arrival ++ n8 e.requesters.length

theorem queueRecord_eq (q : List Entry) (e : Entry) : queueRecord q e = queueRecordHead q e ++ (requesterItems e.requesters ++
    (n8 (e.catalogue.getD ⟨0, []⟩).parts ++ n8 (e.catalogue.getD ⟨0, []⟩).title.length ++
      padTo 64 ((e.catalogue.getD ⟨0, []⟩).title.flatMap n16))) := by
  simp [queueRecord, queueRecordHead, requesterData_eq]

theorem queueRecordHead_length (q : List Entry) (e : Entry) : (queueRecordHead q e).length = 14 := rfl

theorem queueRecord_length (q : List Entry) (e : Entry) : (queueRecord q e).length = 88 := by
  simp only [queueRecord_eq, List.length_append, queueRecordHead_length, requesterItems_length, padTo_length]
  rfl

section
variable (q : List Entry) (e : Entry)

theorem queueRecord_head {i : Nat} (hi : i < 14) : u8 (queueRecord q e) i = u8 (queueRecordHead q e) i := by
  rw [queueRecord_eq, u8_append_left _ _ _ (by rwa [queueRecordHead_length])]

theorem queueRecord_requester {j : Nat} (hj : j < 4) :
    u8 (queueRecord q e) (14 + 2 * j) = BitVec.ofNat 8 ((e.requesters[j]?.map (·.pad)).getD 0) ∧
      u8 (queueRecord q e) (14 + (2 * j + 1)) = BitVec.ofNat 8 ((e.requesters[j]?.map (·.part)).getD 0) := by
  have item {i : Nat} (hi : i < 8) : u8 (queueRecord q e) (14 + i) = u8 (requesterItems e.requesters) i := by
    rw [queueRecord_eq, u8_append_right _ _ _ (by rw [queueRecordHead_length]; omega), queueRecordHead_length,
      Nat.add_sub_cancel_left, u8_append_left _ _ _ (by rwa [requesterItems_length])]
  rw [item (by omega), item (by omega)]
  exact u8_requesterItems _ hj

theorem queueRecord_catalogue {i : Nat} : u8 (queueRecord q e) (22 + i) =
    u8 (n8 (e.catalogue.getD ⟨0, []⟩).parts ++ n8 (e.catalogue.getD ⟨0, []⟩).title.length ++
      padTo 64 ((e.catalogue.getD ⟨0, []⟩).title.flatMap n16)) i := by
  rw [queueRecord_eq, u8_append_right _ _ _ (by rw [queueRecordHead_length]; omega), queueRecordHead_length,
    u8_append_right _ _ _ (by rw [requesterItems_length]; omega), requesterItems_length]
  congr 1
  omega

theorem queueRecord_parts : u8 (queueRecord q e) 22 = BitVec.ofNat 8 ((e.catalogue.map (·.parts)).getD 0) := by
  refine (queueRecord_catalogue q e (i := 0)).trans ?_
  cases e.catalogue <;> rfl

theorem queueRecord_titleLength :
    u8 (queueRecord q e) 23 = BitVec.ofNat 8 ((e.catalogue.map (·.title.length)).getD 0) := by
  refine (queueRecord_catalogue q e (i := 1)).trans ?_
  cases e.catalogue <;> rfl

theorem queueRecord_title {j : Nat} (hj : j < 32) : u16 (queueRecord q e) (24 + 2 * j) =
    BitVec.ofNat 16 (((e.catalogue.map (·.title)).getD []).getD j 0) := by
  have htitle : (e.catalogue.map (·.title)).getD [] = (e.catalogue.getD ⟨0, []⟩).title := by cases e.catalogue <;> rfl
  rw [htitle, ← u16_padTo_n16 (m := 64) _ (by omega)]
  refine u16_congr fun i hi => ?_
  rw [show 24 + 2 * j + i = 22 + (2 * j + i + 2) by omega, queueRecord_catalogue]
  rfl

end

/-- The entries a QUEUE_READ returns: from position 0 with the PLAYING entry, if one plays (R18). -/
theorem readEntries_eq (q : List Entry) (x y : Byte) : readEntries q x.toNat y.toNat =
    ((if x = 0 then (playingEntry q).toList else []) ++ (waiting q).drop (x.toNat - 1)).take y.toNat := by
  by_cases hx : x = 0
  · subst hx
    cases h : playingEntry q <;> simp [readEntries, h]
  · obtain ⟨n, hn⟩ := Nat.exists_eq_succ_of_ne_zero (byte_ne_zero hx)
    rw [if_neg hx]
    simp [readEntries, hn]

/-- The bytes of a QUEUE_READ's reply data (R214). -/
def queueReading (q : List Entry) (records : List Entry) : List Byte :=
  n8 (waiting q).length ++ n8 (rushCount q) ++ flag8 (playingEntry q).isSome ++ n8 records.length ++
    records.flatMap (queueRecord q)

section
variable {q records : List Entry} {k : Nat} {e : Entry} (he : records[k]? = some e)
include he

theorem queueReading_u8 {i j : Nat} (hi : i = 4 + 88 * k + j) (hj : j < 88) :
    u8 (queueReading q records) i = u8 (queueRecord q e) j := by
  rw [hi, Nat.add_assoc, queueReading, u8_append_right _ _ _ (Nat.le_add_right 4 _)]
  exact (congrArg _ (Nat.add_sub_cancel_left 4 _)).trans (u8_flatMap (queueRecord_length q) he hj)

theorem queueReading_head {i j : Nat} (hi : i = 4 + 88 * k + j) (hj : j < 14) :
    u8 (queueReading q records) i = u8 (queueRecordHead q e) j :=
  (queueReading_u8 he hi (by omega)).trans (queueRecord_head q e hj)

theorem queueReading_u32 {i j : Nat} (hi : i = 4 + 88 * k + j) (hj : j + 3 < 14) :
    u32 (queueReading q records) i = u32 (queueRecordHead q e) j :=
  u32_congr fun m hm => queueReading_head he (by omega) (by omega)

theorem queueReading_requester {j : Nat} (hj : j < 4) :
    u8 (queueReading q records) (18 + 88 * k + 2 * j) = BitVec.ofNat 8 ((e.requesters[j]?.map (·.pad)).getD 0) ∧
      u8 (queueReading q records) (19 + 88 * k + 2 * j) = BitVec.ofNat 8 ((e.requesters[j]?.map (·.part)).getD 0) := by
  obtain ⟨hpad, hpart⟩ := queueRecord_requester q e hj
  exact ⟨(queueReading_u8 he (by omega) (by omega)).trans hpad, (queueReading_u8 he (by omega) (by omega)).trans hpart⟩

theorem queueReading_title {j : Nat} (hj : j < 32) : u16 (queueReading q records) (28 + 88 * k + 2 * j) =
    BitVec.ofNat 16 (((e.catalogue.map (·.title)).getD []).getD j 0) := by
  rw [← queueRecord_title q e hj]
  exact u16_congr fun m hm => queueReading_u8 he (by omega) (by omega)

end

/-! ### The history's record -/

theorem laneResultData_length (l : LaneResult) : (laneResultData l).length = 9 := rfl

/-- The bytes of a HISTORY_READ's reply data up to its lane results, the requester list's items apart (R214). -/
def historyReading (count : Nat) (h : HistoryRecord) : List Byte :=
  n8 count ++ n8 h.id ++ n32 h.song ++ n8 h.requesters.length ++
    (requesterItems h.requesters ++ (n8 (finishValue (some h.finish)) ++ h.lanes.toList.flatMap laneResultData))

section
variable (count : Nat) (h : HistoryRecord)

theorem historyReading_length : (historyReading count h).length = 52 := by
  simp only [historyReading, List.length_append, requesterItems_length, flatMap_length laneResultData_length]
  rfl

theorem historyReading_requester {j : Nat} (hj : j < 4) :
    u8 (historyReading count h) (7 + 2 * j) = BitVec.ofNat 8 ((h.requesters[j]?.map (·.pad)).getD 0) ∧
      u8 (historyReading count h) (8 + 2 * j) = BitVec.ofNat 8 ((h.requesters[j]?.map (·.part)).getD 0) := by
  have item {i : Nat} (hi : i < 8) : u8 (historyReading count h) (7 + i) = u8 (requesterItems h.requesters) i := by
    rw [historyReading, u8_append_right _ _ _ (Nat.le_add_right 7 i)]
    refine (congrArg _ (Nat.add_sub_cancel_left 7 i)).trans (u8_append_left _ _ _ ?_)
    rwa [requesterItems_length]
  rw [item (by omega), show 8 + 2 * j = 7 + (2 * j + 1) by omega, item (by omega)]
  exact u8_requesterItems _ hj

/-- The bytes past the requester list: the way of finishing, then the lane results. -/
theorem historyReading_tail (i : Nat) : u8 (historyReading count h) (15 + i) =
    u8 (n8 (finishValue (some h.finish)) ++ h.lanes.toList.flatMap laneResultData) i := by
  rw [historyReading, u8_append_right _ _ _ (Nat.le_trans (by decide : 7 ≤ 15) (Nat.le_add_right 15 i)),
    u8_append_right]
  · rw [requesterItems_length]
    exact congrArg _ (by simp [n8, n32, le32]; omega)
  · rw [requesterItems_length]
    simp [n8, n32, le32]
    omega

theorem historyReading_finish : u8 (historyReading count h) 15 = BitVec.ofNat 8 (finishValue (some h.finish)) :=
  historyReading_tail count h 0

theorem historyReading_lane (k : Fin 4) {j : Nat} (hj : j < 9) :
    u8 (historyReading count h) (16 + 9 * k.val + j) = u8 (laneResultData (h.lanes.get k)) j := by
  rw [show 16 + 9 * k.val + j = 15 + (9 * k.val + j + 1) by omega, historyReading_tail]
  refine u8_flatMap laneResultData_length ?_ hj
  fin_cases k <;> rfl

theorem historyReading_laneHalf (k : Fin 4) {i j : Nat} (hi : i = 16 + 9 * k.val + j) (hj : j + 1 < 9) :
    u16 (historyReading count h) i = u16 (laneResultData (h.lanes.get k)) j := by
  refine u16_congr fun m hm => ?_
  rw [hi, Nat.add_assoc, historyReading_lane count h k (by omega)]

end

theorem takeHistoryRead_eq {s : State} {x : Nat} {h : HistoryRecord} (hx : x ≤ 7) (hh : s.rq.history[x]? = some h) :
    takeHistoryRead s x = accept s (historyReading s.rq.history.length h) := by
  simp [takeHistoryRead, hh, historyReading, requesterData_eq, hx]

theorem takeQueueRead_eq {s : State} {x y : Byte} (hx : x.toNat ≤ 32) (h1 : 1 ≤ y.toNat) (h8 : y.toNat ≤ 8) :
    takeQueueRead s x.toNat y.toNat =
      accept s (queueReading s.rq.entries (readEntries s.rq.entries x.toNat y.toNat)) := by
  rw [takeQueueRead, if_neg (by omega)]
  rfl

/-- Settles O21: each record's bytes are read at its place in the reply. -/
theorem queueReadingsAndPolicy : Obligations.QueueReadingsAndPolicy := by
  intro s tag x y hlink
  refine ⟨fun hbad => ?_, fun hx h1 h8 => ?_, fun hbad => ?_, fun hx hnone => ?_,
    fun hx h hh => ?_, fun hbad => ?_, fun hx => ?_⟩
  · exact sendRequest_refused s tag (.queueRead x y) .badValue hlink nofun rfl (by simp [Request.payload])
      (if_pos hbad)
  · refine ⟨_, _, sendRequest_taken s tag (.queueRead x y) s .ok _ hlink nofun rfl (by simp [Request.payload])
      (takeQueueRead_eq hx h1 h8) rfl, readEntries_eq .., ?_, rfl, rfl, rfl, rfl, fun k e he => ?_⟩
    · rw [queueReading, List.length_append, flatMap_length (queueRecord_length _)]
      rfl
    · refine ⟨queueReading_head he (j := 0) rfl (by decide), queueReading_head he (j := 1) (by omega) (by decide),
        (queueReading_u32 he (j := 2) (by omega) (by decide)).trans (join32 _),
        (queueReading_head he (j := 6) (by omega) (by decide)).trans ?_,
        (queueReading_head he (j := 7) (by omega) (by decide)).trans ?_,
        (queueReading_head he (j := 8) (by omega) (by decide)).trans ?_,
        (queueReading_u32 he (j := 9) (by omega) (by decide)).trans (join32 _),
        queueReading_head he (j := 13) (by omega) (by decide), fun j hj => queueReading_requester he hj,
        (queueReading_u8 he (by omega) (by decide)).trans (queueRecord_parts _ e),
        (queueReading_u8 he (by omega) (by decide)).trans (queueRecord_titleLength _ e),
        fun j hj => queueReading_title he hj⟩
      · show BitVec.ofNat 8 e.lane.value = _
        cases e.lane <;> rfl
      · show BitVec.ofNat 8 e.state.value = _
        cases e.state <;> rfl
      · show BitVec.ofNat 8 e.origin.value = _
        cases e.origin <;> rfl
  · exact sendRequest_refused s tag (.historyRead x) .badValue hlink nofun rfl (by simp [Request.payload])
      (if_pos hbad)
  · refine sendRequest_refused s tag (.historyRead x) .notFound hlink nofun rfl (by simp [Request.payload]) ?_
    show takeHistoryRead s x.toNat = _
    simp [takeHistoryRead, Nat.not_lt.2 hx, List.getElem?_eq_none hnone]
  · refine ⟨_, sendRequest_taken s tag (.historyRead x) s .ok _ hlink nofun rfl (by simp [Request.payload])
      (takeHistoryRead_eq hx hh) rfl, historyReading_length .., rfl, rfl, join32 _, rfl,
      fun j hj => historyReading_requester _ h hj, ?_,
      fun k => ⟨historyReading_lane _ h k (j := 0) (by decide), ?_, ?_, ?_, ?_⟩⟩
    · rw [historyReading_finish]
      cases h.finish <;> rfl
    · exact (historyReading_laneHalf _ h k (j := 1) (by omega) (by decide)).trans (join16 _)
    · exact (historyReading_laneHalf _ h k (j := 3) (by omega) (by decide)).trans (join16 _)
    · exact (historyReading_laneHalf _ h k (j := 5) (by omega) (by decide)).trans (join16 _)
    · exact (historyReading_laneHalf _ h k (j := 7) (by omega) (by decide)).trans (join16 _)
  · exact sendRequest_refused s tag (.policy x y) .badValue hlink nofun rfl (by simp [Request.payload])
      (if_pos hbad)
  · refine sendRequest_taken s tag (.policy x y) _ .ok _ hlink nofun rfl (by simp [Request.payload]) ?_ rfl
    have hone : (x.toNat == 1) = (x == 1) := Bool.eq_iff_iff.2 (by simpa using (BitVec.toNat_inj (y := (1 : Byte))))
    show takePolicy s x.toNat y.toNat = _
    rw [takePolicy, if_neg (Nat.not_lt.2 hx), n8_toNat, hone]
    rfl

end Sys2Proof.Machine

namespace Sys2Proof.Machine

/-! ## What every step keeps, block by block

A condition on the state that neither the control link nor the Attention Unit nor the waiting commands enter is kept by
every step as soon as each block's own operations keep it. -/

/-- Each block's own operations keep the condition, and nothing else of the state enters it. -/
structure KeptByBlocks (P : State → Prop) : Prop where
  waits : ∀ s rest, P s → P { s with pending := rest }
  link : ∀ s l, P s → P (s.setLink l)
  attention : ∀ s a, P s → P (s.setAtt a)
  counts : ∀ s n d, P s → P (s.setCounts n d)
  poweredUp : ∀ s low, P s → P (s.poweredUp low)
  resetAsserted : ∀ s, P s → P { s with resetLow := true }
  request : ∀ s r, P s → P (handle s r).state
  softReset : ∀ s, P s → P (softResetEffect s)
  validation : ∀ s n, P s → P (completeValidation s n)
  block : ∀ s x, P s → P (blockEvent x s)
  bus : ∀ s p, p.registry = s.pbc.registry → P s → P (s.setPbc p)
  exchange : ∀ s ex r, P s → P (s.completeExchange ex r)
  frame : ∀ s, P s → P (frameStart s)
  inputFrame : ∀ s f, P s → P (s.setCmp (s.cmp.inputCompleted f))

namespace KeptByBlocks
variable {P : State → Prop} (k : KeptByBlocks P) {s : State}
include k

/-! ### The control link (R187 to R198) -/

theorem chosen (hs : P s) : P (chooseNext s) := by
  rcases chooseNext_cases s with h | h | h <;> rw [h]
  · exact hs
  · exact k.link _ _ (k.attention _ _ hs)
  · exact k.link _ _ hs

theorem dropped (hs : P s) : P (dropMessage s) := k.attention _ _ (k.link _ _ hs)

theorem answered (m : Message) (hs : P s) : P (answerTo s m).state := by
  unfold answerTo
  split
  · exact hs
  · exact hs
  · exact k.request _ _ hs

theorem taken (m : Message) (hs : P s) : P (takeMessage s m) := k.link _ _ (k.answered m hs)

theorem takenNext (hs : P s) : P (takeNext s) := by
  unfold takeNext
  split
  · exact k.taken _ hs
  · exact hs

theorem offered (m : Message) (hs : P s) : P (offer s m) := by
  unfold offer
  split
  · exact k.takenNext (k.link _ _ hs)
  · exact k.dropped hs

theorem delivered (m : Message) (hs : P s) : P (s.deliver m) := by
  unfold State.deliver
  split
  · exact k.link _ _ (k.dropped hs)
  · exact k.offered m hs

theorem judged (bytes : List Byte) (faulted : Bool) (hs : P s) : P (judgeFrame s bytes faulted) := by
  unfold judgeFrame
  simp only
  split_ifs
  · exact k.dropped hs
  · exact k.dropped hs
  · exact k.offered _ hs

theorem received (b : Byte) (faulted : Bool) (hs : P s) : P (receiveByte s b faulted) := by
  unfold receiveByte
  split
  · split
    · exact k.link _ _ (k.dropped hs)
    · exact k.link _ _ hs
  · exact k.link _ _ hs
  · simp only
    split_ifs
    · exact k.link _ _ (k.dropped hs)
    · exact k.judged _ _ (k.link _ _ hs)
    · exact k.link _ _ hs

theorem gapExpired (hs : P s) : P (gapExpires s) := by
  unfold gapExpires
  split
  · exact hs
  · exact k.link _ _ (k.dropped hs)
  · exact k.link _ _ hs

theorem replyEnded (hs : P s) : P (replyEnds s) := by
  unfold replyEnds
  split
  · refine k.takenNext ?_
    split
    · exact k.softReset _ (k.link _ _ hs)
    · exact k.link _ _ hs
  · exact hs

theorem noticeEnded (hs : P s) : P (noticeEnds s) := by
  unfold noticeEnds
  split
  · exact k.link _ _ hs
  · exact hs

/-! ### The pad bus (R30 to R39, R216) -/

theorem downlinkDrawn (hs : P s) : P s.drawDownlink := by
  obtain ⟨n, p, h, hregistry, _⟩ := drawDownlink_eq s
  rw [h]
  exact k.bus _ p hregistry (k.counts _ _ _ hs)

theorem uplinkReceived (f : UplinkFrame) (hs : P s) : P (uplinkFrame s f) := by
  unfold uplinkFrame
  split
  · exact hs
  · split
    · exact hs
    · exact k.exchange _ _ _ hs

theorem replyTimedOut (hs : P s) : P (replyTimeout s) := by
  unfold replyTimeout
  split
  · exact hs
  · split
    · exact k.exchange _ _ _ hs
    · exact hs

theorem characterGapPassed (hs : P s) : P (characterGap s) := by
  unfold characterGap
  split
  · exact hs
  · split
    · exact k.exchange _ _ _ hs
    · exact hs

theorem uplinkByteTaken (b : Byte) (hs : P s) : P (takeUplinkByte s b) := by
  unfold takeUplinkByte
  split
  · exact hs
  · simp only
    split
    · exact hs
    · split
      · exact k.exchange _ _ _ hs
      · exact k.bus _ _ rfl hs
    · split
      · exact k.exchange _ _ _ hs
      · exact k.bus _ _ rfl hs
    · exact hs

theorem assignmentSent (hs : P s) : P (assignSent s) := by
  unfold assignSent
  split
  · exact hs
  · split
    · exact k.bus _ _ rfl hs
    · exact hs

theorem faulty (c : FaultyCompletion) (hs : P s) : P (faultyBy s c) := by
  cases c with
  | timeout => exact k.replyTimedOut hs
  | characterGap => exact k.characterGapPassed hs
  | frame bytes => exact k.uplinkReceived _ hs

/-! ### Commands and steps -/

theorem arrived {f : State → State} {t : State} (hf : ∀ {s}, P s → P (f s)) (hs : P s) (h : arrival f s = .next t) : P t := by
  cases h
  split
  · exact hs
  · exact k.chosen (hf hs)

theorem occurred {due : Bool} {f : State → State} {t : State} (hf : ∀ {s}, P s → P (f s)) (hs : P s)
    (h : occurrence due f s = .next t) : P t := by
  cases due with
  | true => exact k.arrived hf hs h
  | false =>
    cases h
    exact hs

theorem requestSent {tag : Byte} {r : Request} {t : State} (hs : P s) (h : sendRequest tag r s = .next t) : P t :=
  k.arrived (k.delivered _) hs h

theorem executed {c : Instr} {t : State} (hs : P s) (h : exec c s = .next t) : P t := by
  cases c with
  | powerUp =>
    cases h
    exact k.poweredUp _ _ hs
  | resetAssert =>
    cases h
    exact k.resetAsserted _ hs
  | resetRelease =>
    cases h
    split
    · exact k.poweredUp _ _ hs
    · exact hs
  | frameReceived byte faulted => exact k.occurred (k.received byte faulted) hs h
  | wrongLeadByte byte faulted => exact k.occurred (k.received byte faulted) hs h
  | payloadLengthAboveLimit byte faulted => exact k.occurred (k.received byte faulted) hs h
  | characterReceived byte faulted => exact k.arrived (k.received byte faulted) hs h
  | gapTimerExpiry => exact k.arrived k.gapExpired hs h
  | unknownKind kind tag payload => exact k.arrived (k.delivered _) hs h
  | replyEnd => exact k.arrived k.replyEnded hs h
  | attentionNotice => exact k.occurred id hs h
  | noticeEnd => exact k.arrived k.noticeEnded hs h
  | validationCompletion slot => exact k.arrived (k.validation _ slot) hs h
  | blockCompletion input => exact k.arrived (k.block _ input) hs h
  | presenceChange input => exact k.occurred (k.block _ input) hs h
  | songEnd input => exact k.occurred (k.block _ input) hs h
  | syncTimeout input => exact k.occurred (k.block _ input) hs h
  | holdLimit input => exact k.occurred (k.block _ input) hs h
  | settleSpent input => exact k.occurred (k.block _ input) hs h
  | cueStall input => exact k.occurred (k.block _ input) hs h
  | resultCountdownSpent input => exact k.occurred (k.block _ input) hs h
  | pollingRound input => exact k.occurred (k.block _ input) hs h
  | padReplyTimeout => exact k.arrived k.replyTimedOut hs h
  | uplinkCharacterGap => exact k.arrived k.characterGapPassed hs h
  | uplinkCharacterReceived byte => exact k.arrived (fun hs => k.uplinkByteTaken byte (k.downlinkDrawn hs)) hs h
  | uplinkFaultyFrame bytes => exact k.arrived (k.uplinkReceived _) hs h
  | padSilencing completion => exact k.occurred (k.faulty completion) hs h
  | idleRecord address => exact k.arrived (k.uplinkReceived _) hs h
  | request address toggle song part rush => exact k.arrived (k.uplinkReceived _) hs h
  | withdraw address toggle song => exact k.arrived (k.uplinkReceived _) hs h
  | join address serial => exact k.arrived (k.uplinkReceived _) hs h
  | assignSent => exact k.arrived k.assignmentSent hs h
  | videoFrameStart => exact k.arrived (k.frame _) hs h
  | videoLoss => exact k.occurred (k.frame _) hs h
  | videoRestore => exact k.occurred (k.frame _) hs h
  | inputFrameCompletion frame => exact k.arrived (k.inputFrame _ frame) hs h
  | _ => exact k.requestSent hs h

/-- Every step keeps the condition. -/
theorem stepped {t : State} (hs : P s) (h : step s = .next t) : P t := by
  unfold step at h
  split at h
  · cases h
    split
    · exact hs
    · exact k.bus _ _ rfl hs
  · exact k.executed (k.waits _ _ hs) h

end KeptByBlocks

end Sys2Proof.Machine

namespace Sys2Proof.Machine

/-! ## News alone (R41)

Every operation of the other blocks leaves the Pad Bus Controller as it is but for the news it tells the pads. -/

/-- A record that differs from an earlier one in its news alone (R41). -/
structure PadRecord.told (p q : PadRecord) : Prop where
  others : q = { p with news := q.news, newsCounter := q.newsCounter }
  counter : p.newsCounter < 16 → q.newsCounter < 16

/-- The bus differs from an earlier one in its records' news alone. -/
structure PadBus.told (p q : PadBus) : Prop where
  others : q = { p with registry := q.registry }
  records : ∀ i, (p.registry.get i).told (q.registry.get i)

theorem PadRecord.told.refl (p : PadRecord) : p.told p := ⟨rfl, id⟩

theorem PadRecord.told.trans {p q r : PadRecord} (h : p.told q) (h' : q.told r) : p.told r :=
  ⟨by rw [h'.others, h.others], h'.counter ∘ h.counter⟩

theorem PadRecord.told.of_tell (p : PadRecord) (n : NewsItem) : p.told (p.tell n) := ⟨rfl, fun _ => Nat.mod_lt _ (by decide)⟩

theorem PadRecord.told.state {p q : PadRecord} (h : p.told q) : q.state = p.state := by rw [h.others]
theorem PadRecord.told.serial {p q : PadRecord} (h : p.told q) : q.serial = p.serial := by rw [h.others]

theorem PadBus.told.refl (p : PadBus) : p.told p := ⟨rfl, fun _ => .refl _⟩

theorem PadBus.told.trans {p q r : PadBus} (h : p.told q) (h' : q.told r) : p.told r :=
  ⟨by rw [h'.others, h.others], fun i => (h.records i).trans (h'.records i)⟩

theorem PadBus.told.of_eq {p q : PadBus} (h : q = p) : p.told q := h ▸ .refl p

/-- The pads are told on top of what they have been told. -/
theorem told_tellPads {p : PadBus} {s : State} (h : p.told s.pbc) (l : List Requester) (n : NewsItem) :
    p.told (s.tellPads l n).pbc := by
  refine h.trans ⟨rfl, fun i => ?_⟩
  change PadRecord.told _ ((s.pbc.registry.mapIdx _).get i)
  rw [Oct.get_mapIdx]
  split
  · exact .of_tell _ _
  · exact .refl _

/-! ### The queue's and the Transport's operations -/

theorem told_cancelEntry (s : State) (e : Entry) (reason : DropReason) : s.pbc.told (s.cancelEntry e reason).pbc :=
  told_tellPads (.of_eq (by simp)) _ _

theorem told_cancelAll (pad : Nat) (l : List Entry) (s : State) : s.pbc.told (s.cancelAll pad l).pbc := by
  induction l generalizing s with
  | nil => exact .refl s.pbc
  | cons e rest ih => exact (told_cancelEntry s _ _).trans (ih _)

theorem told_cue (s : State) (e : Entry) : s.pbc.told (s.cue e).pbc := by
  unfold State.cue
  split
  · exact .refl s.pbc
  · exact told_tellPads (.of_eq (by simp)) _ _

theorem told_autoAdvance (s : State) : s.pbc.told s.autoAdvance.pbc := by
  rcases autoAdvance_cases s with h | ⟨e, _, _, _, _, h⟩
  · exact .of_eq (by rw [h])
  · rw [h]
    exact told_cue s e

/-- Auto-advance on top of an operation that tells news alone. -/
theorem PadBus.told.autoAdvance {p : PadBus} {s : State} (h : p.told s.pbc) : p.told s.autoAdvance.pbc :=
  h.trans (told_autoAdvance s)

theorem told_shelve (s : State) (kind : FinishKind) : s.pbc.told (s.shelve kind).pbc := by
  unfold State.shelve
  split
  · exact told_tellPads (.of_eq (by simp)) _ _
  · exact .refl s.pbc

theorem told_finish (s : State) (kind : FinishKind) : s.pbc.told (s.finish kind).pbc :=
  ((told_shelve s kind).trans (.of_eq (by simp [State.finishSong]))).autoAdvance

theorem told_finishAtOnce (s : State) (kind : FinishKind) : s.pbc.told (s.finishAtOnce kind).pbc := by
  unfold State.finishAtOnce
  split
  · exact told_finish s kind
  · exact .refl s.pbc

theorem told_releasePad (s : State) (pad : Nat) : s.pbc.told (s.releasePad pad).pbc := by
  rw [releasePad_eq]
  refine PadBus.told.autoAdvance ?_
  rw [State.padReleased, State.raiseIf_pbc]
  exact told_cancelAll pad _ (s.delisted pad)

/-- A REQUEST leaves the pads' records alone (R9, R10). -/
theorem takeRequest_pbc (s : State) (pad song part : Nat) (rush : Bool) : (takeRequest s pad song part rush).1.pbc = s.pbc := by
  unfold takeRequest
  simp only
  split
  · rfl
  · split
    · split_ifs <;> rfl
    · split_ifs
      · rfl
      · rfl
      · simp [State.newEntry]

theorem told_takeWithdraw (s : State) (pad song : Nat) : s.pbc.told (takeWithdraw s pad song).1.pbc := by
  unfold takeWithdraw
  split
  · exact .refl s.pbc
  · simp only
    split
    · exact PadBus.told.autoAdvance (told_cancelEntry (s.setEntries (updateEntry s.rq.entries _ (·.without pad))) _ _)
    · exact .refl s.pbc

/-! ### The host's messages -/

@[simp] theorem rebuild_pbc (s : State) : s.rebuild.pbc = s.pbc := by
  unfold State.rebuild
  split <;> rfl

theorem told_takeResolve (s : State) (id verdict parts : Nat) (title : List Nat) :
    s.pbc.told (takeResolve s id verdict parts title).state.pbc := by
  unfold takeResolve
  simp only
  split
  · exact .refl s.pbc
  · split
    · exact .refl s.pbc
    · split_ifs
      · exact .refl s.pbc
      · exact .refl s.pbc
      · exact (told_tellPads (s := s.setEntries _) (.refl s.pbc) _ _).autoAdvance (s := State.raise _ _)

theorem told_takeQueueAdd (s : State) (song lane lanePos : Nat) : s.pbc.told (takeQueueAdd s song lane lanePos).state.pbc := by
  refine .of_eq ?_
  unfold takeQueueAdd
  simp only
  split
  · rfl
  · split
    · rfl
    · split
      · rfl
      · split_ifs <;> simp [refuse, accept, State.newEntry]

theorem told_takeQueueMove (s : State) (id lane lanePos : Nat) : s.pbc.told (takeQueueMove s id lane lanePos).state.pbc := by
  unfold takeQueueMove
  simp only
  split
  · exact .refl s.pbc
  · split
    · exact .refl s.pbc
    · split_ifs
      · exact .refl s.pbc
      · exact .refl s.pbc
      · exact PadBus.told.autoAdvance (.of_eq (by simp))

theorem told_takeQueueCancel (s : State) (id : Nat) : s.pbc.told (takeQueueCancel s id).state.pbc := by
  unfold takeQueueCancel
  split
  · exact .refl s.pbc
  · split
    · exact .refl s.pbc
    · exact (told_cancelEntry s _ _).autoAdvance

theorem takeSlotOpen_pbc (s : State) (slot id size : Nat) : (takeSlotOpen s slot id size).state.pbc = s.pbc := by
  unfold takeSlotOpen
  repeat' split
  all_goals simp [refuse, accept, State.setEntryState]

theorem takeSlotData_pbc (s : State) (slot offset : Nat) (data : List Byte) :
    (takeSlotData s slot offset data).state.pbc = s.pbc := by
  unfold takeSlotData
  simp only
  repeat' split
  all_goals simp [refuse, accept]

theorem takeSlotSeal_pbc (s : State) (slot : Nat) : (takeSlotSeal s slot).state.pbc = s.pbc := by
  unfold takeSlotSeal
  simp only
  repeat' split
  all_goals simp [refuse, accept]

theorem takeSlotDiscard_pbc (s : State) (slot : Nat) : (takeSlotDiscard s slot).state.pbc = s.pbc := by
  unfold takeSlotDiscard
  simp only
  repeat' split
  all_goals simp [refuse, accept, State.setEntryState]

theorem told_takeStart (s : State) (id : Nat) : s.pbc.told (takeStart s id).state.pbc := by
  unfold takeStart
  split
  · exact .refl s.pbc
  · split
    · exact .refl s.pbc
    · exact told_cue s _

theorem takeSync_pbc (s : State) (position : Nat) : (takeSync s position).state.pbc = s.pbc := by
  unfold takeSync syncRunning
  simp only
  repeat' split
  all_goals simp [refuse, accept]

theorem takeResume_pbc (s : State) : (takeResume s).state.pbc = s.pbc := by
  unfold takeResume
  split <;> simp [refuse, accept]

theorem told_takeStop (s : State) (flag : Nat) : s.pbc.told (takeStop s flag).state.pbc := by
  unfold takeStop
  split_ifs
  · exact .refl s.pbc
  · exact .refl s.pbc
  · exact told_finishAtOnce (s.resultEntry .aborted) .aborted
  · exact told_finish (s.closeLanes .skipped) .skipped

theorem told_takeTransportSet (s : State) (a b c d e : Nat) : s.pbc.told (takeTransportSet s a b c d e).state.pbc := by
  unfold takeTransportSet
  simp only
  split
  · exact .refl s.pbc
  · exact PadBus.told.autoAdvance (.of_eq rfl)

/-- A request to another block than the Pad Bus Controller tells the pads news at most (R41). -/
theorem told_handle (s : State) (r : Request) (hadmit : ∀ a, r ≠ .padAdmit a) (hrelease : ∀ a, r ≠ .padRelease a)
    (hbus : ∀ e, r ≠ .padBus e) : s.pbc.told (handle s r).state.pbc := by
  cases r with
  | padAdmit a => exact absurd rfl (hadmit a)
  | padRelease a => exact absurd rfl (hrelease a)
  | padBus e => exact absurd rfl (hbus e)
  | resolve i v p t => exact told_takeResolve ..
  | queueAdd n l p => exact told_takeQueueAdd ..
  | queueMove i l p => exact told_takeQueueMove ..
  | queueCancel i => exact told_takeQueueCancel ..
  | slotOpen n i z => exact .of_eq (takeSlotOpen_pbc ..)
  | slotData n o d => exact .of_eq (takeSlotData_pbc ..)
  | slotSeal n => exact .of_eq (takeSlotSeal_pbc ..)
  | slotDiscard n => exact .of_eq (takeSlotDiscard_pbc ..)
  | start i => exact told_takeStart ..
  | sync p => exact .of_eq (takeSync_pbc ..)
  | resume => exact .of_eq (takeResume_pbc ..)
  | stop f => exact told_takeStop ..
  | transportSet a y e h r => exact told_takeTransportSet ..
  | echo | softReset | attentionRead | transportRead | layoutRead | rate | key | layoutSet => exact .refl s.pbc
  | _ =>
    -- the owners of the rest leave the state, or change a block other than the Pad Bus Controller
    refine .of_eq ?_
    simp only [handle, takeAttentionAck, takeAttentionMask, takeQueueRead, takeHistoryRead, takePolicy, takePadRead, takeSlotRead,
      takePause, takeMicSet, takeMicRead, takeBind, takeScoreSet, takeLaneRead, takeBandMap, takeRowPlace, takePalette,
      takeBannerSet, takeGlyphLoad, takeGlyphDrop, takeGlyphClear, takeCompositorRead, accept]
    repeat' split
    all_goals rfl

/-! ### The events of the other blocks -/

theorem told_completeValidation (s : State) (n : SlotName) : s.pbc.told (completeValidation s n).pbc := by
  unfold completeValidation
  simp only
  split
  · refine PadBus.told.autoAdvance (.of_eq ?_)
    split <;> simp [State.setEntryState]
  · exact .refl s.pbc

theorem told_transportBlock (s : State) : s.pbc.told (transportBlock s).pbc := by
  cases h : s.tr.state <;> simp only [transportBlock, h]
  case idle | paused => exact .refl s.pbc
  case cued => exact .of_eq (by simp)
  case result =>
    split
    · refine PadBus.told.trans ?_ (told_finish _ _)
      exact .refl s.pbc
    · exact .refl s.pbc
  case hold | play | recover =>
    refine .of_eq ?_
    split_ifs <;> rfl

theorem told_finishOwed (t : Transport) (s : State) : s.pbc.told (t.finishOwed s).pbc := by
  unfold Transport.finishOwed
  split
  · exact told_finishAtOnce s _
  · exact .refl s.pbc

/-- Up to the bus's own pacing a block completion tells the pads news at most (R102). -/
theorem told_recordsTaken (s : State) (x : BlockInput) : s.pbc.told (s.tr.finishOwed (recordsTaken x s)).pbc := by
  refine PadBus.told.trans ?_ (told_finishOwed _ _)
  rw [recordsTaken_pbc]
  exact told_transportBlock s

@[simp] theorem frameStart_pbc (s : State) : (frameStart s).pbc = s.pbc := by
  have hrows : s.settleRows.pbc = s.pbc := by
    unfold State.settleRows
    split <;> rfl
  simp [frameStart, hrows]

end Sys2Proof.Machine

namespace Sys2Proof.Machine

/-! ## The registry kept lawful (R28, R29, R34) -/

/-! ### One record -/

section
variable {p : PadRecord} (h : p.lawful)
include h

theorem PadRecord.lawful.told {q : PadRecord} (hq : p.told q) : q.lawful := by
  rw [hq.others]
  exact ⟨h.serial, h.nonzero, h.silenced, h.strikes, hq.counter h.newsCounter, h.unused, h.cleared⟩

/-- An ENROLLED record is one strike short of SILENCED at most (R34). -/
theorem PadRecord.lawful.strikes_lt (he : p.state = .enrolled) : p.strikes < 8 :=
  Nat.lt_of_le_of_ne h.strikes fun h8 => by simp [h.silenced.2 h8] at he

theorem PadRecord.lawful.forgive (he : p.state = .enrolled) : p.forgive.lawful where
  serial := h.serial
  nonzero := h.nonzero
  silenced := iff_of_false (by simp [PadRecord.forgive, he]) (by have := h.strikes_lt he; simp only [PadRecord.forgive]; omega)
  strikes := Nat.le_trans (Nat.sub_le ..) h.strikes
  newsCounter := h.newsCounter
  unused := fun hf => by simp [PadRecord.forgive, he] at hf
  cleared := h.cleared

theorem PadRecord.lawful.strike (he : p.state = .enrolled) : p.strike.lawful := by
  have hserial : p.serial ≠ none := fun hn => by simp [h.serial.1 hn] at he
  unfold PadRecord.strike
  split
  · next hlt =>
    exact ⟨h.serial, h.nonzero, iff_of_false (by simp [he]) (by simp only; omega), by simp only; omega, h.newsCounter,
      fun hf => by simp [he] at hf, h.cleared⟩
  · exact ⟨iff_of_false hserial nofun, h.nonzero, iff_of_true rfl rfl, Nat.le_refl 8, h.newsCounter, nofun, h.cleared⟩

/-- An outcome other than NONE may be stored in an ENROLLED record (R36). -/
theorem PadRecord.lawful.answered (he : p.state = .enrolled) (toggle : Bool) {o : PadOutcome} (ho : o.code ≠ .none) :
    (p.answered toggle o).lawful :=
  ⟨h.serial, h.nonzero, h.silenced, h.strikes, h.newsCounter, fun hf => by simp [PadRecord.answered, he] at hf,
    fun hn => absurd hn ho⟩

/-- A pad that joins again on its record starts with a cleared outcome (R39). -/
theorem PadRecord.lawful.rejoined : PadRecord.lawful { p with expectedToggle := false, lastOutcome := clearedOutcome } where
  serial := h.serial
  nonzero := h.nonzero
  silenced := h.silenced
  strikes := h.strikes
  newsCounter := h.newsCounter
  unused := fun hf => ⟨(h.unused hf).1, rfl, rfl⟩
  cleared := fun _ => rfl

/-- PAD_ADMIT of a SILENCED record (R43). -/
theorem PadRecord.lawful.admitted (hs : p.state = .silenced) : PadRecord.lawful { p with state := .enrolled, strikes := 0 } where
  serial := iff_of_false (fun hn => by simp [h.serial.1 hn] at hs) nofun
  nonzero := h.nonzero
  silenced := iff_of_false nofun (by simp)
  strikes := Nat.zero_le 8
  newsCounter := h.newsCounter
  unused := nofun
  cleared := h.cleared

end

/-- The record of a pad newly enrolled (R39). -/
theorem enrolledRecord_lawful {serial : Word} (hs : serial ≠ 0) :
    PadRecord.lawful ⟨.enrolled, some serial, 0, false, clearedOutcome, none, 0⟩ where
  serial := iff_of_false nofun nofun
  nonzero := fun h => hs (Option.some.inj h)
  silenced := iff_of_false nofun (by simp)
  strikes := Nat.zero_le 8
  newsCounter := by simp
  unused := nofun
  cleared := fun _ => rfl

theorem PadRecord.strike_serial (p : PadRecord) : p.strike.serial = p.serial := by
  unfold PadRecord.strike
  split <;> rfl

/-! ### The registry -/

theorem setPad_registry (s : State) (i : Fin 8) (p : PadRecord) :
    (s.setPad i p).pbc.registry = s.pbc.registry.set i p := rfl

theorem padRecord_setPad (s : State) (i : Fin 8) (p : PadRecord) : (s.setPad i p).pbc.registry.get i = p :=
  Oct.get_set_same ..

section
variable {p q : PadBus} (h : p.lawful)
include h

theorem PadBus.lawful.of_registry (hq : q.registry = p.registry) : q.lawful :=
  ⟨fun i => hq ▸ h.records i, fun i j x => hq ▸ h.apart i j x⟩

/-- Records changed each on its own, their serials kept. -/
theorem PadBus.lawful.of_records (hlawful : ∀ i, (q.registry.get i).lawful)
    (hserial : ∀ i, (q.registry.get i).serial = (p.registry.get i).serial) : q.lawful :=
  ⟨hlawful, fun i j x hi hj => h.apart i j x (hserial i ▸ hi) (hserial j ▸ hj)⟩

theorem PadBus.lawful.told (hq : p.told q) : q.lawful :=
  h.of_records (fun i => (h.records i).told (hq.records i)) fun i => (hq.records i).serial

/-- One record replaced by one whose serial, if it has any, no other record holds. -/
theorem PadBus.lawful.set {i : Fin 8} {x : PadRecord} (hx : x.lawful)
    (hother : ∀ j w, j ≠ i → x.serial = some w → (p.registry.get j).serial ≠ some w)
    (hq : q.registry = p.registry.set i x) : q.lawful := by
  have same : q.registry.get i = x := by rw [hq, Oct.get_set_same]
  have other {j : Fin 8} (hj : j ≠ i) : q.registry.get j = p.registry.get j := by rw [hq, Oct.get_set_other _ _ hj]
  constructor
  · intro j
    by_cases hj : j = i
    · rw [hj, same]
      exact hx
    · rw [other hj]
      exact h.records j
  · intro j k w hjw hkw
    by_cases hj : j = i <;> by_cases hk : k = i
    · rw [hj, hk]
    · rw [hj, same] at hjw
      rw [other hk] at hkw
      exact absurd hkw (hother k w hk hjw)
    · rw [other hj] at hjw
      rw [hk, same] at hkw
      exact absurd hjw (hother j w hj hkw)
    · rw [other hj] at hjw
      rw [other hk] at hkw
      exact h.apart j k w hjw hkw

/-- One record replaced by one with its serial. -/
theorem PadBus.lawful.set_sameSerial {i : Fin 8} {x : PadRecord} (hx : x.lawful)
    (hserial : x.serial = (p.registry.get i).serial) (hq : q.registry = p.registry.set i x) : q.lawful :=
  h.set hx (fun j w hj hw hjw => hj (h.apart j i w hjw (hserial ▸ hw))) hq

end

/-! ### Exchanges (R33 to R39) -/

theorem takeRequest_code (s : State) (pad song part : Nat) (rush : Bool) : (takeRequest s pad song part rush).2.code ≠ .none := by
  unfold takeRequest
  simp only
  split
  · nofun
  · split
    · split_ifs <;> nofun
    · split_ifs
      · nofun
      · nofun
      · simp only [admittedLane]
        split_ifs <;> nofun

theorem takeWithdraw_code (s : State) (pad song : Nat) : (takeWithdraw s pad song).2.code ≠ .none := by
  unfold takeWithdraw
  split
  · nofun
  · simp only
    split <;> nofun

theorem padPlace_none {f : Fin 8 → Bool} : padPlaces.find? f = none ↔ ∀ i, f i = false := by
  have hall (i : Fin 8) : i ∈ padPlaces := by fin_cases i <;> decide
  simp [hall]

section
variable {s : State} {i : Fin 8} (h : s.pbc.lawful)
include h

theorem nextExchange_lawful (v : State) : (s.nextExchange v).pbc.lawful := by
  obtain ⟨p, hp, hregistry, _⟩ := nextExchange_eq s v
  rw [hp]
  exact h.of_registry hregistry

theorem afterExchange_lawful : s.afterExchange.pbc.lawful := by
  unfold State.afterExchange
  split
  · exact h.of_registry rfl
  · exact nextExchange_lawful (h.of_registry rfl) s

theorem faultyCompletion_lawful (he : (s.pbc.registry.get i).state = .enrolled) : (s.faultyCompletion i).pbc.lawful := by
  unfold State.faultyCompletion
  rw [State.raiseIf_pbc]
  exact h.set_sameSerial ((h.records i).strike he) (PadRecord.strike_serial _) rfl

/-- The toggle filter with a taking that tells the pads news alone (R36, R37). -/
theorem filterRecord_lawful (he : (s.pbc.registry.get i).state = .enrolled) (toggle : Bool)
    {take : State → State × PadOutcome} (htold : s.pbc.told (take s).1.pbc) (hcode : (take s).2.code ≠ .none) :
    (s.filterRecord i toggle take).pbc.lawful := by
  have htaken := h.told htold
  unfold State.filterRecord
  split
  · exact htaken.set_sameSerial ((htaken.records i).answered ((htold.records i).state.trans he) toggle hcode) rfl rfl
  · exact h

theorem goodCompletion_lawful (he : (s.pbc.registry.get i).state = .enrolled) (r : UplinkRecord) :
    (s.goodCompletion i r).pbc.lawful := by
  have hforgiven : (s.setPad i (s.pbc.registry.get i).forgive).pbc.lawful :=
    h.set_sameSerial ((h.records i).forgive he) rfl rfl
  have henrolled : ((s.setPad i (s.pbc.registry.get i).forgive).pbc.registry.get i).state = .enrolled := by
    rw [padRecord_setPad]
    exact he
  unfold State.goodCompletion
  split
  · exact filterRecord_lawful hforgiven henrolled _ (.of_eq (takeRequest_pbc ..)) (takeRequest_code _ _ _ _ _)
  · exact filterRecord_lawful hforgiven henrolled _ (told_takeWithdraw ..) (takeWithdraw_code _ _ _)
  · exact hforgiven

/-- A JOIN re-joins its own record, or enrols a serial that no record holds (R39). -/
theorem takeJoin_lawful {serial : Word} (hserial : serial ≠ 0) : (takeJoin s serial).1.pbc.lawful := by
  unfold takeJoin
  simp only
  split
  · split
    · exact h.set_sameSerial (h.records _).rejoined rfl rfl
    · exact h
  · next hnone =>
    have hnew (j : Fin 8) : (s.pbc.registry.get j).serial ≠ some serial := by
      simpa using padPlace_none.1 hnone j
    split
    · refine h.set (enrolledRecord_lawful hserial) (fun j w _ hw => ?_) rfl
      cases hw
      exact hnew j
    · exact h

theorem joinFrame_lawful (ex : Exchange) (f : UplinkFrame) : (s.joinFrame ex f).pbc.lawful := by
  unfold State.joinFrame
  split
  · next serial hjoin =>
    have hserial : serial ≠ 0 := by
      unfold joinSerial at hjoin
      split at hjoin
      · split at hjoin
        · next hgood => exact Option.some.inj hjoin ▸ hgood.2
        · cases hjoin
      · cases hjoin
    exact (takeJoin_lawful h hserial).of_registry rfl
  · exact h.of_registry rfl

theorem completeExchange_lawful (ex : Exchange) (r : Reception) : (s.completeExchange ex r).pbc.lawful := by
  unfold State.completeExchange
  split
  · exact h.of_registry rfl
  · split
    · exact h.of_registry rfl
    · exact joinFrame_lawful h ex _
    · split
      · exact afterExchange_lawful h
      · next he =>
        have he := not_not.1 he
        split
        · exact afterExchange_lawful (faultyCompletion_lawful h he)
        · split
          · exact afterExchange_lawful (goodCompletion_lawful h he _)
          · exact afterExchange_lawful (faultyCompletion_lawful h he)

/-! ### Messages and the soft reset (R43, R44, R47, R49) -/

theorem takePadAdmit_lawful (a : Nat) : (takePadAdmit s a).state.pbc.lawful := by
  unfold takePadAdmit
  split
  · exact h
  · simp only
    split
    · exact h
    · next hs => exact h.set_sameSerial ((h.records _).admitted (not_not.1 hs)) rfl rfl

theorem takePadRelease_lawful (a : Nat) : (takePadRelease s a).state.pbc.lawful := by
  unfold takePadRelease
  split
  · exact h
  · next i _ =>
    split
    · exact h
    · have hfreed : (s.setPad i freeRecord).pbc.lawful := h.set freeRecord_lawful nofun rfl
      exact hfreed.told (told_releasePad _ a)

theorem takePadBus_lawful (enable : Nat) : (takePadBus s enable).state.pbc.lawful := by
  unfold takePadBus
  split <;> exact h.of_registry rfl

theorem handle_lawful (r : Request) : (handle s r).state.pbc.lawful := by
  by_cases hpads : (∀ a, r ≠ .padAdmit a) ∧ (∀ a, r ≠ .padRelease a) ∧ ∀ e, r ≠ .padBus e
  · obtain ⟨hadmit, hrelease, hbus⟩ := hpads
    exact h.told (told_handle s r hadmit hrelease hbus)
  · cases r with
    | padAdmit a => exact takePadAdmit_lawful h _
    | padRelease a => exact takePadRelease_lawful h _
    | padBus e => exact takePadBus_lawful h _
    | _ => exact absurd ⟨nofun, nofun, nofun⟩ hpads

/-- The soft reset takes the records' news away (R49). -/
theorem softReset_lawful : s.pbc.softReset.lawful := by
  have hget (i : Fin 8) : s.pbc.softReset.registry.get i = { s.pbc.registry.get i with news := none } := Oct.get_map ..
  refine h.of_records (fun i => ?_) fun i => by rw [hget]
  rw [hget]
  exact (h.records i).told ⟨rfl, id⟩

theorem blockEvent_lawful (x : BlockInput) : (blockEvent x s).pbc.lawful :=
  (h.told (told_recordsTaken s x)).of_registry (blockEvent_registry s x)

end

theorem reset_bus_lawful : PadBus.reset.lawful where
  records := fun i => (reset_registry i).symm ▸ freeRecord_lawful
  apart := fun i j x hi => by
    have hfree : PadBus.reset.registry.get i = freeRecord := reset_registry i
    rw [hfree] at hi
    cases hi

/-- Settles O32: a record changes by an exchange of its pad, by its own messages, or by news alone. -/
theorem registryStaysLawful : Obligations.RegistryStaysLawful := by
  have kept : KeptByBlocks (·.pbc.lawful) :=
    { waits := fun _ _ h => h
      link := fun _ _ h => h
      attention := fun _ _ h => h
      counts := fun _ _ _ h => h
      poweredUp := fun _ _ _ => reset_bus_lawful
      resetAsserted := fun _ h => h
      request := fun _ r h => handle_lawful h r
      softReset := fun _ h => softReset_lawful h
      validation := fun s n h => h.told (told_completeValidation s n)
      block := fun _ x h => blockEvent_lawful h x
      bus := fun _ _ hp h => h.of_registry hp
      exchange := fun _ ex r h => completeExchange_lawful h ex r
      frame := fun s h => (frameStart_pbc s).symm ▸ h
      inputFrame := fun _ _ h => h }
  exact fun _ _ hs h => kept.stepped hs h

end Sys2Proof.Machine

namespace Sys2Proof.Machine

/-! ## The round's next exchange (R31, R38, R47) -/

/-! ### The lowest place that passes a test -/

theorem padPlace_some {f : Fin 8 → Bool} {i : Fin 8} : padPlaces.find? f = some i ↔ f i = true ∧ ∀ j < i, f j = false := by
  have hplaces : padPlaces = List.finRange 8 := by decide
  rw [hplaces, List.find?_eq_some_iff_getElem]
  simp only [List.getElem_finRange, List.length_finRange, Bool.not_eq_true']
  constructor
  · rintro ⟨hi, n, hn, rfl, hbelow⟩
    exact ⟨hi, fun j hj => hbelow j.val hj⟩
  · rintro ⟨hi, hbelow⟩
    exact ⟨hi, i.val, i.isLt, rfl, fun j hj => hbelow ⟨j, by omega⟩ hj⟩

/-- A place may be polled next: it is ENROLLED and above every address polled (R31). -/
theorem pollable_iff (p : PadBus) (i : Fin 8) :
    (decide (p.lastPolled < padAddress i) && (p.registry.get i).state == .enrolled) = true ↔
      (p.registry.get i).state = .enrolled ∧ p.lastPolled ≤ i.val := by
  simp [padAddress, and_comm]

theorem nextPad_eq_some {p : PadBus} {i : Fin 8} (henrolled : (p.registry.get i).state = .enrolled) (habove : p.lastPolled ≤ i.val)
    (hlowest : ∀ j < i, (p.registry.get j).state = .enrolled → j.val < p.lastPolled) : p.nextPad = some i :=
  padPlace_some.2 ⟨(pollable_iff p i).2 ⟨henrolled, habove⟩, fun j hj => Bool.eq_false_iff.2 fun hpollable =>
    have ⟨he, hle⟩ := (pollable_iff p j).1 hpollable
    Nat.not_lt.2 hle (hlowest j hj he)⟩

theorem nextPad_eq_none {p : PadBus} (h : ∀ i : Fin 8, (p.registry.get i).state = .enrolled → i.val < p.lastPolled) :
    p.nextPad = none :=
  padPlace_none.2 fun i => Bool.eq_false_iff.2 fun hpollable =>
    have ⟨he, hle⟩ := (pollable_iff p i).1 hpollable
    Nat.not_lt.2 hle (h i he)

/-! ### Where the round goes -/

section
variable {s v : State}

theorem nextExchange_poll {i : Fin 8} (h : s.pbc.nextPad = some i) : s.nextExchange v = s.setPbc { s.pbc with
    lastPolled := padAddress i
    exchange := some ⟨.pad i, .poll (padAddress i) (v.feedback i), .sending, false⟩ } := by
  simp only [State.nextExchange, h]

theorem nextExchange_join (h : s.pbc.nextPad = none) (hc : s.pbc.roundCounter = 0) :
    s.nextExchange v = s.setPbc { s.pbc with exchange := some ⟨.joinWindow, .invite, .sending, false⟩ } := by
  simp only [State.nextExchange, h, if_pos hc]

theorem nextExchange_over (h : s.pbc.nextPad = none) (hc : s.pbc.roundCounter ≠ 0) :
    s.nextExchange v = s.setPbc s.pbc.roundOver := by
  simp only [State.nextExchange, h, if_neg hc]

theorem afterExchange_ending (h : s.pbc.roundEnding = true) : s.afterExchange = s.setPbc s.pbc.roundOver := if_pos h

theorem afterExchange_going (h : s.pbc.roundEnding = false) :
    s.afterExchange = (s.setPbc { s.pbc with exchange := none }).nextExchange s := if_neg (by simp [h])

end

/-- What comes after an exchange changes the bus alone, and leaves its registry. -/
theorem afterExchange_eq (s : State) : ∃ p, s.afterExchange = s.setPbc p ∧ p.registry = s.pbc.registry := by
  cases h : s.pbc.roundEnding with
  | true => exact ⟨_, afterExchange_ending h, rfl⟩
  | false =>
    obtain ⟨p, hp, hregistry, _⟩ := nextExchange_eq (s.setPbc { s.pbc with exchange := none }) s
    exact ⟨p, (afterExchange_going h).trans hp, hregistry⟩

theorem afterExchange_frame (s : State) : s.afterExchange = s.setPbc s.afterExchange.pbc := by
  obtain ⟨p, h, _⟩ := afterExchange_eq s
  rw [h]
  rfl

section
variable (s : State)
@[simp] theorem afterExchange_registry : s.afterExchange.pbc.registry = s.pbc.registry := by
  obtain ⟨p, h, hregistry⟩ := afterExchange_eq s
  rw [h]
  exact hregistry
@[simp] theorem afterExchange_rq : s.afterExchange.rq = s.rq := by rw [afterExchange_frame]; rfl
@[simp] theorem afterExchange_slotA : s.afterExchange.slotA = s.slotA := by rw [afterExchange_frame]; rfl
@[simp] theorem afterExchange_slotB : s.afterExchange.slotB = s.slotB := by rw [afterExchange_frame]; rfl
@[simp] theorem afterExchange_tr : s.afterExchange.tr = s.tr := by rw [afterExchange_frame]; rfl
@[simp] theorem afterExchange_mfe : s.afterExchange.mfe = s.mfe := by rw [afterExchange_frame]; rfl
@[simp] theorem afterExchange_su : s.afterExchange.su = s.su := by rw [afterExchange_frame]; rfl
@[simp] theorem afterExchange_llu : s.afterExchange.llu = s.llu := by rw [afterExchange_frame]; rfl
@[simp] theorem afterExchange_cmp : s.afterExchange.cmp = s.cmp := by rw [afterExchange_frame]; rfl
@[simp] theorem afterExchange_att : s.afterExchange.att = s.att := by rw [afterExchange_frame]; rfl
@[simp] theorem afterExchange_link : s.afterExchange.link = s.link := by rw [afterExchange_frame]; rfl
end

/-! ### What completes an exchange (R33, R38, R216) -/

section
variable {s : State} {ex : Exchange} (hlow : s.resetLow = false) (hex : s.pbc.exchange = some ex)
include hlow hex

/-- A frame received whole completes the exchange in flight, unless its ASSIGN is being sent. -/
theorem frame_completes (hst : ex.stage ≠ .assigning) (f : UplinkFrame) :
    arrival (uplinkFrame · f) s = .next (chooseNext (s.completeExchange ex (.received f))) := by
  rw [arrival_awake _ _ hlow]
  simp only [uplinkFrame, hex, if_neg hst]

/-- The reply timeout completes an exchange in which no uplink frame has begun. -/
theorem timeout_completes (hst : ex.stage = .sending ∨ ex.stage = .awaiting) :
    arrival replyTimeout s = .next (chooseNext (s.completeExchange ex .silence)) := by
  have hunanswered : ex.stage.unanswered = true := by rcases hst with h | h <;> rw [h] <;> rfl
  rw [arrival_awake _ _ hlow]
  simp only [replyTimeout, hex, if_pos hunanswered]

/-- A gap inside an uplink frame ends it as a check failure. -/
theorem gap_completes {bytes : List Byte} (hst : ex.stage = .receiving bytes) :
    arrival characterGap s = .next (chooseNext (s.completeExchange ex (.received .checkFailure))) := by
  rw [arrival_awake _ _ hlow]
  simp only [characterGap, hex, hst]

theorem exec_completes {c : Instr} (hc : ex.completedBy c) : ∃ r, exec c s = .next (chooseNext (s.completeExchange ex r)) := by
  rcases hc with ⟨hst, ⟨a, rfl⟩ | ⟨a, toggle, song, part, rush, rfl⟩ | ⟨a, toggle, song, rfl⟩ | ⟨a, serial, rfl⟩ | ⟨bytes, rfl⟩⟩ |
    ⟨hst, rfl⟩ | ⟨⟨bytes, hst⟩, rfl⟩
  · exact ⟨_, frame_completes hlow hex hst _⟩
  · exact ⟨_, frame_completes hlow hex hst _⟩
  · exact ⟨_, frame_completes hlow hex hst _⟩
  · exact ⟨_, frame_completes hlow hex hst _⟩
  · exact ⟨_, frame_completes hlow hex hst _⟩
  · exact ⟨_, timeout_completes hlow hex hst⟩
  · exact ⟨_, gap_completes hlow hex hst⟩

end

section
variable (s : State) {ex : Exchange} (r : Reception)

/-- An exchange that SOFT_RESET has marked is discarded, and its round ends (R49). -/
theorem completeExchange_discarded (h : ex.discarded = true) : s.completeExchange ex r = s.setPbc s.pbc.roundOver := if_pos h

/-- An exchange with a pad no longer ENROLLED is discarded, and the round goes on (R45). -/
theorem completeExchange_released {i : Fin 8} (hkept : ex.discarded = false) (htarget : ex.target = .pad i)
    (hgone : (s.pbc.registry.get i).state ≠ .enrolled) : s.completeExchange ex r = s.afterExchange := by
  simp only [State.completeExchange, hkept, htarget, if_pos hgone, Bool.false_eq_true, if_false]

end

/-- Settles O23: the two discarded completions, and each branch of the choice that follows an exchange. -/
theorem roundGoesOn : Obligations.RoundGoesOn := by
  refine ⟨fun s ex c hlow hex hc => ?_, fun s => ⟨afterExchange_frame s, fun hend => ?_, fun hgoing => ⟨?_, fun hpolled => ⟨?_, ?_⟩⟩⟩⟩
  · obtain ⟨r, hexec⟩ := exec_completes hlow hex hc
    rw [hexec]
    refine ⟨fun hdiscarded => ?_, fun i hkept htarget hgone => ?_⟩
    · rw [completeExchange_discarded s r hdiscarded]
      rfl
    · rw [completeExchange_released s r hkept htarget hgone]
  · rw [afterExchange_ending hend]
    exact ⟨rfl, rfl⟩
  · intro i henrolled habove hlowest
    have hnext : PadBus.nextPad { s.pbc with exchange := none } = some i := nextPad_eq_some henrolled habove hlowest
    rw [afterExchange_going hgoing, nextExchange_poll (s := s.setPbc _) hnext]
    rfl
  · intro hjoin
    have hnext : PadBus.nextPad { s.pbc with exchange := none } = none := nextPad_eq_none hpolled
    rw [afterExchange_going hgoing, nextExchange_join (s := s.setPbc _) hnext hjoin]
    rfl
  · intro hno
    have hnext : PadBus.nextPad { s.pbc with exchange := none } = none := nextPad_eq_none hpolled
    rw [afterExchange_going hgoing, nextExchange_over (s := s.setPbc _) hnext hno]
    change PadBus.roundOver { s.pbc with exchange := none } = _
    rw [PadBus.roundOver, ← hgoing]

end Sys2Proof.Machine

namespace Sys2Proof.Machine

/-! ## The exchange with a pad (R33 to R37) -/

theorem addressByte_toNat (i : Fin 8) : (BitVec.ofNat 8 (i.val + 1)).toNat = padAddress i := by
  rw [BitVec.toNat_ofNat, padAddress]
  omega

/-! ### Completions of an exchange in flight -/

section
variable {s : State} {i : Fin 8} {ex : Exchange} (h : s.polling i ex)
include h

/-- The completion with a pad still ENROLLED: faulty on silence (R33). -/
theorem completeExchange_silence : s.completeExchange ex .silence = (s.faultyCompletion i).afterExchange := by
  simp [State.completeExchange, h.kept, h.target, h.enrolled]

/-- A frame that is no good reply completes the exchange faulty (R33). -/
theorem completeExchange_faulty {f : UplinkFrame} (hf : goodReply i f = none) :
    s.completeExchange ex (.received f) = (s.faultyCompletion i).afterExchange := by
  simp [State.completeExchange, h.kept, h.target, h.enrolled, hf]

theorem completeExchange_good {f : UplinkFrame} {r : UplinkRecord} (hf : goodReply i f = some r) :
    s.completeExchange ex (.received f) = (s.goodCompletion i r).afterExchange := by
  simp [State.completeExchange, h.kept, h.target, h.enrolled, hf]

/-- A good reply received whole, from the address polled. -/
theorem goodReply_completes {r : UplinkRecord} (hr : goodReply i (.carries (BitVec.ofNat 8 (i.val + 1)) r) = some r) :
    recordEvent (BitVec.ofNat 8 (i.val + 1)) r s = .next (chooseNext (s.goodCompletion i r).afterExchange) := by
  rw [recordEvent, frame_completes h.awake h.inFlight h.listening, completeExchange_good h hr]

end

theorem goodReply_idle (i : Fin 8) : goodReply i (.carries (BitVec.ofNat 8 (i.val + 1)) .idle) = some .idle :=
  if_neg (not_not.2 (addressByte_toNat i))

theorem goodReply_withdraw (i : Fin 8) (toggle : Bool) (song : Word) :
    goodReply i (.carries (BitVec.ofNat 8 (i.val + 1)) (.withdraw toggle song)) = some (.withdraw toggle song) :=
  if_neg (not_not.2 (addressByte_toNat i))

theorem goodReply_request (i : Fin 8) (toggle rush : Bool) (song : Word) {part : Byte} (hpart : part.toNat ≤ 4) :
    goodReply i (.carries (BitVec.ofNat 8 (i.val + 1)) (.request toggle song part rush)) =
      some (.request toggle song part rush) :=
  (if_neg (not_not.2 (addressByte_toNat i))).trans (if_pos hpart)

/-! ### IDLE and repeats (R35, R37) -/

/-- The state with a pad's strike count lowered (R34). -/
def State.forgiven (s : State) (i : Fin 8) : State := s.setPad i (s.pbc.registry.get i).forgive

section
variable (s : State) (i : Fin 8)

theorem forgiven_record : (s.forgiven i).pbc.registry.get i = (s.pbc.registry.get i).forgive := padRecord_setPad ..

theorem goodCompletion_idle : s.goodCompletion i .idle = s.forgiven i := rfl

theorem goodCompletion_request (toggle rush : Bool) (song : Word) (part : Byte) :
    s.goodCompletion i (.request toggle song part rush) =
      (s.forgiven i).filterRecord i toggle fun u => takeRequest u (i.val + 1) song.toNat part.toNat rush := rfl

theorem goodCompletion_withdraw (toggle : Bool) (song : Word) : s.goodCompletion i (.withdraw toggle song) =
    (s.forgiven i).filterRecord i toggle fun u => takeWithdraw u (i.val + 1) song.toNat := rfl

variable {s i}

/-- A record whose toggle is not the expected one is a repeat (R37). -/
theorem filterRecord_repeat {toggle : Bool} (take : State → State × PadOutcome)
    (h : toggle ≠ (s.pbc.registry.get i).expectedToggle) : (s.forgiven i).filterRecord i toggle take = s.forgiven i := by
  refine if_neg ?_
  rw [forgiven_record]
  exact h

/-- The outcome that RQ handed back stored in a pad's record with the toggle of the record it answers (R36). -/
def outcomeStored (i : Fin 8) (toggle : Bool) (r : State × PadOutcome) : State :=
  r.1.setPad i { r.1.pbc.registry.get i with lastOutcome := ⟨toggle, r.2⟩, expectedToggle := !toggle }

/-- A record with the expected toggle is taken, and its outcome stored (R36). -/
theorem filterRecord_taken {take : State → State × PadOutcome}
    (htold : (s.forgiven i).pbc.told (take (s.forgiven i)).1.pbc) :
    (s.forgiven i).filterRecord i (s.pbc.registry.get i).expectedToggle take =
      outcomeStored i (s.pbc.registry.get i).expectedToggle (take (s.forgiven i)) := by
  have hexpected : ((s.forgiven i).pbc.registry.get i).expectedToggle = (s.pbc.registry.get i).expectedToggle := by
    rw [forgiven_record]
    rfl
  have htoggle : ((take (s.forgiven i)).1.pbc.registry.get i).expectedToggle = (s.pbc.registry.get i).expectedToggle := by
    rw [(htold.records i).others]
    exact hexpected
  simp only [State.filterRecord, hexpected, if_true, outcomeStored, PadRecord.answered, htoggle]

end

/-- What an exchange's completion leaves, but for the bus: the state of which the round goes on. -/
theorem completed_frame (u : State) : (chooseNext u.afterExchange).pbc.registry = u.pbc.registry ∧
    (chooseNext u.afterExchange).rq = u.rq ∧ (chooseNext u.afterExchange).slotA = u.slotA ∧
    (chooseNext u.afterExchange).slotB = u.slotB ∧ (chooseNext u.afterExchange).tr = u.tr ∧
    (chooseNext u.afterExchange).mfe = u.mfe ∧ (chooseNext u.afterExchange).su = u.su ∧
    (chooseNext u.afterExchange).llu = u.llu ∧ (chooseNext u.afterExchange).cmp = u.cmp ∧
    (chooseNext u.afterExchange).att.latched = u.att.latched ∧ (chooseNext u.afterExchange).att.mask = u.att.mask ∧
    u.sameLink (chooseNext u.afterExchange) := by
  simp [State.sameLink]

/-- Settles O25: each of the three records leaves the forgiven state. -/
theorem idleAndRepeatOnlyForgive : Obligations.IdleAndRepeatOnlyForgive := by
  intro s i ex toggle rush song part c h hpart htoggle hc
  have hexec : exec c s = .next (chooseNext (s.forgiven i).afterExchange) := by
    rcases hc with rfl | rfl | rfl
    · refine (goodReply_completes h (goodReply_idle i)).trans ?_
      rw [goodCompletion_idle]
    · refine (goodReply_completes h (goodReply_request i toggle rush song hpart)).trans ?_
      rw [goodCompletion_request, filterRecord_repeat _ htoggle]
    · refine (goodReply_completes h (goodReply_withdraw i toggle song)).trans ?_
      rw [goodCompletion_withdraw, filterRecord_repeat _ htoggle]
  obtain ⟨hregistry, hframe⟩ := completed_frame (s.forgiven i)
  exact ⟨_, hexec, rfl, hregistry, hframe⟩

/-! ### New records (R36) -/

/-- A REQUEST changes the queue and the attention alone. -/
theorem takeRequest_eq (s : State) (pad song part : Nat) (rush : Bool) :
    ∃ q a, (takeRequest s pad song part rush).1 = (s.setRq q).setAtt a := by
  unfold takeRequest
  simp only
  split
  · exact ⟨s.rq, s.att, rfl⟩
  · split
    · split_ifs
      · exact ⟨s.rq, s.att, rfl⟩
      · exact ⟨_, _, rfl⟩
      · exact ⟨s.rq, s.att, rfl⟩
    · split_ifs
      · exact ⟨s.rq, s.att, rfl⟩
      · exact ⟨s.rq, s.att, rfl⟩
      · exact ⟨_, _, rfl⟩

theorem takeRequest_frame (s : State) (pad song part : Nat) (rush : Bool) :
    let t := (takeRequest s pad song part rush).1
    t.slotA = s.slotA ∧ t.slotB = s.slotB ∧ t.tr = s.tr ∧ t.mfe = s.mfe ∧ t.su = s.su ∧ t.llu = s.llu ∧ t.cmp = s.cmp ∧
      t.link = s.link := by
  obtain ⟨q, a, h⟩ := takeRequest_eq s pad song part rush
  simp [h]

/-- What a WITHDRAW leaves alone, with the cueing it may bring. -/
theorem takeWithdraw_frame (s : State) (pad song : Nat) :
    let t := (takeWithdraw s pad song).1
    t.mfe = s.mfe ∧ t.cmp = s.cmp ∧ t.link = s.link := by
  unfold takeWithdraw
  split
  · exact ⟨rfl, rfl, rfl⟩
  · simp only
    split <;> simp

theorem State.sameLink.of_link {s u t : State} (h : u.sameLink t) (hlink : u.link = s.link) : s.sameLink t := by
  rwa [State.sameLink, hlink] at h

@[simp] theorem Oct.set_set {α : Type} (o : Oct α) (i : Fin 8) (x y : α) : (o.set i x).set i y = o.set i y := by
  fin_cases i <;> rfl

/-- Settles O26: the record is taken from the forgiven state. -/
theorem recordsReachTheQueue : Obligations.RecordsReachTheQueue := by
  intro s i ex rush song part h hpart p forgiven
  constructor
  · let r := takeRequest forgiven (i.val + 1) song.toNat part.toNat rush
    have hexec : exec (.request (BitVec.ofNat 8 (i.val + 1)) p.expectedToggle song part rush) s =
        .next (chooseNext (outcomeStored i p.expectedToggle r).afterExchange) := by
      refine (goodReply_completes h (goodReply_request i p.expectedToggle rush song hpart)).trans ?_
      rw [goodCompletion_request, filterRecord_taken (.of_eq (takeRequest_pbc ..))]
      rfl
    obtain ⟨hregistry, hrq, hslotA, hslotB, htr, hmfe, hsu, hllu, hcmp, hlatched, _, hlink⟩ :=
      completed_frame (outcomeStored i p.expectedToggle r)
    obtain ⟨rslotA, rslotB, rtr, rmfe, rsu, rllu, rcmp, rlink⟩ :=
      takeRequest_frame forgiven (i.val + 1) song.toNat part.toNat rush
    have hrecords : r.1.pbc.registry = s.pbc.registry.set i p.forgive := congrArg PadBus.registry (takeRequest_pbc ..)
    refine ⟨_, hexec, rfl, hrq, hlatched, hregistry.trans ?_, hslotA.trans rslotA, hslotB.trans rslotB, htr.trans rtr,
      hmfe.trans rmfe, hsu.trans rsu, hllu.trans rllu, hcmp.trans rcmp, hlink.of_link rlink⟩
    rw [outcomeStored, setPad_registry, hrecords, Oct.get_set_same, Oct.set_set]
    rfl
  · let r := takeWithdraw forgiven (i.val + 1) song.toNat
    have hexec : exec (.withdraw (BitVec.ofNat 8 (i.val + 1)) p.expectedToggle song) s =
        .next (chooseNext (outcomeStored i p.expectedToggle r).afterExchange) := by
      refine (goodReply_completes h (goodReply_withdraw i p.expectedToggle song)).trans ?_
      rw [goodCompletion_withdraw, filterRecord_taken (told_takeWithdraw ..)]
      rfl
    obtain ⟨hregistry, hrq, hslotA, hslotB, htr, hmfe, hsu, hllu, hcmp, hlatched, _, hlink⟩ :=
      completed_frame (outcomeStored i p.expectedToggle r)
    obtain ⟨rmfe, rcmp, rlink⟩ := takeWithdraw_frame forgiven (i.val + 1) song.toNat
    exact ⟨_, hexec, rfl, hrq, hlatched, hregistry, hslotA, hslotB, htr, hmfe.trans rmfe, hsu, hllu, hcmp.trans rcmp,
      hlink.of_link rlink⟩

end Sys2Proof.Machine

namespace Sys2Proof.Machine

/-! ## Frames that are no good reply (R33, R38, R216) -/

/-! ### What a whole frame carries -/

/-- The body of an uplink frame: the bytes between its header and its check (R215). -/
def uplinkBody (bytes : List Byte) : List Byte := (bytes.drop 3).take (u8 bytes 2).toNat

theorem u8_uplinkBody {bytes : List Byte} {k : Nat} (hk : k < (u8 bytes 2).toNat) : u8 (uplinkBody bytes) k = u8 bytes (3 + k) := by
  simp only [uplinkBody, u8, List.getD_eq_getElem?_getD, List.getElem?_take, List.getElem?_drop] at hk ⊢
  rw [if_pos hk]

section
variable {bytes : List Byte} (hone : oneUplinkFrame bytes = true)
include hone

theorem oneUplinkFrame_length : bytes.length = 5 + (u8 bytes 2).toNat := by
  simp only [oneUplinkFrame, Bool.and_eq_true, decide_eq_true_eq] at hone
  exact hone.2

theorem uplinkBody_length : (uplinkBody bytes).length = (u8 bytes 2).toNat := by
  have := oneUplinkFrame_length hone
  simp only [uplinkBody, List.length_take, List.length_drop]
  omega

/-- One whole frame is read by its check, its address and its record. -/
theorem readUplink_one : readUplink bytes =
    if crc (bytes.take (bytes.length - 2)) ≠ u16 bytes (bytes.length - 2) then .checkFailure
    else .carries (u8 bytes 0) (readRecord (u8 bytes 1) (uplinkBody bytes)) := by
  have hlen := oneUplinkFrame_length hone
  have hwhole : uplinkWhole bytes = true := by
    simp only [uplinkWhole, Bool.and_eq_true, decide_eq_true_eq]
    omega
  have hcheck : bytes.length - 2 = 3 + (u8 bytes 2).toNat := by omega
  simp only [readUplink, hwhole, hcheck, uplinkBody, Bool.not_true, Bool.false_eq_true, if_false]

end

/-- Every record a type and a body can give (R215). -/
theorem readRecord_cases (type : Byte) (body : List Byte) :
    (type = 0 ∧ body.length = 0 ∧ readRecord type body = .idle) ∨
    (type = 1 ∧ body.length = 7 ∧
      readRecord type body = .request ((u8 body 0).getLsbD 0) (u32 body 1) (u8 body 5) (u8 body 6 != 0)) ∨
    (type = 2 ∧ body.length = 5 ∧ readRecord type body = .withdraw ((u8 body 0).getLsbD 0) (u32 body 1)) ∨
    (type = 3 ∧ body.length = 4 ∧ readRecord type body = .join (u32 body 0)) ∨
    readRecord type body = .malformed := by
  unfold readRecord
  split
  · next ht hb => exact .inl ⟨BitVec.eq_of_toNat_eq ht, hb, rfl⟩
  · next ht hb => exact .inr (.inl ⟨BitVec.eq_of_toNat_eq ht, hb, rfl⟩)
  · next ht hb => exact .inr (.inr (.inl ⟨BitVec.eq_of_toNat_eq ht, hb, rfl⟩))
  · next ht hb => exact .inr (.inr (.inr (.inl ⟨BitVec.eq_of_toNat_eq ht, hb, rfl⟩)))
  · exact .inr (.inr (.inr (.inr rfl)))

/-- A request's part choice is the byte that follows toggle and song in its body. -/
theorem uplinkBody_part {bytes : List Byte} (hm : (u8 bytes 2).toNat = 7) : u8 (uplinkBody bytes) 5 = u8 bytes 8 :=
  u8_uplinkBody (by omega)

theorem byte_eq_of_toNat {b : Byte} {n : Nat} (h : b.toNat = n) : b = BitVec.ofNat 8 n := by
  rw [← h, BitVec.ofNat_toNat, BitVec.setWidth_eq]

/-- The ways in which one whole frame is faulty for the pad at a place (R33). -/
def faultyFor (i : Fin 8) (bytes : List Byte) : Prop :=
  crc (bytes.take (bytes.length - 2)) ≠ u16 bytes (bytes.length - 2) ∨
    (u8 bytes 0).toNat ≠ i.val + 1 ∨ 2 < u8 bytes 1 ∨ (u8 bytes 1 = 0 ∧ u8 bytes 2 ≠ 0) ∨
    (u8 bytes 1 = 1 ∧ (u8 bytes 2 ≠ 7 ∨ 4 < u8 bytes 8)) ∨ (u8 bytes 1 = 2 ∧ u8 bytes 2 ≠ 5)

/-- A frame with one of the faults is no good reply: past its check and address, the type and body length of an IDLE or a
WITHDRAW leave no fault, and those of a REQUEST leave its part choice alone. -/
theorem goodReply_faulty {i : Fin 8} {bytes : List Byte} (hone : oneUplinkFrame bytes = true) (hfaulty : faultyFor i bytes) :
    goodReply i (readUplink bytes) = none := by
  have hlen := uplinkBody_length hone
  rw [readUplink_one hone]
  by_cases hcheck : crc (bytes.take (bytes.length - 2)) = u16 bytes (bytes.length - 2)
  case neg => rw [if_pos hcheck]; rfl
  rw [if_neg (not_not.2 hcheck)]
  by_cases ha : (u8 bytes 0).toNat = i.val + 1
  case neg => exact if_pos ha
  have hrecord : goodReply i (.carries (u8 bytes 0) (readRecord (u8 bytes 1) (uplinkBody bytes))) = _ := if_neg (not_not.2 ha)
  rcases readRecord_cases (u8 bytes 1) (uplinkBody bytes) with
    ⟨ht, hb, hr⟩ | ⟨ht, hb, hr⟩ | ⟨ht, hb, hr⟩ | ⟨_, _, hr⟩ | hr
  · have hm : u8 bytes 2 = 0 := byte_eq_of_toNat (hlen.symm.trans hb)
    simp [faultyFor, hcheck, ha, ht, hm] at hfaulty
  · have hm : u8 bytes 2 = 7 := byte_eq_of_toNat (hlen.symm.trans hb)
    have hpart : 4 < u8 bytes 8 := by simpa [faultyFor, hcheck, ha, ht, hm] using hfaulty
    rw [hrecord, hr]
    refine if_neg ?_
    rw [uplinkBody_part (hlen.symm.trans hb)]
    exact Nat.not_le.2 hpart
  · have hm : u8 bytes 2 = 5 := byte_eq_of_toNat (hlen.symm.trans hb)
    simp [faultyFor, hcheck, ha, ht, hm] at hfaulty
  · rw [hrecord, hr]
  · rw [hrecord, hr]

/-! ### Strikes (R34) -/

section
variable {s : State} {i : Fin 8} (he : (s.pbc.registry.get i).state = .enrolled)

include he in
/-- A strike short of the eighth. -/
theorem faultyCompletion_strike (h : (s.pbc.registry.get i).strikes < 7) :
    s.faultyCompletion i =
      s.setPad i { s.pbc.registry.get i with strikes := (s.pbc.registry.get i).strikes + 1 } := by
  have hstrike : (s.pbc.registry.get i).strike =
      { s.pbc.registry.get i with strikes := (s.pbc.registry.get i).strikes + 1 } := if_pos (by omega)
  simp only [State.faultyCompletion, hstrike, he]
  rfl

/-- The eighth strike silences the pad, and PAD_SILENCED is raised. -/
theorem faultyCompletion_eighth (h : (s.pbc.registry.get i).strikes = 7) :
    s.faultyCompletion i =
      (s.setPad i { s.pbc.registry.get i with strikes := 8, state := .silenced }).raise .padSilenced := by
  have hstrike : (s.pbc.registry.get i).strike = { s.pbc.registry.get i with strikes := 8, state := .silenced } :=
    if_neg (by omega)
  simp only [State.faultyCompletion, hstrike]
  rfl

end

/-- A faulty completion changes the pad's record and the attention alone. -/
theorem faultyCompletion_frame (s : State) (i : Fin 8) :
    let t := s.faultyCompletion i
    t.rq = s.rq ∧ t.slotA = s.slotA ∧ t.slotB = s.slotB ∧ t.tr = s.tr ∧ t.mfe = s.mfe ∧ t.su = s.su ∧ t.llu = s.llu ∧
      t.cmp = s.cmp ∧ t.link = s.link := by
  simp [State.faultyCompletion]

section
variable {s : State} {i : Fin 8} {ex : Exchange} (h : s.polling i ex)
include h

/-- PAD_SILENCING is due where a strike would be the eighth (R34). -/
theorem padSilencing_due (h7 : (s.pbc.registry.get i).strikes = 7) (c : FaultyCompletion) :
    exec (.padSilencing c) s = arrival (faultyBy · c) s := by
  refine occurrence_due _ _ _ ?_
  simp [silencingDue, h.inFlight, h.target, h.kept, h.enrolled, h7]

theorem exec_faulty_timeout (hst : ex.stage = .sending ∨ ex.stage = .awaiting) :
    arrival replyTimeout s = .next (chooseNext (s.faultyCompletion i).afterExchange) := by
  rw [timeout_completes h.awake h.inFlight hst, completeExchange_silence h]

theorem exec_faulty_gap {bytes : List Byte} (hst : ex.stage = .receiving bytes) :
    arrival characterGap s = .next (chooseNext (s.faultyCompletion i).afterExchange) := by
  rw [gap_completes h.awake h.inFlight hst, completeExchange_faulty h rfl]

theorem exec_faulty_frame {bytes : List Byte} (hone : oneUplinkFrame bytes = true) (hfaulty : faultyFor i bytes) :
    arrival (uplinkFrame · (readUplink bytes)) s = .next (chooseNext (s.faultyCompletion i).afterExchange) := by
  rw [frame_completes h.awake h.inFlight h.listening, completeExchange_faulty h (goodReply_faulty hone hfaulty)]

end

/-- Settles O27: each cause leads to the one faulty completion, under its own command and under PAD_SILENCING. -/
theorem faultyExchangeStrikes : Obligations.FaultyExchangeStrikes := by
  intro s i ex c h _ hcause p
  have hexec : exec c s = .next (chooseNext (s.faultyCompletion i).afterExchange) := by
    rcases hcause with ⟨hst, rfl | ⟨rfl, h7⟩⟩ | ⟨⟨bytes, hst⟩, rfl | ⟨rfl, h7⟩⟩ | ⟨bytes, hone, hfaulty, rfl | ⟨rfl, h7⟩⟩
    · exact exec_faulty_timeout h hst
    · exact (padSilencing_due h h7 _).trans (exec_faulty_timeout h hst)
    · exact exec_faulty_gap h hst
    · exact (padSilencing_due h h7 _).trans (exec_faulty_gap h hst)
    · exact exec_faulty_frame h hone hfaulty
    · exact (padSilencing_due h h7 _).trans (exec_faulty_frame h hone hfaulty)
  obtain ⟨hregistry, hrq, hslotA, hslotB, htr, hmfe, hsu, hllu, hcmp, hlatched, _, hlink⟩ :=
    completed_frame (s.faultyCompletion i)
  obtain ⟨frq, fslotA, fslotB, ftr, fmfe, fsu, fllu, fcmp, flink⟩ := faultyCompletion_frame s i
  refine ⟨_, hexec, fun hlt => ?_, fun h7 => ?_, fun hlt => ?_, fun h7 => ?_, hrq.trans frq, hslotA.trans fslotA,
    hslotB.trans fslotB, htr.trans ftr, hmfe.trans fmfe, hsu.trans fsu, hllu.trans fllu, hcmp.trans fcmp, hlink.of_link flink⟩
  · rw [faultyCompletion_strike h.enrolled hlt]
    rfl
  · rw [faultyCompletion_eighth h7]
    rfl
  · rw [hregistry, hlatched, faultyCompletion_strike h.enrolled hlt]
    exact ⟨rfl, rfl⟩
  · rw [hregistry, hlatched, faultyCompletion_eighth h7]
    exact ⟨rfl, rfl⟩

end Sys2Proof.Machine

namespace Sys2Proof.Machine

/-! ## The join window (R38, R39) -/

/-! ### The frame the window takes -/

/-- A JOIN's serial is the whole of its body. -/
theorem uplinkBody_serial {bytes : List Byte} (hm : (u8 bytes 2).toNat = 4) : u32 (uplinkBody bytes) 0 = u32 bytes 3 :=
  u32_congr fun i hi => by rw [Nat.zero_add, u8_uplinkBody (by omega)]

/-- The ways in which one whole frame is no well-formed JOIN (R38). -/
def noJoin (bytes : List Byte) : Prop :=
  crc (bytes.take (bytes.length - 2)) ≠ u16 bytes (bytes.length - 2) ∨ u8 bytes 0 ≠ 0 ∨ u8 bytes 1 ≠ 3 ∨
    u8 bytes 2 ≠ 4 ∨ u32 bytes 3 = 0

theorem joinSerial_join {a : Byte} {serial : Word} (h : a ≠ 0 ∨ serial = 0) : joinSerial (.carries a (.join serial)) = none :=
  if_neg fun ⟨ha, hserial⟩ => h.elim (· ha) hserial

/-- The window takes no serial from a frame with one of the faults: past its check only a JOIN gives one, from address 0 and
with a serial other than 0. -/
theorem joinSerial_faulty {bytes : List Byte} (hone : oneUplinkFrame bytes = true) (hfaulty : noJoin bytes) :
    joinSerial (readUplink bytes) = none := by
  have hlen := uplinkBody_length hone
  rw [readUplink_one hone]
  by_cases hcheck : crc (bytes.take (bytes.length - 2)) = u16 bytes (bytes.length - 2)
  case neg => rw [if_pos hcheck]; rfl
  rw [if_neg (not_not.2 hcheck)]
  rcases readRecord_cases (u8 bytes 1) (uplinkBody bytes) with
    ⟨_, _, hr⟩ | ⟨_, _, hr⟩ | ⟨_, _, hr⟩ | ⟨ht, hb, hr⟩ | hr
  · rw [hr]; rfl
  · rw [hr]; rfl
  · rw [hr]; rfl
  · have hm : (u8 bytes 2).toNat = 4 := hlen.symm.trans hb
    rw [hr, uplinkBody_serial hm]
    refine joinSerial_join ?_
    simpa [noJoin, hcheck, ht, byte_eq_of_toNat hm] using hfaulty
  · rw [hr]; rfl

/-! ### The registry searched (R29, R39) -/

section
variable {p : PadBus} {serial : Word}

theorem holderOf_some {i : Fin 8} (hi : (p.registry.get i).serial = some serial)
    (hone : ∀ i j : Fin 8, (p.registry.get i).serial = some serial → (p.registry.get j).serial = some serial → i = j) :
    p.holderOf serial = some i :=
  padPlace_some.2 ⟨by simpa using hi, fun j hj => by
    simpa using fun hserial => absurd (hone j i hserial hi) (ne_of_lt hj)⟩

theorem holderOf_none (h : ∀ i : Fin 8, (p.registry.get i).serial ≠ some serial) : p.holderOf serial = none :=
  padPlace_none.2 fun i => by simpa using h i

theorem lowestFree_some {i : Fin 8} (hi : (p.registry.get i).state = .free)
    (hlowest : ∀ j < i, (p.registry.get j).state ≠ .free) : p.lowestFree = some i :=
  padPlace_some.2 ⟨by simpa using hi, fun j hj => by simpa using hlowest j hj⟩

theorem lowestFree_none (h : ∀ i : Fin 8, (p.registry.get i).state ≠ .free) : p.lowestFree = none :=
  padPlace_none.2 fun i => by simpa using h i

end

/-! ### A JOIN taken (R39) -/

section
variable {s : State} {serial : Word} {i : Fin 8}

theorem takeJoin_enrolled (hi : s.pbc.holderOf serial = some i) (he : (s.pbc.registry.get i).state = .enrolled) :
    takeJoin s serial = (s.setPad i { s.pbc.registry.get i with expectedToggle := false, lastOutcome := clearedOutcome },
      i.val + 1) := by
  simp only [takeJoin, hi, if_pos he]
  rfl

theorem takeJoin_silenced (hi : s.pbc.holderOf serial = some i) (he : (s.pbc.registry.get i).state ≠ .enrolled) :
    takeJoin s serial = (s, 0) := by
  simp only [takeJoin, hi, if_neg he]

theorem takeJoin_new (hnone : s.pbc.holderOf serial = none) (hfree : s.pbc.lowestFree = some i) :
    takeJoin s serial = ((s.setPad i ⟨.enrolled, some serial, 0, false, clearedOutcome, none, 0⟩).raise .padJoined,
      i.val + 1) := by
  simp only [takeJoin, hnone, hfree]
  rfl

theorem takeJoin_full (hnone : s.pbc.holderOf serial = none) (hfull : s.pbc.lowestFree = none) :
    takeJoin s serial = (s.raise .padRefused, 0) := by
  simp only [takeJoin, hnone, hfull]

end

/-! ### The window's exchange -/

section
variable {s : State} {ex : Exchange} (hlow : s.resetLow = false) (hex : s.pbc.exchange = some ex)
  (htarget : ex.target = .joinWindow)

include htarget in
theorem completeExchange_window_silence : s.completeExchange ex .silence = s.setPbc s.pbc.roundOver := by
  cases h : ex.discarded <;> simp [State.completeExchange, h, htarget]

include htarget in
/-- A frame that is no well-formed JOIN ends the round, in an exchange to be discarded as in any other (R38, R49). -/
theorem completeExchange_window_noJoin {f : UplinkFrame} (hf : joinSerial f = none) :
    s.completeExchange ex (.received f) = s.setPbc s.pbc.roundOver := by
  cases h : ex.discarded <;> simp [State.completeExchange, h, htarget, State.joinFrame, hf]

include hlow hex htarget

/-- A well-formed JOIN is taken, and its ASSIGN sent with the address decided (R38). -/
theorem exec_join {serial : Word} (hkept : ex.discarded = false) (hst : ex.stage ≠ .assigning) (hserial : serial ≠ 0)
    {t : State} {a : Nat} (htaken : takeJoin s serial = (t, a)) :
    exec (.join 0 serial) s = .next (chooseNext (t.setPbc { t.pbc with
      exchange := some { ex with sent := .assign serial a, stage := .assigning } })) := by
  have hjoin : joinSerial (.carries 0 (.join serial)) = some serial := if_pos ⟨rfl, hserial⟩
  refine (frame_completes hlow hex hst _).trans ?_
  simp only [State.completeExchange, hkept, htarget, State.joinFrame, hjoin, htaken, Bool.false_eq_true, if_false]

theorem window_noJoin {f : UplinkFrame} (hst : ex.stage ≠ .assigning) (hf : joinSerial f = none) :
    arrival (uplinkFrame · f) s = .next (chooseNext (s.setPbc s.pbc.roundOver)) := by
  rw [frame_completes hlow hex hst, completeExchange_window_noJoin htarget hf]

end

/-- Settles O28: the four decisions about a JOIN, and the ways in which the window's exchange ends. -/
theorem joinWindowEnrols : Obligations.JoinWindowEnrols := by
  constructor
  · intro s ex serial hlow hex htarget hkept hst hserial hone assigned
    refine ⟨fun i hi => ?_, fun hnone => ?_⟩
    · have hholder := holderOf_some hi hone
      exact ⟨fun he => exec_join hlow hex htarget hkept hst hserial (takeJoin_enrolled hholder he),
        fun he => exec_join hlow hex htarget hkept hst hserial (takeJoin_silenced hholder he)⟩
    · have hholder := holderOf_none hnone
      exact ⟨fun i hi hlowest => exec_join hlow hex htarget hkept hst hserial (takeJoin_new hholder (lowestFree_some hi hlowest)),
        fun hfull => exec_join hlow hex htarget hkept hst hserial (takeJoin_full hholder (lowestFree_none hfull))⟩
  · intro s ex hlow hex htarget ended
    refine ⟨fun hst => ?_, fun hst => ?_, fun bytes hst => ?_, fun hst => ?_⟩
    · refine (arrival_awake _ _ hlow).trans ?_
      simp only [assignSent, hex, if_pos hst]
      rfl
    · refine (timeout_completes hlow hex hst).trans ?_
      rw [completeExchange_window_silence htarget]
      rfl
    · refine (gap_completes hlow hex hst).trans ?_
      rw [completeExchange_window_noJoin htarget rfl]
      rfl
    · have noJoin {f : UplinkFrame} (hf : joinSerial f = none) : arrival (uplinkFrame · f) s = ended :=
        window_noJoin hlow hex htarget hst hf
      exact ⟨fun a part toggle rush song => ⟨noJoin rfl, noJoin rfl, noJoin rfl⟩,
        fun a serial hbad => noJoin (joinSerial_join hbad), fun bytes hone hfaulty => noJoin (joinSerial_faulty hone hfaulty)⟩

end Sys2Proof.Machine

namespace Sys2Proof.Machine

/-! ## A round begun (R30 to R32, R38) -/

/-- A round is due at a block completion with the bus enabled, no round in flight and the pacing met (R30). -/
theorem roundDue_of {p : PadBus} {n : Nat} (henabled : p.enabled = true) (hidle : p.roundInFlight = false)
    (hpacing : ∀ m, p.pacingMark = some m → m + 2 ≤ n) : p.roundDue n = true := by
  unfold PadBus.roundDue
  rw [henabled, hidle]
  cases h : p.pacingMark with
  | none => rfl
  | some m => exact decide_eq_true (hpacing m h)

/-- The bus is told nothing that bears on whether a round is due. -/
theorem PadBus.told.roundDue {p q : PadBus} (h : p.told q) (n : Nat) : q.roundDue n = p.roundDue n := by
  rw [h.others]
  rfl

/-- The bus as a round begins at the block completion of number `n`, before its first exchange is chosen (R30). -/
def PadBus.roundBegun (p : PadBus) (n : Nat) : PadBus :=
  { p with pacingMark := some n, roundCounter := (p.roundCounter + 1) % 4, roundInFlight := true, roundEnding := false
           lastPolled := 0 }

/-- A round's first exchange is chosen with the feedback of the state after the Transport's steps or before them (log entry
1). -/
theorem padBlock_begins {before s : State} {n : Nat} (h : s.pbc.roundDue n = true) : ∃ view u : State,
    (view = s ∨ view = before) ∧ u.pbc = s.pbc.roundBegun n ∧ padBlock before s n = u.nextExchange view := by
  refine ⟨if Config.pollAfterTransport s.draws then s else before,
    (s.setPbc (s.pbc.roundBegun n)).setCounts s.blocks (s.draws + 1), ?_, rfl, if_pos h⟩
  split
  · exact .inl rfl
  · exact .inr rfl

/-- The choice of an exchange leaves no round to be ended that was not. -/
theorem nextExchange_roundEnding {s : State} (v : State) (h : s.pbc.roundEnding = false) :
    (s.nextExchange v).pbc.roundEnding = false := by
  unfold State.nextExchange
  simp only
  split
  · exact h
  · split
    · exact h
    · rfl

theorem feedback_congr {v w : State} (hregistry : v.pbc.registry = w.pbc.registry) (hrq : v.rq = w.rq) (i : Fin 8) :
    v.feedback i = w.feedback i := by
  simp only [State.feedback, hregistry, hrq]

/-- With the Transport IDLE a block completion brings no step of a song. -/
theorem transportBlock_idle {s : State} (h : s.tr.state = .idle) : transportBlock s = s := by
  simp only [transportBlock, h]

theorem finishOwed_idle {t : Transport} (h : t.state = .idle) (s : State) : t.finishOwed s = s := by
  have : t.endKind = none := by simp [Transport.endKind, Transport.endsSong, Transport.runs, Transport.givesUp, h]
  simp only [Transport.finishOwed, this]

/-- Settles O24: the bus the Transport's steps leave differs in news alone, so the round begun is that of the bus found. -/
theorem pollingRoundBegins : Obligations.PollingRoundBegins := by
  intro s input hlow henabled hidle hpacing seen
  let s1 := s.tr.finishOwed (recordsTaken input s)
  let t := chooseNext (blockEvent input s)
  have htold : s.pbc.told s1.pbc := told_recordsTaken s input
  have hdue : s.pbc.roundDue (s.blocks + 1) = true := roundDue_of henabled hidle hpacing
  obtain ⟨view, u, hview, hu, hbegins⟩ := padBlock_begins (before := s) ((htold.roundDue _).trans hdue)
  obtain ⟨p, hp, hregistry, henables, hcounter, hmark⟩ := nextExchange_eq u view
  have hevent : (blockEvent input s).pbc = (padBlock s s1 (s.blocks + 1)).pbc := rfl
  have hbus : t.pbc = (u.nextExchange view).pbc := by rw [chooseNext_pbc, hevent, hbegins]
  have hsame : (u.nextExchange view).pbc = p := congrArg State.pbc hp
  have hstates (i : Fin 8) : (u.pbc.registry.get i).state = (s.pbc.registry.get i).state := by
    rw [hu]
    exact (htold.records i).state
  have htregistry : t.pbc.registry = s1.pbc.registry := by
    rw [hbus, hsame, hregistry, hu]
    rfl
  have htrq : t.rq = s1.rq := by simp [t, s1]
  refine ⟨t, ?_, arrival_awake _ _ hlow, by simp [t], ?_, ?_, ?_, ?_, fun hti => ?_, fun i henrolled hlowest => ?_, fun hnone => ?_⟩
  · exact (occurrence_due _ _ _ hdue).trans (arrival_awake _ _ hlow)
  · rw [hbus, hsame, hmark, hu]
    rfl
  · rw [hbus, hsame, hcounter, hu, htold.others]
    rfl
  · rw [hbus, hsame, henables, hu, htold.others]
    exact henabled
  · rw [hbus]
    exact nextExchange_roundEnding view (by rw [hu]; rfl)
  · have hs1 : s1 = recordsTaken input s := finishOwed_idle hti _
    rw [htregistry, hs1]
    simp [t, transportBlock_idle hti, finishOwed_idle hti]
  · have hnext : u.pbc.nextPad = some i := by
      refine nextPad_eq_some ((hstates i).trans henrolled) ?_ fun j hj he => absurd ((hstates j).symm.trans he) (hlowest j hj)
      rw [hu]
      exact Nat.zero_le _
    rw [hbus, nextExchange_poll hnext, hu]
    refine ⟨rfl, rfl, _, rfl, ?_⟩
    rcases hview with rfl | rfl
    · exact .inr (feedback_congr htregistry.symm htrq.symm i)
    · exact .inl rfl
  · have hnext : u.pbc.nextPad = none :=
      nextPad_eq_none fun i he => absurd ((hstates i).symm.trans he) (hnone i)
    rw [hbus]
    refine ⟨fun hjoin => ?_, fun hno => ?_⟩
    · rw [hsame, hcounter] at hjoin
      rw [nextExchange_join hnext hjoin, hu]
      exact ⟨rfl, rfl⟩
    · rw [hsame, hcounter] at hno
      rw [nextExchange_over hnext hno]
      exact ⟨rfl, rfl⟩

end Sys2Proof.Machine

namespace Sys2Proof.Machine

/-! ## The host's messages to the Pad Bus Controller (R43, R46, R47) -/

/-! ### PAD_ADMIT and PAD_BUS -/

theorem takePadAdmit_silenced {s : State} {i : Fin 8} (h : (s.pbc.registry.get i).state = .silenced) :
    takePadAdmit s (i.val + 1) =
      accept (s.setPad i { s.pbc.registry.get i with state := .enrolled, strikes := 0 }) [] := by
  simp only [takePadAdmit, padNamed_place]
  exact if_neg (not_not.2 h)

theorem takePadAdmit_other {s : State} {i : Fin 8} (h : (s.pbc.registry.get i).state ≠ .silenced) :
    takePadAdmit s (i.val + 1) = refuse s .badState := by
  simp only [takePadAdmit, padNamed_place]
  exact if_pos h

theorem takePadBus_bad {s : State} {enable : Nat} (h : 1 < enable) : takePadBus s enable = refuse s .badValue := by
  unfold takePadBus
  split
  · omega
  · omega
  · rfl

/-! ### PAD_READ (R46, R214) -/

/-- The bytes of a PAD_READ's reply data from the record of an address and the queue (R214). -/
def padReading (q : List Entry) (a : Nat) (p : PadRecord) : List Byte :=
  n8 p.state.value ++ le32 (p.serial.getD 0) ++ n8 p.strikes ++ flag8 p.expectedToggle ++ outcomeData p.lastOutcome ++
    newsData p.news p.newsCounter ++ n8 (padWaitingCount q a) ++ n8 (padFirstPosition q a)

theorem takePadRead_eq (s : State) (i : Fin 8) :
    takePadRead s (i.val + 1) = accept s (padReading s.rq.entries (i.val + 1) (s.pbc.registry.get i)) := by
  simp only [takePadRead, padNamed_place]
  rfl

/-- The kind of a news item as sent, 0 for none. -/
def newsKindByte : Option NewsItem → Byte
  | none => 0
  | some ⟨.started, _⟩ => 1
  | some ⟨.finished _, _⟩ => 2
  | some ⟨.dropped _, _⟩ => 3

/-- The score of a news item as sent: 0xFFFF where the item has none (log entry 17). -/
def newsScore : Option NewsItem → Nat
  | none => 0
  | some ⟨.finished score, _⟩ => score.getD 0xFFFF
  | some ⟨.started, _⟩ => 0xFFFF
  | some ⟨.dropped _, _⟩ => 0xFFFF

/-- The reason of a news item as sent, 0 for an item that was not dropped. -/
def newsReasonByte : Option NewsItem → Byte
  | some ⟨.dropped .notInCatalogue, _⟩ => 1
  | some ⟨.dropped .cancelled, _⟩ => 2
  | _ => 0

theorem newsData_eq (news : Option NewsItem) (counter : Nat) : newsData news counter =
    [newsKindByte news] ++ n8 counter ++ n32 ((news.map (·.song)).getD 0) ++ n16 (newsScore news) ++ [newsReasonByte news] := by
  rcases news with _ | ⟨_ | _ | _ | _, _⟩ <;> rfl

theorem padReading_eq (q : List Entry) (a : Nat) (p : PadRecord) : padReading q a p =
    n8 p.state.value ++ le32 (p.serial.getD 0) ++ n8 p.strikes ++ flag8 p.expectedToggle ++ outcomeData p.lastOutcome ++
      ([newsKindByte p.news] ++ n8 p.newsCounter ++ n32 ((p.news.map (·.song)).getD 0) ++ n16 (newsScore p.news) ++
        [newsReasonByte p.news]) ++ n8 (padWaitingCount q a) ++ n8 (padFirstPosition q a) := by
  rw [padReading, newsData_eq]

/-- Settles O30: the refusals, the admission, the enable and, byte by byte, the reading. -/
theorem padMessages : Obligations.PadMessages := by
  intro s tag a hlink
  have admitSent {s' : State} {code : ResultCode} (ha : takePadAdmit s a.toNat = ⟨s', code, []⟩) (hs : s'.link = s.link) :
      exec (.padAdmit tag a) s = .next (s'.answered ⟨0x18, tag, [a]⟩ code []) :=
    sendRequest_taken s tag (.padAdmit a) s' code [] hlink nofun rfl (by simp [Request.payload]) ha hs
  have readSent {code : ResultCode} {data : List Byte} (ha : takePadRead s a.toNat = ⟨s, code, data⟩) :
      exec (.padRead tag a) s = .next (s.answered ⟨0x1A, tag, [a]⟩ code data) :=
    sendRequest_taken s tag (.padRead a) s code data hlink nofun rfl (by simp [Request.payload]) ha rfl
  have busSent {s' : State} {code : ResultCode} {data : List Byte} (ha : takePadBus s a.toNat = ⟨s', code, data⟩)
      (hs : s'.link = s.link) : exec (.padBus tag a) s = .next (s'.answered ⟨0x1B, tag, [a]⟩ code data) :=
    sendRequest_taken s tag (.padBus a) s' code data hlink nofun rfl (by simp [Request.payload]) ha hs
  refine ⟨fun hbad => ⟨admitSent ?_ rfl, readSent ?_⟩, fun i hi => ?_, fun h1 => ?_, fun h0 => ?_,
    fun hbad => busSent (takePadBus_bad hbad) rfl⟩
  · simp only [takePadAdmit, padNamed_bad hbad]
    rfl
  · simp only [takePadRead, padNamed_bad hbad]
    rfl
  · intro p
    rw [hi] at admitSent readSent
    refine ⟨fun hother => admitSent (takePadAdmit_other hother) rfl,
      fun hsilenced => admitSent (takePadAdmit_silenced hsilenced) rfl,
      _, readSent (takePadRead_eq s i), ?_⟩
    rw [padReading_eq]
    refine ⟨rfl, ?_, join32 _, rfl, rfl, rfl, ?_, rfl, rfl, rfl, rfl, join32 _, join16 _, rfl, rfl, rfl⟩
    · change BitVec.ofNat 8 p.state.value = _
      cases p.state <;> rfl
    · change BitVec.ofNat 8 p.lastOutcome.outcome.code.value = _
      cases p.lastOutcome.outcome.code <;> rfl
  · subst h1
    exact busSent rfl rfl
  · subst h0
    exact busSent rfl rfl

end Sys2Proof.Machine

namespace Sys2Proof.Machine

/-! ## The image memories (R50, R53, R54, R70)

SLOT_OPEN and SLOT_DATA alone write an image memory; whatever else a slot goes through keeps its bytes (log entry 14). -/

/-- The two image memories of a state. -/
def State.images (s : State) : ImageMemory × ImageMemory := (s.slotA.image, s.slotB.image)

theorem imagesCanonical_iff {s : State} :
    s.imagesCanonical ↔ Memory.wf s.images.1 = true ∧ Memory.wf s.images.2 = true := .rfl

theorem State.imagesCanonical.congr {s t : State} (hs : s.imagesCanonical) (h : t.images = s.images) : t.imagesCanonical := by
  rwa [imagesCanonical_iff, h]

theorem State.imagesCanonical.slot {s : State} (h : s.imagesCanonical) (n : SlotName) : Memory.wf (s.slot n).image = true := by
  obtain ⟨ha, hb⟩ := h
  cases n
  · exact ha
  · exact hb

theorem imagesCanonical_setSlot {s : State} (h : s.imagesCanonical) (n : SlotName) {x : Slot} (hx : Memory.wf x.image = true) :
    (s.setSlot n x).imagesCanonical := by
  obtain ⟨ha, hb⟩ := h
  cases n
  · exact ⟨hx, hb⟩
  · exact ⟨ha, hx⟩

/-! ### Operations that keep the images -/

theorem images_setSlot {s : State} {n : SlotName} {x : Slot} (h : x.image = (s.slot n).image) :
    (s.setSlot n x).images = s.images := by
  cases n
  · exact Prod.ext h rfl
  · exact Prod.ext rfl h

theorem State.sameQueue.images {s t : State} (h : s.sameQueue t) : t.images = s.images := by
  rw [State.images, State.images, h.slotA, h.slotB]

section
variable (s : State)

@[simp] theorem images_setRq (r : RequestQueue) : (s.setRq r).images = s.images := rfl
@[simp] theorem images_setPbc (p : PadBus) : (s.setPbc p).images = s.images := rfl
@[simp] theorem images_setTr (t : Transport) : (s.setTr t).images = s.images := rfl
@[simp] theorem images_setMfe (m : MicFrontEnd) : (s.setMfe m).images = s.images := rfl
@[simp] theorem images_setSu (u : ScoringUnit) : (s.setSu u).images = s.images := rfl
@[simp] theorem images_setLlu (l : LayoutUnit) : (s.setLlu l).images = s.images := rfl
@[simp] theorem images_setCmp (c : Compositor) : (s.setCmp c).images = s.images := rfl
@[simp] theorem images_setAtt (a : Attention) : (s.setAtt a).images = s.images := rfl
@[simp] theorem images_setLink (l : ControlLink) : (s.setLink l).images = s.images := rfl
@[simp] theorem images_setEntries (q : List Entry) : (s.setEntries q).images = s.images := rfl
@[simp] theorem images_setEntryState (id : Nat) (st : EntryState) : (s.setEntryState id st).images = s.images := rfl
@[simp] theorem images_raise (m : Member) : (s.raise m).images = s.images := rfl
@[simp] theorem images_tellPads (l : List Requester) (x : NewsItem) : (s.tellPads l x).images = s.images := rfl
@[simp] theorem images_setPad (i : Fin 8) (p : PadRecord) : (s.setPad i p).images = s.images := rfl
@[simp] theorem images_resultEntry (k : FinishKind) : (s.resultEntry k).images = s.images := rfl
@[simp] theorem images_closeLanes (k : FinishKind) : (s.closeLanes k).images = s.images := rfl
@[simp] theorem images_raiseIf (c : Bool) (m : Member) : (s.raiseIf c m).images = s.images := (sameQueue_raiseIf s c m).images
@[simp] theorem images_rebuild : s.rebuild.images = s.images := (sameQueue_rebuild s).images
@[simp] theorem images_afterExchange : s.afterExchange.images = s.images := (sameQueue_afterExchange s).images
@[simp] theorem images_faultyCompletion (i : Fin 8) : (s.faultyCompletion i).images = s.images :=
  (sameQueue_faultyCompletion s i).images

@[simp] theorem images_newEntry (song : Nat) (lane : QueueLane) (origin : Origin) (list : List Requester) (p : Nat) :
    (s.newEntry song lane origin list p).images = s.images := by simp [State.newEntry]

@[simp] theorem images_emptySlotOf (id : Nat) : (s.emptySlotOf id).images = s.images := by
  unfold State.emptySlotOf
  split
  · exact images_setSlot rfl
  · rfl

@[simp] theorem images_cancelEntry (e : Entry) (reason : DropReason) : (s.cancelEntry e reason).images = s.images := by
  simp [State.cancelEntry]

@[simp] theorem images_cancelAll (pad : Nat) (l : List Entry) : (s.cancelAll pad l).images = s.images := by
  induction l generalizing s with
  | nil => rfl
  | cons e rest ih => rw [cancelAll_cons, ih, images_cancelEntry]

@[simp] theorem images_cue (e : Entry) : (s.cue e).images = s.images := by
  unfold State.cue
  split
  · rfl
  · simp only [images_raise, images_tellPads, images_setLlu, images_setSu, images_setTr, images_setEntries]
    exact images_setSlot rfl

@[simp] theorem images_autoAdvance : s.autoAdvance.images = s.images := by
  rcases autoAdvance_cases s with h | ⟨e, _, _, _, _, h⟩ <;> simp [h]

@[simp] theorem images_releasePad (pad : Nat) : (s.releasePad pad).images = s.images := by
  simp [releasePad_eq, State.padReleased, State.delisted]

@[simp] theorem images_releaseSlot : s.releaseSlot.images = s.images := by
  unfold State.releaseSlot
  split
  · exact images_setSlot rfl
  · rfl

@[simp] theorem images_shelve (k : FinishKind) : (s.shelve k).images = s.images := by
  unfold State.shelve
  split <;> rfl

@[simp] theorem images_finish (k : FinishKind) : (s.finish k).images = s.images := by
  simp [State.finish, State.finishSong]

@[simp] theorem images_finishAtOnce (k : FinishKind) : (s.finishAtOnce k).images = s.images := by
  unfold State.finishAtOnce
  split <;> simp

@[simp] theorem images_enterResult (k : FinishKind) : (s.enterResult k).images = s.images := by
  simp [State.enterResult]

/-! ### Messages and records that keep the images -/

theorem images_takeRequest (pad song part : Nat) (rush : Bool) : (takeRequest s pad song part rush).1.images = s.images := by
  unfold takeRequest
  simp only
  repeat' split
  all_goals simp

theorem images_takeWithdraw (pad song : Nat) : (takeWithdraw s pad song).1.images = s.images := by
  unfold takeWithdraw
  simp only
  repeat' split
  all_goals simp

theorem images_takeSlotSeal (slot : Nat) : (takeSlotSeal s slot).state.images = s.images := by
  unfold takeSlotSeal
  split
  · rfl
  · simp only
    split
    · rfl
    · split <;> exact images_setSlot rfl

theorem images_takeSlotDiscard (slot : Nat) : (takeSlotDiscard s slot).state.images = s.images := by
  unfold takeSlotDiscard
  split
  · rfl
  · simp only
    split
    · rfl
    · rfl
    · exact images_setSlot rfl
    · exact images_setSlot rfl

/-- A request but SLOT_OPEN and SLOT_DATA writes no image memory. -/
theorem images_handle (r : Request) (hopen : ∀ n i z, r ≠ .slotOpen n i z) (hdata : ∀ n o d, r ≠ .slotData n o d) :
    (handle s r).state.images = s.images := by
  cases r with
  | slotOpen n i z => exact absurd rfl (hopen n i z)
  | slotData n o d => exact absurd rfl (hdata n o d)
  | slotSeal n => exact images_takeSlotSeal s _
  | slotDiscard n => exact images_takeSlotDiscard s _
  | echo | softReset | attentionRead | transportRead | layoutRead | rate | key | layoutSet => rfl
  | _ =>
    -- the owners of the rest refuse, read, or change the state by operations that keep the images
    simp only [handle, takeAttentionAck, takeAttentionMask, takeResolve, takeQueueAdd, takeQueueMove, takeQueueCancel,
      takeQueueRead, takeHistoryRead, takePolicy, takePadAdmit, takePadRelease, takePadRead, takePadBus, takeSlotRead, takeStart,
      takeSync, syncRunning, takePause, takeResume, takeStop, takeTransportSet, takeMicSet, takeMicRead, takeBind, takeScoreSet,
      takeLaneRead, takeBandMap, takeRowPlace, takePalette, takeBannerSet, takeGlyphLoad, takeGlyphDrop, takeGlyphClear,
      takeCompositorRead, accept, refuse]
    repeat' split
    all_goals simp

/-! ### Events that keep the images -/

theorem images_completeValidation (n : SlotName) : (completeValidation s n).images = s.images := by
  unfold completeValidation
  simp only
  split
  · simp only [images_autoAdvance, images_raise]
    split <;> exact images_setSlot rfl
  · rfl

theorem images_transportBlock : (transportBlock s).images = s.images := by
  unfold transportBlock
  simp only
  repeat' split
  all_goals simp

theorem images_blockEvent (x : BlockInput) : (blockEvent x s).images = s.images := by
  have records : (recordsTaken x s).images = s.images := by simpa [State.images] using images_transportBlock s
  have finished : (s.tr.finishOwed (recordsTaken x s)).images = s.images := by
    rcases finishOwed_cases s.tr (recordsTaken x s) with ⟨k, _, _, h⟩ | ⟨_, h⟩ <;> simp [h, records]
  simpa [State.images] using finished

theorem images_goodCompletion (i : Fin 8) (r : UplinkRecord) : (s.goodCompletion i r).images = s.images := by
  unfold State.goodCompletion State.filterRecord
  simp only
  repeat' split
  all_goals simp [images_takeRequest, images_takeWithdraw]

theorem images_completeExchange (ex : Exchange) (r : Reception) : (s.completeExchange ex r).images = s.images := by
  unfold State.completeExchange
  repeat' split
  all_goals simp [images_goodCompletion, (sameQueue_joinFrame s ex _).images]

theorem images_frameStart : (frameStart s).images = s.images := by
  have rows : s.settleRows.images = s.images := by
    unfold State.settleRows
    split <;> rfl
  simpa [State.images, frameStart] using rows

end

/-! ### The two messages that write an image -/

section
variable {s : State} (h : s.imagesCanonical)
include h

theorem imagesCanonical_takeSlotOpen (slot id size : Nat) : (takeSlotOpen s slot id size).state.imagesCanonical := by
  unfold takeSlotOpen
  split
  · exact h
  · next n _ =>
    split_ifs
    · exact h
    · exact h
    · split
      · exact h
      · split_ifs
        · exact h
        · exact imagesCanonical_setSlot h n (memClearBelow_wf _ size (h.slot n))

theorem imagesCanonical_takeSlotData (slot offset : Nat) (data : List Byte) :
    (takeSlotData s slot offset data).state.imagesCanonical := by
  unfold takeSlotData
  split
  · exact h
  · next n _ =>
    simp only
    split_ifs with _ _ hrange
    · exact h
    · exact h
    · exact h
    · exact imagesCanonical_setSlot h n (memWriteList_wf data _ offset (h.slot n) (by omega))

theorem imagesCanonical_handle (r : Request) : (handle s r).state.imagesCanonical := by
  cases r with
  | slotOpen n i z => exact imagesCanonical_takeSlotOpen h ..
  | slotData n o d => exact imagesCanonical_takeSlotData h ..
  | _ => exact h.congr (images_handle s _ nofun nofun)

end

/-- Settles O39: SLOT_OPEN clears bytes and SLOT_DATA writes within the memory; everything else keeps the images. -/
theorem imagesStayCanonical : Obligations.ImagesStayCanonical := by
  have kept : KeptByBlocks State.imagesCanonical :=
    { waits := fun _ _ h => h
      link := fun _ _ h => h
      attention := fun _ _ h => h
      counts := fun _ _ _ h => h
      poweredUp := fun _ _ _ => reset_images_wf
      resetAsserted := fun _ h => h
      request := fun _ r h => imagesCanonical_handle h r
      softReset := fun _ h => h
      validation := fun s n h => h.congr (images_completeValidation s n)
      block := fun s x h => h.congr (images_blockEvent s x)
      bus := fun _ _ _ h => h
      exchange := fun s ex r h => h.congr (images_completeExchange s ex r)
      frame := fun s h => h.congr (images_frameStart s)
      inputFrame := fun _ _ h => h }
  exact fun _ _ hs h => kept.stepped hs h

end Sys2Proof.Machine

namespace Sys2Proof.Machine

/-! ## The Song Store's messages (R53 to R56, R66, R67)

Each owner's function first, branch by branch; then the messages that bring it. -/

/-- The slot byte of a slot (R212). -/
def slotByte : SlotName → Byte
  | .a => 0
  | .b => 1

@[simp] theorem slotNamed_slotByte (n : SlotName) : slotNamed (slotByte n).toNat = some n := by cases n <;> rfl

theorem slotNamed_bad {b : Byte} (h : 1 < b.toNat) : slotNamed b.toNat = none := by
  unfold slotNamed
  split
  · omega
  · omega
  · rfl

/-- A slot, its entry's state and QUEUE_CHANGED written together, field by field. -/
theorem setSlot_setEntryState_raise (s : State) (n : SlotName) (x : Slot) (id : Nat) (st : EntryState) (m : Member) :
    ((s.setSlot n x).setEntryState id st).raise m = State.setSlot { s with
      rq := { s.rq with entries := s.rq.entries.map fun e => if e.id = id then { e with state := st } else e }
      att := s.att.raise m } n x := by
  cases n <;> rfl

/-! ### SLOT_OPEN (R53) -/

/-- A slot claimed for an entry with a declared size (R53). -/
def Slot.claimed (x : Slot) (id size : Nat) : Slot :=
  ⟨.filling, some ⟨id, size⟩, 0, memClearBelow x.image size, ⟨.none, .none, 0⟩⟩

section
variable {s : State} {n : SlotName} {id size : Nat}

theorem takeSlotOpen_size (slot : Nat) (h : size < 64 ∨ 262144 < size) : takeSlotOpen s slot id size = refuse s .badValue := by
  unfold takeSlotOpen
  split
  · rfl
  · exact if_pos h

variable (hsize : ¬ (size < 64 ∨ 262144 < size))
include hsize

theorem takeSlotOpen_busy (h : (s.slot n).state ≠ .empty) : takeSlotOpen s (slotByte n).toNat id size = refuse s .busy := by
  simp only [takeSlotOpen, slotNamed_slotByte, imageBytes, if_neg hsize, if_pos h]

theorem takeSlotOpen_unknown (h : (s.slot n).state = .empty) (he : findEntry s.rq.entries id = none) :
    takeSlotOpen s (slotByte n).toNat id size = refuse s .notFound := by
  simp only [takeSlotOpen, slotNamed_slotByte, imageBytes, if_neg hsize, if_neg (not_not.2 h), he]

theorem takeSlotOpen_found {e : Entry} (h : (s.slot n).state = .empty) (he : findEntry s.rq.entries id = some e) :
    takeSlotOpen s (slotByte n).toNat id size = if e.state ≠ .ready then refuse s .badState else
      accept (((s.setSlot n ((s.slot n).claimed id size)).setEntryState id .loading).raise .queueChanged)
        (n16 (requiredGranules size)) := by
  simp only [takeSlotOpen, slotNamed_slotByte, imageBytes, if_neg hsize, if_neg (not_not.2 h), he]
  rfl

end

/-- Settles O33. -/
theorem slotOpenClaimsSlot : Obligations.SlotOpenClaimsSlot := by
  intro s tag slot id size hlink m
  have sent {s' : State} {code : ResultCode} {data : List Byte}
      (ha : takeSlotOpen s slot.toNat id.toNat size.toNat = ⟨s', code, data⟩) (hs : s'.link = s.link) :
      exec (.slotOpen tag slot id size) s = .next (s'.answered m code data) :=
    sendRequest_taken s tag (.slotOpen slot id size) s' code data hlink nofun rfl (by simp [Request.payload, le32_length]) ha hs
  refine ⟨fun hbad => sent ?_ rfl, fun n hslot hlo hhi => ?_⟩
  · by_cases hslot : 1 < slot.toNat
    · simp only [takeSlotOpen, slotNamed_bad hslot]
      rfl
    · exact takeSlotOpen_size _ (hbad.resolve_left hslot)
  · obtain rfl : slot = slotByte n := hslot
    have hsize : ¬ (size.toNat < 64 ∨ 262144 < size.toNat) := by omega
    refine ⟨fun hbusy => sent (takeSlotOpen_busy hsize hbusy) rfl,
      fun hempty hnone => sent (takeSlotOpen_unknown hsize hempty hnone) rfl,
      fun hempty e he => ⟨fun hready => ?_, fun hready => ?_⟩⟩
    · exact sent ((takeSlotOpen_found hsize hempty he).trans (if_pos hready)) rfl
    · refine ⟨_, memRead_memClearBelow (s.slot n).image size.toNat, sent ?_ (State.setSlot_link ..)⟩
      rw [takeSlotOpen_found hsize hempty he, if_neg (not_not.2 hready), setSlot_setEntryState_raise]
      rfl

/-! ### SLOT_DATA (R54) -/

/-- Marking granules sets the marks of a run of them and no other (R50). -/
theorem markGranules_getLsbD (c : BitVec 1024) (first n : Nat) {g : Nat} (hg : g < 1024) :
    (markGranules c first n).getLsbD g = (c.getLsbD g || (decide (first ≤ g) && decide (g < first + n))) := by
  have single (k : Nat) : (1#1024 <<< (first + k)).getLsbD g = decide (g = first + k) := by
    rw [BitVec.getLsbD_shiftLeft, BitVec.getLsbD_one]
    grind
  unfold markGranules
  induction n with
  | zero => grind
  | succ n ih =>
    rw [List.range_succ, List.foldl_append, List.foldl_cons, List.foldl_nil, BitVec.getLsbD_or, ih, single]
    grind

/-- A slot with bytes written from an offset on and their granules marked (R54). -/
def Slot.taking (x : Slot) (offset : Nat) (data : List Byte) : Slot :=
  { x with
    image := memWriteList x.image offset data
    coverage := markGranules x.coverage (offset / 256) ((data.length + 255) / 256) }

section
variable {s : State} {n : SlotName} {offset : Nat} {data : List Byte}

theorem takeSlotData_sealing (h : (s.slot n).state = .sealing) :
    takeSlotData s (slotByte n).toNat offset data = refuse s .busy := by
  simp only [takeSlotData, slotNamed_slotByte, if_pos h]

theorem takeSlotData_other (h : (s.slot n).state ≠ .sealing) (hf : (s.slot n).state ≠ .filling) :
    takeSlotData s (slotByte n).toNat offset data = refuse s .badState := by
  simp only [takeSlotData, slotNamed_slotByte, if_neg h, if_pos hf]

theorem Slot.size_held {x : Slot} {y : Held} (h : x.held = some y) : x.size = y.size := by simp [Slot.size, h]

theorem takeSlotData_filling {y : Held} (h : (s.slot n).state = .filling) (hy : (s.slot n).held = some y)
    (hsize : y.size ≤ 262144) : takeSlotData s (slotByte n).toNat offset data =
      if offset % 256 ≠ 0 ∨ y.size < offset + data.length then refuse s .badValue else
        accept (s.setSlot n ((s.slot n).taking offset data))
          (n16 ((s.slot n).taking offset data).covered.length ++ n16 ((s.slot n).taking offset data).missing.length) := by
  have hne : (s.slot n).state ≠ .sealing := by simp [h]
  simp only [takeSlotData, slotNamed_slotByte, if_neg hne, if_neg (not_not.2 h), Slot.size_held hy, imageBytes,
    Nat.min_eq_left hsize]
  rfl

end

/-- Settles O34: the bytes by `memRead_memWriteList`, the marks by `markGranules_getLsbD`. -/
theorem slotDataWritesChunk : Obligations.SlotDataWritesChunk := by
  have sent {s s' : State} {tag slot : Byte} {offset : Word} {data : List Byte} {code : ResultCode} {reply : List Byte}
      (hlink : LinkFree s) (h1 : 1 ≤ data.length) (h1024 : data.length ≤ 1024)
      (ha : takeSlotData s slot.toNat offset.toNat data = ⟨s', code, reply⟩) (hs : s'.link = s.link) :
      exec (.slotData tag slot offset data) s = .next (s'.answered
        ⟨0x21, tag, [slot] ++ le32 offset ++ le16 (BitVec.ofNat 16 data.length) ++ data⟩ code reply) := by
    refine sendRequest_taken s tag (.slotData slot offset data) s' code reply hlink nofun ?_ ?_ ha hs
    · simp [Request.keepsLength, h1, h1024]
    · simp only [Request.payload, List.length_append, List.length_singleton, le32_length, le16_length]
      omega
  refine ⟨fun s tag slot offset data hlink h1 h1024 hslot => sent hlink h1 h1024 ?_ rfl,
    fun s tag slot offset data n hlink h1 h1024 hslot => ?_⟩
  · simp only [takeSlotData, slotNamed_bad hslot]
    rfl
  · obtain rfl : slot = slotByte n := hslot
    refine ⟨fun hs => sent hlink h1 h1024 (takeSlotData_sealing hs) rfl,
      fun hs hf => sent hlink h1 h1024 (takeSlotData_other hs hf) rfl, fun y hf hy hsize => ?_⟩
    have taken := takeSlotData_filling (offset := offset.toNat) (data := data) hf hy hsize
    refine ⟨fun hbad => sent hlink h1 h1024 (taken.trans (if_pos hbad)) rfl, fun hwf hoffset hfits => ?_⟩
    have hgood : ¬ (offset.toNat % 256 ≠ 0 ∨ y.size < offset.toNat + data.length) := by omega
    refine ⟨_, markGranules (s.slot n).coverage (offset.toNat / 256) ((data.length + 255) / 256), 
      fun a => memRead_memWriteList data _ _ a hwf (by rw [imageBytes]; omega), fun g hg => ?_,
      sent hlink h1 h1024 ((taken.trans (if_neg hgood)).trans ?_) (State.setSlot_link ..)⟩
    · rw [markGranules_getLsbD _ _ _ hg]
      congr 2
      exact decide_eq_decide.2 (by omega)
    · have hheld : ((s.slot n).taking offset.toNat data).held = some y := hy
      simp only [Slot.covered, Slot.missing, Slot.size_held hheld]
      rfl

end Sys2Proof.Machine

namespace Sys2Proof.Machine

/-! ### SLOT_SEAL (R55, R56) -/

section
variable {s : State} {n : SlotName}

theorem takeSlotSeal_other (h : (s.slot n).state ≠ .filling) : takeSlotSeal s (slotByte n).toNat = refuse s .badState := by
  simp only [takeSlotSeal, slotNamed_slotByte, if_pos h]

theorem takeSlotSeal_covered (h : (s.slot n).state = .filling) (hm : (s.slot n).missing = []) :
    takeSlotSeal s (slotByte n).toNat = accept (s.setSlot n { s.slot n with state := .sealing }) [] := by
  simp only [takeSlotSeal, slotNamed_slotByte, if_neg (not_not.2 h), hm]

theorem takeSlotSeal_incomplete {g : Nat} {rest : List Nat} (h : (s.slot n).state = .filling)
    (hm : (s.slot n).missing = g :: rest) : takeSlotSeal s (slotByte n).toNat =
      ⟨s.setSlot n { s.slot n with fault := ⟨.incomplete, .none, g⟩ }, .incomplete, n16 (rest.length + 1) ++ n16 g⟩ := by
  simp only [takeSlotSeal, slotNamed_slotByte, if_neg (not_not.2 h), hm]

end

/-- Settles O35. -/
theorem slotSealBeginsValidation : Obligations.SlotSealBeginsValidation := by
  have sent {s s' : State} {tag slot : Byte} {code : ResultCode} {data : List Byte} (hlink : LinkFree s)
      (ha : takeSlotSeal s slot.toNat = ⟨s', code, data⟩) (hs : s'.link = s.link) :
      exec (.slotSeal tag slot) s = .next (s'.answered ⟨0x22, tag, [slot]⟩ code data) :=
    sendRequest_taken s tag (.slotSeal slot) s' code data hlink nofun rfl (by simp [Request.payload]) ha hs
  refine ⟨fun s tag slot hlink hslot => sent hlink (by simp only [takeSlotSeal, slotNamed_bad hslot]; rfl) rfl,
    fun s tag slot n hlink hslot => ?_⟩
  obtain rfl : slot = slotByte n := hslot
  refine ⟨fun hother => sent hlink (takeSlotSeal_other hother) rfl, fun y hf hy => ?_⟩
  intro missing
  have hmissing : (s.slot n).missing = missing := by
    rw [Slot.missing, Slot.size_held hy]
    rfl
  refine ⟨fun hnone => sent hlink (takeSlotSeal_covered hf (hmissing.trans hnone)) (State.setSlot_link ..), fun g hg => ?_⟩
  obtain ⟨rest, hrest⟩ := List.head?_eq_some_iff.1 hg
  rw [hrest]
  exact sent hlink (takeSlotSeal_incomplete hf (hmissing.trans hrest)) (State.setSlot_link ..)

/-! ### SLOT_DISCARD (R66) -/

section
variable {s : State} {n : SlotName}

theorem takeSlotDiscard_active (h : (s.slot n).state = .active) :
    takeSlotDiscard s (slotByte n).toNat = refuse s .badState := by
  simp only [takeSlotDiscard, slotNamed_slotByte, h]

theorem takeSlotDiscard_empty (h : (s.slot n).state = .empty) : takeSlotDiscard s (slotByte n).toNat = accept s [] := by
  simp only [takeSlotDiscard, slotNamed_slotByte, h]

theorem takeSlotDiscard_held {y : Held}
    (h : (s.slot n).state = .filling ∨ (s.slot n).state = .sealing ∨ (s.slot n).state = .staged)
    (hy : (s.slot n).held = some y) : takeSlotDiscard s (slotByte n).toNat =
      accept (((s.setSlot n (s.slot n).emptied).setEntryState y.entryId .ready).raise .queueChanged) [] := by
  rcases h with h | h | h <;> simp only [takeSlotDiscard, slotNamed_slotByte, h, hy]

end

/-! ### SLOT_READ (R67, R214) -/

/-- The image's header as SLOT_READ sends it: zeros unless the slot is STAGED or ACTIVE (R67). -/
def slotReadingHeader (x : Slot) : List Byte :=
  if x.state = .staged ∨ x.state = .active then
    n32 (imgSong x.image) ++ (n32 (imgDuration x.image) ++ (n8 (imgParts x.image) ++ (n16 (imgLines x.image) ++
      (n16 (imgSyllables x.image) ++ partNumbers.flatMap fun p => n16 (imgNotes x.image p)))))
  else List.replicate 21 0

/-- The bytes of a SLOT_READ's reply data: 21 of the slot, then 21 of the image's header (R214). -/
def slotReading (x : Slot) : List Byte :=
  n8 x.state.value ++ (n8 ((x.held.map (·.entryId)).getD 0) ++ (n32 x.size ++ (n16 (requiredGranules x.size) ++
    (n16 x.covered.length ++ (n16 (x.missing.head?.getD 0xFFFF) ++ (n8 x.fault.code.value ++
      (n8 x.fault.locus.values.1 ++ (n8 x.fault.locus.values.2.1 ++ (n16 x.fault.locus.values.2.2 ++
        (n32 x.fault.value ++ slotReadingHeader x))))))))))

theorem slotReading_length (x : Slot) : (slotReading x).length = 42 := by
  have : (slotReading x).length = (slotReadingHeader x).length + 21 := rfl
  rw [this, slotReadingHeader]
  split <;> rfl

theorem slotReading_header (x : Slot) (j : Nat) : u8 (slotReading x) (j + 21) = u8 (slotReadingHeader x) j := rfl

theorem takeSlotRead_eq (s : State) (n : SlotName) :
    takeSlotRead s (slotByte n).toNat = accept s (slotReading (s.slot n)) := by
  simp only [takeSlotRead, slotNamed_slotByte, slotReading, slotReadingHeader, List.append_assoc]

/-- The first missing granule is the first that the search for an unmarked one finds. -/
theorem Slot.missing_head (x : Slot) : x.missing.head? =
    (List.range (((x.held.map (·.size)).getD 0 + 255) / 256)).find? fun g => !x.coverage.getLsbD g := List.head?_filter ..

/-- The fields of the image's header of a STAGED or ACTIVE slot (R67, R214). -/
theorem slotReading_image {x : Slot} (h : x.state = .staged ∨ x.state = .active) :
    u32 (slotReading x) 21 = BitVec.ofNat 32 (imgSong x.image) ∧ u32 (slotReading x) 25 = BitVec.ofNat 32 (imgDuration x.image) ∧
      u8 (slotReading x) 29 = BitVec.ofNat 8 (imgParts x.image) ∧ u16 (slotReading x) 30 = BitVec.ofNat 16 (imgLines x.image) ∧
      u16 (slotReading x) 32 = BitVec.ofNat 16 (imgSyllables x.image) ∧
      ∀ p : Fin 4, u16 (slotReading x) (34 + 2 * p.val) = BitVec.ofNat 16 (imgNotes x.image (p.val + 1)) := by
  rw [slotReading, slotReadingHeader, if_pos h]
  exact ⟨join32 _, join32 _, rfl, join16 _, join16 _, fun p => by fin_cases p <;> exact join16 _⟩

/-- Settles O36: the fields of `slotReading` are read back at their places, the image's header by `slotReading_image`. -/
theorem slotDiscardAndRead : Obligations.SlotDiscardAndRead := by
  have discarded {s s' : State} {tag slot : Byte} {code : ResultCode} {data : List Byte} (hlink : LinkFree s)
      (ha : takeSlotDiscard s slot.toNat = ⟨s', code, data⟩) (hs : s'.link = s.link) :
      exec (.slotDiscard tag slot) s = .next (s'.answered ⟨0x23, tag, [slot]⟩ code data) :=
    sendRequest_taken s tag (.slotDiscard slot) s' code data hlink nofun rfl (by simp [Request.payload]) ha hs
  have read {s : State} {tag slot : Byte} {code : ResultCode} {data : List Byte} (hlink : LinkFree s)
      (ha : takeSlotRead s slot.toNat = ⟨s, code, data⟩) :
      exec (.slotRead tag slot) s = .next (s.answered ⟨0x24, tag, [slot]⟩ code data) :=
    sendRequest_taken s tag (.slotRead slot) s code data hlink nofun rfl (by simp [Request.payload]) ha rfl
  refine ⟨fun s tag slot hlink hslot => ⟨discarded hlink ?_ rfl, read hlink ?_⟩, fun s tag slot n hlink hslot => ?_⟩
  · simp only [takeSlotDiscard, slotNamed_bad hslot]
    rfl
  · simp only [takeSlotRead, slotNamed_bad hslot]
    rfl
  · obtain rfl : slot = slotByte n := hslot
    intro x required
    refine ⟨fun h => discarded hlink (takeSlotDiscard_active h) rfl, fun h => discarded hlink (takeSlotDiscard_empty h) rfl,
      fun y h hy => discarded hlink ?_ (State.setSlot_link ..), _, read hlink (takeSlotRead_eq s n), ?_, ?_⟩
    · rw [takeSlotDiscard_held h hy, setSlot_setEntryState_raise]
      rfl
    · exact slotReading_length _
    · refine ⟨?_, rfl, join32 _, join16 _, join16 _, (join16 _).trans (by rw [Slot.missing_head]), ?_, ?_, ?_,
        (join16 _).trans ?_, join32 _, slotReading_image, fun hst hact k hk _ => ?_⟩
      · change BitVec.ofNat 8 x.state.value = _
        cases x.state <;> rfl
      · change BitVec.ofNat 8 x.fault.code.value = _
        cases x.fault.code <;> rfl
      · change BitVec.ofNat 8 x.fault.locus.values.1 = _
        cases x.fault.locus <;> rfl
      · change BitVec.ofNat 8 x.fault.locus.values.2.1 = _
        cases x.fault.locus <;> rfl
      · cases x.fault.locus <;> rfl
      · obtain ⟨j, rfl⟩ := Nat.exists_eq_add_of_le' hk
        rw [slotReading_header, slotReadingHeader, if_neg (not_or.2 ⟨hst, hact⟩), u8_replicate_zero]

/-! ## The end of a validation (R58, R64, R65) -/

theorem findSome?_id_cons {α : Type} (a : Option α) (l : List (Option α)) :
    (a :: l).findSome? id = (a <|> l.findSome? id) := by cases a <;> rfl

/-- The first fault of the six checks in their order decides (R58). -/
theorem validationFault_eq (m : ImageMemory) (size song : Nat) (g : GlyphStore) : validationFault m size song g =
    [checkFormat m, checkSong m song, checkCount m size, checkRange m, checkOrder m, checkGlyphs m g].findSome? id := by
  have last : [checkGlyphs m g].findSome? id = checkGlyphs m g := by cases checkGlyphs m g <;> rfl
  simp only [findSome?_id_cons _ (_ :: _), last, validationFault]

theorem completeValidation_other {s : State} {n : SlotName} (h : (s.slot n).state ≠ .sealing) : completeValidation s n = s := by
  unfold completeValidation
  simp only
  split
  · next hs _ => exact absurd hs h
  · rfl

section
variable {s : State} {n : SlotName} {y : Held} (h : (s.slot n).state = .sealing) (hy : (s.slot n).held = some y)
include h hy

theorem completeValidation_passed (hv : validationFault (s.slot n).image y.size (heldSong s y) s.cmp.glyphs = none) :
    completeValidation s n = ((((s.setSlot n { s.slot n with state := .staged }).setEntryState y.entryId .staged).raise
      .slotDone).raise .queueChanged).autoAdvance := by
  simp only [completeValidation, h, hy, hv]

theorem completeValidation_failed {f : FaultRecord}
    (hv : validationFault (s.slot n).image y.size (heldSong s y) s.cmp.glyphs = some f) :
    completeValidation s n = ((((s.setSlot n { (s.slot n).emptied with fault := f }).setEntryState y.entryId .ready).raise
      .slotDone).raise .queueChanged).autoAdvance := by
  simp only [completeValidation, h, hy, hv]

end

/-- Settles O37. -/
theorem validationCompletes : Obligations.ValidationCompletes := by
  intro s n hawake
  have completes : exec (.validationCompletion n) s = .next (chooseNext (completeValidation s n)) :=
    arrival_awake (completeValidation · n) s hawake
  refine ⟨fun hother => by rw [completes, completeValidation_other hother], fun y hs hy => ?_⟩
  intro x song after found
  have hafter (x' : Slot) (e' : EntryState) : ((((s.setSlot n x').setEntryState y.entryId e').raise .slotDone).raise
      .queueChanged).autoAdvance = after x' e' := by
    rw [setSlot_setEntryState_raise]
    cases n <;> rfl
  have hfault : validationFault x.image y.size (heldSong s y) s.cmp.glyphs = found.findSome? id := validationFault_eq ..
  refine ⟨fun hnone => ?_, fun f hf => ?_⟩
  · have hpassed := hfault.trans (List.findSome?_eq_none_iff.2 hnone)
    rw [completes, completeValidation_passed hs hy hpassed, hafter]
  · rw [completes, completeValidation_failed hs hy (hfault.trans hf), hafter]
    rfl

end Sys2Proof.Machine

namespace Sys2Proof.Machine

/-! ## What the checks of validation say (R59 to R63) -/

/-! ### Searches for a fault -/

theorem firstFailing_eq_none {fields : List (Bool × Nat)} : firstFailing fields = none ↔ ∀ f ∈ fields, f.1 = true := by
  simp [firstFailing]

theorem maskOk_iff {parts mask : Nat} : maskOk parts mask = true ↔ 0 < mask ∧ mask < 2 ^ parts := by simp [maskOk]

theorem mem_partNumbers {p : Nat} : p ∈ partNumbers ↔ 1 ≤ p ∧ p ≤ 4 := by
  simp only [partNumbers, List.mem_cons, List.not_mem_nil, or_false]
  omega

/-- A search over the records of an image finds no fault exactly when every record passes its test (R58). -/
theorem firstRecordFault_eq_none {m : ImageMemory} {code : FaultCode} {onLine onSyllable : Nat → Option Nat}
    {onNote : Nat → Nat → Option Nat} : firstRecordFault m code onLine onSyllable onNote = none ↔
      (∀ i < imgLines m, onLine i = none) ∧ (∀ j < imgSyllables m, onSyllable j = none) ∧
        ∀ p, 1 ≤ p → p ≤ 4 → ∀ i < imgNotes m p, onNote p i = none := by
  simp only [firstRecordFault, Option.orElse_eq_none, List.findSome?_eq_none_iff, List.mem_range, Option.map_eq_none_iff,
    mem_partNumbers, and_imp]

/-! ### Checks 1 to 3 and 6 (R60, R63) -/

/-- The notes before part 5 are those of all four parts. -/
theorem imgNotesBefore_five (m : ImageMemory) :
    imgNotesBefore m 5 = imgNotes m 1 + imgNotes m 2 + imgNotes m 3 + imgNotes m 4 := by
  simp [imgNotesBefore, List.range_succ, Nat.add_assoc]

theorem checkGlyphs_eq_none {m : ImageMemory} {g : GlyphStore} : checkGlyphs m g = none ↔
    ∀ j < imgSyllables m, ∀ c ∈ (syllableAt m j).run, glyphOf g c ≠ none := by
  simp [checkGlyphs]

/-! ### Check 4: the field ranges (R61) -/

section
variable {m : ImageMemory}

theorem headerRange_eq_none : headerRange m = none ↔
    (1 ≤ imgParts m ∧ imgParts m ≤ 4) ∧ (1 ≤ imgLines m ∧ imgLines m ≤ 512) ∧
      (1 ≤ imgSyllables m ∧ imgSyllables m ≤ 4096) ∧
      (∀ p ∈ partNumbers, imgNotes m p ≤ 2048 ∧ (imgParts m < p → imgNotes m p = 0)) ∧
      (1 ≤ imgSong m ∧ imgSong m ≤ 999999) ∧ (1000 ≤ imgDuration m ∧ imgDuration m ≤ 1200000) ∧
      imgNotesBefore m 5 ≤ 4096 := by
  simp only [headerRange, firstFailing_eq_none, List.forall_mem_append, List.forall_mem_cons, List.forall_mem_map,
    List.not_mem_nil, false_imp_iff, implies_true, and_true, decide_eq_true_eq, and_assoc]

theorem lineRange_eq_none {i : Nat} : lineRange m i = none ↔
    (lineAt m i).hint ≤ 3 ∧ (0 < (lineAt m i).mask ∧ (lineAt m i).mask < 2 ^ imgParts m) ∧
      (lineAt m i).first < imgSyllables m ∧ (1 ≤ (lineAt m i).count ∧ (lineAt m i).count ≤ 32) ∧
      (lineAt m i).first + (lineAt m i).count ≤ imgSyllables m := by
  simp [lineRange, firstFailing_eq_none, maskOk_iff]

theorem syllableRange_eq_none {j : Nat} : syllableRange m j = none ↔
    (syllableAt m j).start ≤ 1200000 ∧ (1 ≤ (syllableAt m j).duration ∧ (syllableAt m j).duration ≤ 60000) ∧
      (0 < (syllableAt m j).mask ∧ (syllableAt m j).mask < 2 ^ imgParts m) ∧
      (1 ≤ (syllableAt m j).runLength ∧ (syllableAt m j).runLength ≤ 16) ∧
      ∀ c ∈ (syllableAt m j).run, 1 ≤ c ∧ c ≤ 4095 := by
  simp [syllableRange, firstFailing_eq_none, maskOk_iff, or_imp, forall_and]

theorem noteRange_eq_none {p i : Nat} : noteRange m p i = none ↔
    (noteAt m p i).start ≤ 1200000 ∧ (1 ≤ (noteAt m p i).duration ∧ (noteAt m p i).duration ≤ 60000) ∧
      (noteAt m p i).code ≤ 63 ∧ (noteAt m p i).unscored ≤ 1 := by
  simp [noteRange, firstFailing_eq_none]

theorem checkRange_eq_none : checkRange m = none ↔ headerRange m = none ∧
    (∀ i < imgLines m, lineRange m i = none) ∧ (∀ j < imgSyllables m, syllableRange m j = none) ∧
      ∀ p, 1 ≤ p → p ≤ 4 → ∀ i < imgNotes m p, noteRange m p i = none := by
  simp only [checkRange, Option.orElse_eq_none, Option.map_eq_none_iff, firstRecordFault_eq_none]

end

/-! ### Check 5: order and timing (R62) -/

section
variable {m : ImageMemory}

theorem checkOrder_eq_none : checkOrder m = none ↔ (∀ i < imgLines m, lineOrdered m i = true) ∧
    (∀ j < imgSyllables m, syllableOrdered m j = true) ∧
    ∀ p, 1 ≤ p → p ≤ 4 → ∀ i < imgNotes m p, noteOrdered m p i = true := by
  simp [checkOrder, firstRecordFault_eq_none]

theorem lineOrdered_zero : lineOrdered m 0 = true ↔ (lineAt m 0).first = 0 ∧
    (1 < imgLines m ∨ (lineAt m 0).first + (lineAt m 0).count = imgSyllables m) := by simp [lineOrdered]

theorem lineOrdered_succ (i : Nat) : lineOrdered m (i + 1) = true ↔
    ((lineAt m (i + 1)).first = (lineAt m i).first + (lineAt m i).count ∧ lineStart m i ≤ lineStart m (i + 1)) ∧
      (i + 2 < imgLines m ∨ (lineAt m (i + 1)).first + (lineAt m (i + 1)).count = imgSyllables m) := by simp [lineOrdered]

/-- The lines take the syllables in turn: the first line from syllable 0 on, each line from where the line before it ends,
the last line to the last syllable (R62). -/
structure linesInTurn (m : ImageMemory) : Prop where
  first : (lineAt m 0).first = 0
  next : ∀ i, i + 1 < imgLines m → (lineAt m (i + 1)).first = (lineAt m i).first + (lineAt m i).count
  last : (lineAt m (imgLines m - 1)).first + (lineAt m (imgLines m - 1)).count = imgSyllables m

/-- The conditions of R62 on lines, over all of them. -/
theorem lines_ordered_iff (h : 1 ≤ imgLines m) : (∀ i < imgLines m, lineOrdered m i = true) ↔
    linesInTurn m ∧ ∀ i, i + 1 < imgLines m → lineStart m i ≤ lineStart m (i + 1) := by
  constructor
  · intro ho
    have hsucc (i : Nat) (hi : i + 1 < imgLines m) := (lineOrdered_succ i).1 (ho (i + 1) hi)
    obtain ⟨hfirst, hone⟩ := lineOrdered_zero.1 (ho 0 h)
    refine ⟨⟨hfirst, fun i hi => (hsucc i hi).1.1, ?_⟩, fun i hi => (hsucc i hi).1.2⟩
    obtain ⟨k, hk⟩ := Nat.exists_eq_add_of_le' h
    rw [hk, Nat.add_sub_cancel]
    cases k with
    | zero => exact hone.resolve_left (by omega)
    | succ k => exact (hsucc k (by omega)).2.resolve_left (by omega)
  · rintro ⟨turn, hstart⟩ i hi
    have atEnd : i + 1 < imgLines m ∨ (lineAt m i).first + (lineAt m i).count = imgSyllables m := by
      rcases Nat.lt_or_ge (i + 1) (imgLines m) with hlt | hge
      · exact .inl hlt
      · have := turn.last
        rw [show imgLines m - 1 = i by omega] at this
        exact .inr this
    cases i with
    | zero => exact lineOrdered_zero.2 ⟨turn.first, atEnd⟩
    | succ i => exact (lineOrdered_succ i).2 ⟨⟨turn.next i hi, hstart i hi⟩, atEnd⟩

theorem startsLine_iff {j : Nat} : startsLine m j = true ↔ ∃ i < imgLines m, (lineAt m i).first = j := by simp [startsLine]

/-- A later line takes its syllables past an earlier one's. -/
theorem linesInTurn.first_ge (h : linesInTurn m) {i k : Nat} (hik : i < k) (hk : k < imgLines m) :
    (lineAt m i).first + (lineAt m i).count ≤ (lineAt m k).first := by
  induction k with
  | zero => omega
  | succ k ih =>
    rw [h.next k hk]
    rcases Nat.lt_succ_iff_lt_or_eq.1 hik with hlt | rfl
    · exact Nat.le_add_right_of_le (ih hlt (by omega))
    · exact Nat.le_refl _

/-- Only a line's own first syllable starts a line among the line's syllables. -/
theorem linesInTurn.not_startsLine (h : linesInTurn m) {i j : Nat} (hi : i < imgLines m) (hlo : (lineAt m i).first < j)
    (hhi : j < (lineAt m i).first + (lineAt m i).count) : startsLine m j = false := by
  rw [Bool.eq_false_iff, Ne, startsLine_iff]
  rintro ⟨k, hk, rfl⟩
  rcases Nat.lt_trichotomy i k with hik | rfl | hki
  · have := h.first_ge hik hk
    omega
  · omega
  · have := h.first_ge hki hi
    omega

/-- Every syllable is one of some line's. -/
theorem linesInTurn.line_of_syllable (h : linesInTurn m) (hlines : 1 ≤ imgLines m) {j : Nat} (hj : j < imgSyllables m) :
    ∃ i < imgLines m, (lineAt m i).first ≤ j ∧ j < (lineAt m i).first + (lineAt m i).count := by
  have upTo (n : Nat) (hn : n < imgLines m) (hjn : j < (lineAt m n).first + (lineAt m n).count) :
      ∃ i < imgLines m, (lineAt m i).first ≤ j ∧ j < (lineAt m i).first + (lineAt m i).count := by
    induction n with
    | zero => exact ⟨0, hn, h.first.trans_le (Nat.zero_le j), hjn⟩
    | succ n ih =>
      by_cases hlo : (lineAt m (n + 1)).first ≤ j
      · exact ⟨n + 1, hn, hlo, hjn⟩
      · exact ih (by omega) (by rw [← h.next n hn]; omega)
  exact upTo (imgLines m - 1) (by omega) (by rwa [h.last])

theorem syllableOrdered_iff {j : Nat} : syllableOrdered m j = true ↔
    (startsLine m j = true ∨ (syllableAt m (j - 1)).stop ≤ (syllableAt m j).start) ∧
      (syllableAt m j).stop ≤ imgDuration m := by simp [syllableOrdered]

/-- The conditions of R62 on syllables, over all of them, where the lines take them in turn. -/
theorem syllables_ordered_iff (h : linesInTurn m) (hlines : 1 ≤ imgLines m)
    (hfits : ∀ i < imgLines m, (lineAt m i).first + (lineAt m i).count ≤ imgSyllables m) :
    (∀ j < imgSyllables m, syllableOrdered m j = true) ↔
      (∀ i < imgLines m, ∀ j, (lineAt m i).first ≤ j → j + 1 < (lineAt m i).first + (lineAt m i).count →
        (syllableAt m j).stop ≤ (syllableAt m (j + 1)).start) ∧
      ∀ j < imgSyllables m, (syllableAt m j).stop ≤ imgDuration m := by
  constructor
  · intro ho
    refine ⟨fun i hi j hlo hhi => ?_, fun j hj => (syllableOrdered_iff.1 (ho j hj)).2⟩
    have hj : j + 1 < imgSyllables m := Nat.lt_of_lt_of_le hhi (hfits i hi)
    refine (syllableOrdered_iff.1 (ho (j + 1) hj)).1.resolve_left ?_
    rw [h.not_startsLine hi (Nat.lt_succ_of_le hlo) hhi]
    nofun
  · rintro ⟨hafter, hend⟩ j hj
    refine syllableOrdered_iff.2 ⟨?_, hend j hj⟩
    obtain ⟨i, hi, hlo, hhi⟩ := h.line_of_syllable hlines hj
    rcases Nat.eq_or_lt_of_le hlo with heq | hlt
    · exact .inl (startsLine_iff.2 ⟨i, hi, heq⟩)
    · obtain ⟨k, rfl⟩ := Nat.exists_eq_add_of_le' (Nat.one_le_of_lt hlt)
      exact .inr (hafter i hi k (Nat.lt_succ_iff.1 hlt) hhi)

theorem noteOrdered_iff {p i : Nat} : noteOrdered m p i = true ↔
    (i = 0 ∨ (noteAt m p (i - 1)).stop ≤ (noteAt m p i).start) ∧ (noteAt m p i).stop ≤ imgDuration m := by
  simp [noteOrdered]

/-- The conditions of R62 on a part's notes, over all of them. -/
theorem notes_ordered_iff {p : Nat} : (∀ i < imgNotes m p, noteOrdered m p i = true) ↔
    (∀ i, i + 1 < imgNotes m p → (noteAt m p i).stop ≤ (noteAt m p (i + 1)).start) ∧
      ∀ i < imgNotes m p, (noteAt m p i).stop ≤ imgDuration m := by
  constructor
  · intro ho
    exact ⟨fun i hi => (noteOrdered_iff.1 (ho (i + 1) hi)).1.resolve_left (Nat.succ_ne_zero i),
      fun i hi => (noteOrdered_iff.1 (ho i hi)).2⟩
  · rintro ⟨hafter, hend⟩ i hi
    refine noteOrdered_iff.2 ⟨?_, hend i hi⟩
    cases i with
    | zero => exact .inl rfl
    | succ i => exact .inr (hafter i hi)

/-- The order and timing of an image whose lines keep within its syllables, condition by condition (R62). -/
theorem checkOrder_eq_none_iff (hlines : 1 ≤ imgLines m)
    (hfits : ∀ i < imgLines m, (lineAt m i).first + (lineAt m i).count ≤ imgSyllables m) :
    checkOrder m = none ↔
      linesInTurn m ∧ (∀ i, i + 1 < imgLines m → lineStart m i ≤ lineStart m (i + 1)) ∧
      (∀ i < imgLines m, ∀ j, (lineAt m i).first ≤ j → j + 1 < (lineAt m i).first + (lineAt m i).count →
        (syllableAt m j).stop ≤ (syllableAt m (j + 1)).start) ∧
      (∀ j < imgSyllables m, (syllableAt m j).stop ≤ imgDuration m) ∧
      ∀ p, 1 ≤ p → p ≤ 4 → (∀ i, i + 1 < imgNotes m p → (noteAt m p i).stop ≤ (noteAt m p (i + 1)).start) ∧
        ∀ i < imgNotes m p, (noteAt m p i).stop ≤ imgDuration m := by
  rw [checkOrder_eq_none, lines_ordered_iff hlines, and_assoc]
  refine and_congr_right fun turn => and_congr_right fun _ => ?_
  simp only [syllables_ordered_iff turn hlines hfits, notes_ordered_iff, and_assoc]

end

/-- Settles O38: each check through the lemma that says when it finds no fault. -/
theorem rangeCheckCoversEveryRecord : Obligations.RangeCheckCoversEveryRecord := by
  refine ⟨fun m song size g => ?_, fun m hrange => ?_, fun m hrange => ?_⟩
  · intro version length
    refine ⟨rfl, rfl, ?_, checkGlyphs_eq_none⟩
    have hlength : imgLength m = length := by rw [imgLength, imgNotesBefore_five]
    rw [checkCount, hlength]
  · obtain ⟨hheader, hline, _, _⟩ := checkRange_eq_none.1 hrange
    obtain ⟨_, ⟨hlines, _⟩, _⟩ := headerRange_eq_none.1 hheader
    have hfits (i : Nat) (hi : i < imgLines m) : (lineAt m i).first + (lineAt m i).count ≤ imgSyllables m := by
      obtain ⟨_, _, _, _, hfit⟩ := lineRange_eq_none.1 (hline i hi)
      exact hfit
    intro ends noteEnds startOf
    rw [checkOrder_eq_none_iff hlines hfits]
    constructor
    · rintro ⟨turn, hstart, hafter, hend, hnotes⟩
      exact ⟨turn.first, fun i hi => ⟨turn.next i hi, hstart i hi⟩, turn.last, hafter,
        fun p h1 h4 => (hnotes p h1 h4).1, hend, fun p h1 h4 => (hnotes p h1 h4).2⟩
    · rintro ⟨hfirst, hnext, hlast, hafter, hnotes, hend, hnoteEnd⟩
      exact ⟨⟨hfirst, fun i hi => (hnext i hi).1, hlast⟩, fun i hi => (hnext i hi).2, hafter, hend,
        fun p h1 h4 => ⟨hnotes p h1 h4, hnoteEnd p h1 h4⟩⟩
  · obtain ⟨hheader, hline, hsyllable, hnote⟩ := checkRange_eq_none.1 hrange
    refine ⟨?_, fun i hi => ?_, fun j hj => ?_, fun p h1 h4 i hi => ?_⟩
    · obtain ⟨⟨hp1, hp4⟩, ⟨hl1, hl⟩, ⟨hs1, hs⟩, hnotes, ⟨hn1, hn⟩, ⟨hd1, hd⟩, htotal⟩ :=
        headerRange_eq_none.1 hheader
      refine ⟨hp1, hp4, hl1, hl, hs1, hs, hn1, hn, hd1, hd, fun p h1 h4 => hnotes p (mem_partNumbers.2 ⟨h1, h4⟩), ?_⟩
      rwa [imgNotesBefore_five] at htotal
    · obtain ⟨hhint, ⟨hmask, hmask'⟩, hfirst, ⟨hc1, hc⟩, hfit⟩ := lineRange_eq_none.1 (hline i hi)
      exact ⟨hhint, hmask, hmask', hfirst, hc1, hc, hfit⟩
    · obtain ⟨hstart, ⟨hd1, hd⟩, ⟨hmask, hmask'⟩, ⟨hr1, hr⟩, hcodes⟩ := syllableRange_eq_none.1 (hsyllable j hj)
      exact ⟨hstart, hd1, hd, hmask, hmask', hr1, hr, hcodes⟩
    · obtain ⟨hstart, ⟨hd1, hd⟩, hcode, hunscored⟩ := noteRange_eq_none.1 (hnote p h1 h4 i hi)
      exact ⟨hstart, hd1, hd, hcode, hunscored⟩

end Sys2Proof.Machine

namespace Sys2Proof.Machine

/-! ## The block completion of the Transport, branch by branch (R77, R78, R86 to R88, R95) -/

/-- The Transport with the clock advanced and the sync timer counted up (R78, R86). -/
def Transport.ticked (t : Transport) : Transport := { t.advance with syncTimer := t.syncTimer + 1 }

theorem Transport.runs_iff {t : Transport} : t.runs = true ↔ t.state = .play ∨ t.state = .recover := by
  simp [Transport.runs]

theorem Transport.endsSong_iff {t : Transport} :
    t.endsSong = true ↔ (t.state = .play ∨ t.state = .recover) ∧ t.advance.t = 256 * t.duration := by
  simp [Transport.endsSong, Transport.runs_iff]

theorem Transport.losesSync_iff {t : Transport} : t.losesSync = true ↔
    (t.state = .play ∨ t.state = .recover) ∧ t.endsSong = false ∧ t.syncTimeout ≤ t.syncTimer + 1 := by
  simp [Transport.losesSync, Transport.runs_iff, and_assoc]

theorem Transport.settles_iff {t : Transport} : t.settles = true ↔
    t.state = .recover ∧ t.endsSong = false ∧ t.losesSync = false ∧ t.settleCount = 0 := by
  simp [Transport.settles, and_assoc]

theorem Transport.givesUp_iff {t : Transport} : t.givesUp = true ↔ t.state = .hold ∧ t.holdLimit ≤ t.holdCount + 1 := by
  simp [Transport.givesUp]

theorem Transport.stalls_iff {t : Transport} : t.stalls = true ↔ t.state = .cued ∧ t.cueStallCount = 999 := by
  simp [Transport.stalls]

theorem Transport.resultSpent_iff {t : Transport} : t.resultSpent = true ↔ t.state = .result ∧ t.resultCountdown ≤ 1 := by
  simp [Transport.resultSpent, Nat.sub_eq_zero_iff_le]

section
variable {s : State}

theorem transportBlock_still (h : s.tr.state = .idle ∨ s.tr.state = .paused) : transportBlock s = s := by
  rcases h with h | h <;> simp [transportBlock, h]

theorem transportBlock_cued (h : s.tr.state = .cued) : transportBlock s =
    (s.setTr { s.tr with cueStallCount := min 1000 (s.tr.cueStallCount + 1) }).raiseIf s.tr.stalls .cueStall := by
  simp only [transportBlock, h]

theorem transportBlock_holding (h : s.tr.state = .hold) (hg : s.tr.givesUp = false) :
    transportBlock s = s.setTr { s.tr with holdCount := s.tr.holdCount + 1 } := by
  simp [transportBlock, h, hg]

theorem transportBlock_showing (h : s.tr.state = .result) (hr : s.tr.resultSpent = false) :
    transportBlock s = s.setTr { s.tr with resultCountdown := s.tr.resultCountdown - 1 } := by
  simp [transportBlock, h, hr]

theorem transportBlock_resultSpent (h : s.tr.resultSpent = true) : transportBlock s =
    (s.setTr { s.tr with resultCountdown := s.tr.resultCountdown - 1 }).finish (s.tr.finish.getD .aborted) := by
  simp [transportBlock, (Transport.resultSpent_iff.1 h).1, h]

theorem transportBlock_syncLost (h : s.tr.losesSync = true) :
    transportBlock s = (s.setTr s.tr.ticked.held).raise .syncLost := by
  obtain ⟨hruns, hgoes, _⟩ := Transport.losesSync_iff.1 h
  rcases hruns with hs | hs <;> simp [transportBlock, hs, hgoes, h] <;> rfl

section
variable (hgoes : s.tr.endsSong = false) (hsync : s.tr.losesSync = false)
include hgoes hsync

theorem transportBlock_play (h : s.tr.state = .play) : transportBlock s = s.setTr s.tr.ticked := by
  simp [transportBlock, h, hgoes, hsync]
  rfl

theorem transportBlock_settled (h : s.tr.state = .recover) (hc : s.tr.settleCount = 0) :
    transportBlock s = s.setTr { s.tr.ticked with state := .play } := by
  have hsettles : s.tr.settles = true := Transport.settles_iff.2 ⟨h, hgoes, hsync, hc⟩
  simp [transportBlock, h, hgoes, hsync, hsettles]
  rfl

theorem transportBlock_settling (h : s.tr.state = .recover) (hc : s.tr.settleCount ≠ 0) :
    transportBlock s = s.setTr { s.tr.ticked with settleCount := s.tr.settleCount - 1 } := by
  have hsettles : s.tr.settles = false := Bool.eq_false_iff.2 fun hs => hc (Transport.settles_iff.1 hs).2.2.2
  simp [transportBlock, h, hgoes, hsync, hsettles]
  rfl

end

end

/-! ## The Transport within its ranges (R71, R72, R86, R91, R97) -/

/-- The Transport lawful, and its settings within the ranges their messages clamp them into. -/
structure Transport.ranged (t : Transport) : Prop extends t.lawful where
  rate : 384 ≤ t.rate ∧ t.rate ≤ 640
  key : -6 ≤ t.key ∧ t.key ≤ 6
  syncTimeout : 20 ≤ t.syncTimeout ∧ t.syncTimeout ≤ 200
  settle : t.settle ≤ 100
  holdLimit : 500 ≤ t.holdLimit ∧ t.holdLimit ≤ 6000
  resultInterval : t.resultInterval ≤ 1500

theorem slewStep_toward (x : Int) : (0 ≤ x → 0 ≤ slewStep x ∧ slewStep x ≤ x) ∧ (x ≤ 0 → x ≤ slewStep x ∧ slewStep x ≤ 0) := by
  unfold slewStep
  split_ifs <;> omega

section
variable {t : Transport} (h : t.ranged)
include h

theorem Transport.ranged.cued {d : Nat} (hd : 1000 ≤ d ∧ d ≤ 1200000) : (t.cued d).ranged :=
  { h with
    clock := Nat.zero_le _
    idle := nofun
    duration := fun _ => hd
    syncTimer := Nat.zero_le _
    unexpired := fun _ => Nat.zero_lt_succ _
    settleCount := Nat.zero_le _
    holdCount := Nat.zero_le _
    resultCountdown := Nat.zero_le _
    finish := iff_of_true rfl nofun
    slew := by simp [Transport.cued]
    cueStallCount := Nat.zero_le _
    jumpCount := Nat.zero_le _
    epoch := Nat.zero_le _ }

theorem Transport.ranged.finished : t.finished.ranged :=
  { h with
    clock := Nat.zero_le _
    idle := fun _ => rfl
    duration := fun hs => absurd rfl hs
    unexpired := nofun
    resultCountdown := Nat.zero_le _
    finish := iff_of_true rfl nofun
    slew := by simp [Transport.finished] }

theorem Transport.ranged.softReset : t.softReset.ranged :=
  { h with
    clock := Nat.zero_le _
    idle := fun _ => rfl
    duration := fun hs => absurd rfl hs
    syncTimer := Nat.zero_le _
    unexpired := nofun
    settleCount := Nat.zero_le _
    holdCount := Nat.zero_le _
    resultCountdown := Nat.zero_le _
    finish := iff_of_true rfl nofun
    slew := by simp [Transport.softReset]
    cueStallCount := Nat.zero_le _
    jumpCount := Nat.zero_le _
    epoch := Nat.zero_le _ }

/-- RESULT entry from a state in which a song is on. -/
theorem Transport.ranged.ended (hs : t.state ≠ .idle) (k : FinishKind) : (t.ended k).ranged :=
  { h with
    idle := nofun
    duration := fun _ => h.duration hs
    syncTimer := Nat.zero_le _
    unexpired := nofun
    settleCount := Nat.zero_le _
    holdCount := Nat.zero_le _
    resultCountdown := h.resultInterval
    finish := iff_of_false nofun (· rfl)
    slew := by simp [Transport.ended] }

theorem Transport.ranged.advance : t.advance.ranged :=
  { h with
    clock := Nat.min_le_left ..
    slew := by
      have hlo := h.slew.1
      have hhi := h.slew.2
      have hstep := slewStep_toward t.slew
      simp only [Transport.advance]
      omega }

/-- A block completion short of the sync timeout, the settle count kept or lowered, in PLAY or RECOVER. -/
theorem Transport.ranged.ticked (hsync : t.syncTimer + 1 < t.syncTimeout) {st : TransportState}
    (hst : st = .play ∨ st = .recover) (hruns : t.state = .play ∨ t.state = .recover) {c : Nat} (hc : c ≤ t.settleCount) :
    Transport.ranged { t.ticked with state := st, settleCount := c } := by
  have hlimit := h.syncTimeout.2
  have hnotIdle : t.state ≠ .idle := by rcases hruns with hs | hs <;> simp [hs]
  have hnotResult : t.state ≠ .result := by rcases hruns with hs | hs <;> simp [hs]
  have hst' : st ≠ .idle ∧ st ≠ .result := by rcases hst with rfl | rfl <;> exact ⟨nofun, nofun⟩
  exact { h.advance with
    idle := fun hi => absurd hi hst'.1
    duration := fun _ => h.duration hnotIdle
    syncTimer := by simp only [Transport.ticked]; omega
    unexpired := fun _ => by simp only [Transport.ticked]; omega
    settleCount := hc.trans h.settleCount
    finish := iff_of_true (h.finish.2 hnotResult) hst'.2 }

theorem Transport.ranged.lostSync (hruns : t.state = .play ∨ t.state = .recover) : t.ticked.held.ranged := by
  have hnotIdle : t.state ≠ .idle := by rcases hruns with hs | hs <;> simp [hs]
  have hnotResult : t.state ≠ .result := by rcases hruns with hs | hs <;> simp [hs]
  have htimer : t.syncTimer < 200 := h.unexpired (hruns.imp_right .inl)
  exact { h.advance with
    idle := nofun
    duration := fun _ => h.duration hnotIdle
    syncTimer := htimer
    unexpired := nofun
    settleCount := Nat.zero_le _
    holdCount := Nat.zero_le _
    finish := iff_of_true (h.finish.2 hnotResult) nofun
    slew := by simp [Transport.held] }

/-- A position report or RESUME sets PLAY or RECOVER by the settle setting (R84, R90). -/
theorem Transport.ranged.resettle (hs : t.state = .hold ∨ t.state = .paused) (hsync : t.syncTimer < 200) :
    t.resettle.ranged := by
  have hnotIdle : t.state ≠ .idle := by rcases hs with hs | hs <;> simp [hs]
  have hnotResult : t.state ≠ .result := by rcases hs with hs | hs <;> simp [hs]
  unfold Transport.resettle
  split
  · exact { h with
      idle := nofun
      duration := fun _ => h.duration hnotIdle
      unexpired := fun _ => hsync
      finish := iff_of_true (h.finish.2 hnotResult) nofun }
  · exact { h with
      idle := nofun
      duration := fun _ => h.duration hnotIdle
      unexpired := fun _ => hsync
      settleCount := h.settle
      finish := iff_of_true (h.finish.2 hnotResult) nofun }

/-- The clock set to a reported position, the sync timer restarted (R83 to R85). -/
theorem Transport.ranged.relocated {p : Nat} (hp : p ≤ t.duration) {e : Nat} (he : e ≤ 255) {j : Nat} (hj : j ≤ 65535) :
    Transport.ranged { t with t := 256 * p, slew := 0, syncTimer := 0, jumpCount := j, epoch := e } :=
  { h with
    clock := Nat.mul_le_mul_left _ hp
    syncTimer := Nat.zero_le _
    unexpired := fun _ => Nat.zero_lt_succ _
    slew := by simp
    jumpCount := hj
    epoch := he }

end

theorem nextEpoch_le (e : Nat) : nextEpoch e ≤ 255 := Nat.lt_succ_iff.1 (Nat.mod_lt _ (by decide))

theorem Transport.reset_ranged : Transport.reset.ranged := by
  constructor
  · exact reset_transport_lawful
  all_goals decide

/-! ## The settings of the other blocks (R115, R137, R162, R174, R180, R181) -/

/-- What the ranges speak of outside the Transport: the settings of the Microphone Front End, the Scoring Unit, the Lyric
Layout Unit and the Compositor, and the glyph store. -/
structure Settings where
  micCount : Nat
  voicing : Int
  clarity : Nat
  latency : Nat
  leadIn : Nat
  linger : Nat
  placement : Quad Placement
  bannerWindow : Nat
  digitBase : Nat
  glyphs : GlyphStore

def State.settings (s : State) : Settings where
  micCount := s.mfe.count
  voicing := s.mfe.voicing
  clarity := s.mfe.clarity
  latency := s.su.latency
  leadIn := s.llu.leadIn
  linger := s.llu.linger
  placement := s.cmp.placement
  bannerWindow := s.cmp.bannerWindow
  digitBase := s.cmp.digitBase
  glyphs := s.cmp.glyphs

structure Settings.ranged (x : Settings) : Prop where
  micCount : x.micCount ≤ 7
  voicing : -160 ≤ x.voicing ∧ x.voicing ≤ -20
  clarity : x.clarity ≤ 255
  latency : x.latency ≤ 300
  leadIn : 500 ≤ x.leadIn ∧ x.leadIn ≤ 10000
  linger : x.linger ≤ 3000
  placement : ∀ k : Fin 4, (x.placement.get k).band ≤ 7 ∧ (x.placement.get k).offset ≤ 87
  bannerWindow : x.bannerWindow ≤ 60000
  digitBase : x.digitBase ≤ 4084
  store : glyphBytes x.glyphs ≤ glyphCapacity

/-- The ranges fall into the Transport's and the other blocks'. -/
theorem ranges_iff {s : State} :
    s.settingsInRange ∧ s.tr.lawful ∧ s.cmp.storeFits ↔ s.tr.ranged ∧ s.settings.ranged := by
  constructor
  · rintro ⟨h, hlawful, hstore⟩
    exact ⟨⟨hlawful, h.rate, h.key, h.syncTimeout, h.settle, h.holdLimit, h.resultInterval⟩,
      ⟨h.micCount, h.voicing, h.clarity, h.latency, h.leadIn, h.linger, h.placement, h.bannerWindow, h.digitBase, hstore⟩⟩
  · rintro ⟨t, x⟩
    exact ⟨⟨t.rate, t.key, t.syncTimeout, t.settle, t.holdLimit, t.resultInterval, x.micCount, x.voicing, x.clarity,
      x.latency, x.leadIn, x.linger, x.placement, x.bannerWindow, x.digitBase⟩, t.tolawful, x.store⟩

/-! ### Operations that keep the settings -/

section
variable (s : State)

@[simp] theorem settings_setRq (r : RequestQueue) : (s.setRq r).settings = s.settings := rfl
@[simp] theorem settings_setPbc (p : PadBus) : (s.setPbc p).settings = s.settings := rfl
@[simp] theorem settings_setTr (t : Transport) : (s.setTr t).settings = s.settings := rfl
@[simp] theorem settings_setAtt (a : Attention) : (s.setAtt a).settings = s.settings := rfl
@[simp] theorem settings_setLink (l : ControlLink) : (s.setLink l).settings = s.settings := rfl
@[simp] theorem settings_setSlot (n : SlotName) (x : Slot) : (s.setSlot n x).settings = s.settings := by cases n <;> rfl
@[simp] theorem settings_setEntries (q : List Entry) : (s.setEntries q).settings = s.settings := rfl
@[simp] theorem settings_setEntryState (id : Nat) (st : EntryState) : (s.setEntryState id st).settings = s.settings := rfl
@[simp] theorem settings_raise (m : Member) : (s.raise m).settings = s.settings := rfl
@[simp] theorem settings_raiseIf (c : Bool) (m : Member) : (s.raiseIf c m).settings = s.settings := by cases c <;> rfl
@[simp] theorem settings_tellPads (l : List Requester) (x : NewsItem) : (s.tellPads l x).settings = s.settings := rfl
@[simp] theorem settings_setPad (i : Fin 8) (p : PadRecord) : (s.setPad i p).settings = s.settings := rfl
@[simp] theorem settings_closeLanes (k : FinishKind) : (s.closeLanes k).settings = s.settings := rfl
@[simp] theorem settings_resultEntry (k : FinishKind) : (s.resultEntry k).settings = s.settings := rfl

@[simp] theorem settings_rebuild : s.rebuild.settings = s.settings := by
  unfold State.rebuild
  split <;> rfl

@[simp] theorem settings_newEntry (song : Nat) (lane : QueueLane) (origin : Origin) (list : List Requester) (p : Nat) :
    (s.newEntry song lane origin list p).settings = s.settings := by simp [State.newEntry]

@[simp] theorem settings_emptySlotOf (id : Nat) : (s.emptySlotOf id).settings = s.settings := by
  unfold State.emptySlotOf
  split <;> simp

@[simp] theorem settings_cancelEntry (e : Entry) (reason : DropReason) : (s.cancelEntry e reason).settings = s.settings := by
  simp [State.cancelEntry]

@[simp] theorem settings_cancelAll (pad : Nat) (l : List Entry) : (s.cancelAll pad l).settings = s.settings := by
  induction l generalizing s with
  | nil => rfl
  | cons e rest ih => rw [cancelAll_cons, ih, settings_cancelEntry]

/-- Arming keeps the latency and opening the lead-in and linger. -/
@[simp] theorem settings_cue (e : Entry) : (s.cue e).settings = s.settings := by
  cases h : s.slotHolding e.id with
  | none => rw [cue_unheld h]
  | some n =>
    rw [cue_eq h]
    cases n <;> rfl

@[simp] theorem settings_autoAdvance : s.autoAdvance.settings = s.settings := by
  rcases autoAdvance_cases s with h | ⟨e, _, _, _, _, h⟩ <;> simp [h]

@[simp] theorem settings_releasePad (pad : Nat) : (s.releasePad pad).settings = s.settings := by
  simp [releasePad_eq, State.padReleased, State.delisted]

@[simp] theorem settings_releaseSlot : s.releaseSlot.settings = s.settings := by
  unfold State.releaseSlot
  split <;> simp

@[simp] theorem settings_shelve (k : FinishKind) : (s.shelve k).settings = s.settings := by
  unfold State.shelve
  split <;> rfl

@[simp] theorem settings_finish (k : FinishKind) : (s.finish k).settings = s.settings := by
  have lanes (u : State) : (u.setSu u.su.cleared).settings = u.settings := rfl
  have rows (u : State) : (u.setLlu (u.llu.emptied .none)).settings = u.settings := rfl
  simp only [State.finish, State.finishSong, settings_autoAdvance, settings_raise, settings_setTr, rows, settings_releaseSlot,
    lanes, settings_shelve]

@[simp] theorem settings_finishAtOnce (k : FinishKind) : (s.finishAtOnce k).settings = s.settings := by
  unfold State.finishAtOnce
  split <;> simp

@[simp] theorem settings_enterResult (k : FinishKind) : (s.enterResult k).settings = s.settings := by
  simp [State.enterResult]

/-- A pad's record leaves the settings. -/
theorem settings_takeRequest (pad song part : Nat) (rush : Bool) : (takeRequest s pad song part rush).1.settings = s.settings := by
  unfold takeRequest
  simp only
  repeat' split
  all_goals simp

theorem settings_takeWithdraw (pad song : Nat) : (takeWithdraw s pad song).1.settings = s.settings := by
  unfold takeWithdraw
  simp only
  repeat' split
  all_goals simp

theorem settings_completeValidation (n : SlotName) : (completeValidation s n).settings = s.settings := by
  unfold completeValidation
  simp only
  repeat' split
  all_goals simp

theorem settings_transportBlock : (transportBlock s).settings = s.settings := by
  unfold transportBlock
  simp only
  repeat' split
  all_goals simp

/-- A block completion makes block records and gives lanes their notes; no setting changes (R102). -/
theorem settings_blockEvent (x : BlockInput) : (blockEvent x s).settings = s.settings := by
  have records : (recordsTaken x s).settings = (transportBlock s).settings := by
    simp [State.settings, recordsTaken, scoringBlock, micBlock]
  have finished : (s.tr.finishOwed (recordsTaken x s)).settings = s.settings := by
    rw [← settings_transportBlock s, ← records]
    rcases finishOwed_cases s.tr (recordsTaken x s) with ⟨k, _, _, h⟩ | ⟨_, h⟩ <;> simp [h]
  simpa [State.settings] using finished

theorem settings_nextExchange (v : State) : (s.nextExchange v).settings = s.settings := by
  obtain ⟨p, h, _⟩ := nextExchange_eq s v
  rw [h]
  rfl

@[simp] theorem settings_afterExchange : s.afterExchange.settings = s.settings := by
  unfold State.afterExchange
  split
  · rfl
  · exact settings_nextExchange ..

theorem settings_goodCompletion (i : Fin 8) (r : UplinkRecord) : (s.goodCompletion i r).settings = s.settings := by
  unfold State.goodCompletion State.filterRecord
  simp only
  repeat' split
  all_goals simp [settings_takeRequest, settings_takeWithdraw]

theorem settings_joinFrame (ex : Exchange) (f : UplinkFrame) : (s.joinFrame ex f).settings = s.settings := by
  unfold State.joinFrame takeJoin
  simp only
  repeat' split
  all_goals rfl

theorem settings_completeExchange (ex : Exchange) (r : Reception) : (s.completeExchange ex r).settings = s.settings := by
  unfold State.completeExchange
  repeat' split
  all_goals simp [settings_goodCompletion, settings_joinFrame, State.faultyCompletion]

theorem videoStep_settings (c : Compositor) : c.videoStep.placement = c.placement ∧
    c.videoStep.bannerWindow = c.bannerWindow ∧ c.videoStep.digitBase = c.digitBase ∧ c.videoStep.glyphs = c.glyphs := by
  unfold Compositor.videoStep
  repeat' split
  all_goals exact ⟨rfl, rfl, rfl, rfl⟩

theorem settings_frameStart : (frameStart s).settings = s.settings := by
  have rows : s.settleRows.settings = s.settings := by
    unfold State.settleRows
    split <;> rfl
  obtain ⟨hplacement, hwindow, hbase, hglyphs⟩ := videoStep_settings s.settleRows.cmp
  rw [← rows]
  simp [State.settings, frameStart, hplacement, hwindow, hbase, hglyphs]

theorem settings_inputCompleted (f : InputFrame) : (s.setCmp (s.cmp.inputCompleted f)).settings = s.settings := by
  unfold Compositor.inputCompleted
  split <;> rfl

end

/-! ### Requests and the settings -/

theorem clamp_range {lo hi : Nat} (h : lo ≤ hi) (n : Nat) : lo ≤ clamp lo hi n ∧ clamp lo hi n ≤ hi :=
  ⟨Nat.le_max_left .., Nat.max_le.2 ⟨h, Nat.min_le_left ..⟩⟩

theorem clampInt_range {lo hi : Int} (h : lo ≤ hi) (n : Int) : lo ≤ clampInt lo hi n ∧ clampInt lo hi n ≤ hi :=
  ⟨Int.le_max_left .., Int.max_le.2 ⟨h, Int.min_le_left ..⟩⟩

theorem glyphBytes_append (g h : GlyphStore) : glyphBytes (g ++ h) = glyphBytes g + glyphBytes h := by simp [glyphBytes]

theorem glyphBytes_filter_le (g : GlyphStore) (p : Nat × Glyph → Bool) : glyphBytes (g.filter p) ≤ glyphBytes g :=
  (List.filter_sublist.map _).sum_le_sum (by simp)

/-- A glyph put in the store takes 12 bytes a column beside the store without its code (R174). -/
theorem glyphBytes_glyphPut (g : GlyphStore) (code : Nat) (x : Glyph) :
    glyphBytes (glyphPut g code x) = glyphBytes (glyphRemove g code) + 12 * x.width := by
  have apart : glyphBytes (glyphRemove g code) =
      glyphBytes (g.filter fun e => decide (e.1 < code)) + glyphBytes (g.filter fun e => decide (code < e.1)) := by
    induction g with
    | nil => rfl
    | cons e rest ih =>
      simp only [glyphRemove, glyphBytes, List.filter_cons] at ih ⊢
      rcases Nat.lt_trichotomy e.1 code with h | h | h
      · simp [h, h.ne, h.not_gt] at ih ⊢
        omega
      · simp [h] at ih ⊢
        omega
      · simp [h, h.ne', h.not_gt] at ih ⊢
        omega
  have cons : glyphBytes ((code, x) :: g.filter fun e => decide (code < e.1)) =
      12 * x.width + glyphBytes (g.filter fun e => decide (code < e.1)) := by simp [glyphBytes]
  rw [glyphPut, glyphBytes_append, cons, apart]
  omega

section
variable {s : State} (h : s.settings.ranged)
include h

theorem takeMicSet_ranged (mode count : Nat) (voicing : Int) (clarity : Nat) :
    (takeMicSet s mode count voicing clarity).state.settings.ranged := by
  unfold takeMicSet
  split
  · exact h
  · exact { h with
      micCount := (clamp_range (by decide) count).2
      voicing := clampInt_range (by decide) voicing
      clarity := (clamp_range (by decide) clarity).2 }

theorem takeScoreSet_ranged (level fold latency : Nat) : (takeScoreSet s level fold latency).state.settings.ranged := by
  unfold takeScoreSet
  split
  · exact h
  · split
    · exact h
    · exact { h with latency := (clamp_range (by decide) latency).2 }

theorem takeLayoutSet_ranged (leadIn linger : Nat) : (takeLayoutSet s leadIn linger).state.settings.ranged :=
  { h with
    leadIn := clamp_range (by decide) leadIn
    linger := (clamp_range (by decide) linger).2 }

theorem takeRowPlace_ranged (slot band offset : Nat) : (takeRowPlace s slot band offset).state.settings.ranged := by
  unfold takeRowPlace
  split
  · exact h
  · next k _ =>
    split
    · exact h
    · next hband =>
      refine { h with placement := fun j => ?_ }
      simp only [accept, State.settings, State.setCmp_cmp]
      by_cases hj : j = k
      · rw [hj, Quad.get_set_same]
        exact ⟨Nat.not_lt.1 hband, (clamp_range (by decide) offset).2⟩
      · rw [Quad.get_set_other _ _ hj]
        exact h.placement j

theorem takeBannerSet_ranged (window base : Nat) : (takeBannerSet s window base).state.settings.ranged := by
  unfold takeBannerSet
  split
  · exact h
  · next hbase =>
    exact { h with
      bannerWindow := (clamp_range (by decide) window).2
      digitBase := Nat.not_lt.1 hbase }

theorem takeGlyphLoad_ranged (code width : Nat) (coverage : List Byte) :
    (takeGlyphLoad s code width coverage).state.settings.ranged := by
  unfold takeGlyphLoad
  simp only
  split_ifs with _ hfull
  · exact h
  · exact h
  · refine { h with store := ?_ }
    simp only [accept, State.settings, State.setCmp_cmp, glyphBytes_glyphPut]
    omega

theorem takeGlyphDrop_ranged (code : Nat) : (takeGlyphDrop s code).state.settings.ranged := by
  unfold takeGlyphDrop
  simp only
  split_ifs
  · exact h
  · exact h
  · exact h
  · exact { h with store := (glyphBytes_filter_le ..).trans h.store }

theorem takeGlyphClear_ranged : (takeGlyphClear s).state.settings.ranged := by
  unfold takeGlyphClear
  split
  · exact h
  · exact { h with store := Nat.zero_le _ }

/-- Each message clamps the settings it sets; every other request leaves them (R115, R137, R162, R175 to R177, R180, R181). -/
theorem handle_settings_ranged (r : Request) : (handle s r).state.settings.ranged := by
  have same {t : State} (ht : t.settings = s.settings) : t.settings.ranged := ht ▸ h
  cases r with
  | micSet m q v c => exact takeMicSet_ranged h ..
  | scoreSet l f x => exact takeScoreSet_ranged h ..
  | layoutSet a b => exact takeLayoutSet_ranged h ..
  | rowPlace k b o => exact takeRowPlace_ranged h ..
  | bannerSet w b => exact takeBannerSet_ranged h ..
  | glyphLoad c w v => exact takeGlyphLoad_ranged h ..
  | glyphDrop c => exact takeGlyphDrop_ranged h ..
  | glyphClear => exact takeGlyphClear_ranged h
  | echo | softReset | attentionRead | transportRead | layoutRead | rate | key => exact h
  | attentionAck | bind | bandMap | palette =>
    -- these change what is no setting of `Settings`
    refine same ?_
    simp only [handle, takeAttentionAck, takeBind, takeBandMap, takePalette, accept, refuse]
    repeat' split
    all_goals rfl
  | _ =>
    -- the owners of the rest refuse, read, or change the state by operations that keep the settings
    refine same ?_
    simp only [handle, takeAttentionMask, takeResolve, takeQueueAdd, takeQueueMove, takeQueueCancel,
      takeQueueRead, takeHistoryRead, takePolicy, takePadAdmit, takePadRelease, takePadRead, takePadBus, takeSlotOpen,
      takeSlotData, takeSlotSeal, takeSlotDiscard, takeSlotRead, takeStart, takeSync, syncRunning, takePause, takeResume,
      takeStop, takeTransportSet, takeMicRead, takeLaneRead, takeCompositorRead, accept,
      refuse]
    repeat' split
    all_goals simp

end

/-! ## What each operation makes of the Transport

Outside the Transport's own messages and block completions an operation cues an entry at most. -/

/-- The Transport of `t` is that of `s`, or `s`'s with the song of `t`'s ACTIVE slot cued (R76). -/
def State.cuedAtMost (s t : State) : Prop :=
  t.tr = s.tr ∨ ∃ n, (t.slot n).state = .active ∧ t.tr = s.tr.cued (imgDuration (t.slot n).image)

theorem State.cuedAtMost.of_eq {s t : State} (h : t.tr = s.tr) : s.cuedAtMost t := .inl h

/-- Where the match stands, a cued song has a duration in range: its image passed the check (R61, R76). -/
theorem State.cuedAtMost.ranged {s t : State} (h : s.cuedAtMost t) (hm : t.matched) (hs : s.tr.ranged) : t.tr.ranged := by
  rcases h with h | ⟨n, hn, h⟩
  · rwa [h]
  · obtain ⟨hheader, _⟩ := checkRange_eq_none.1 (hm.checked n (.inr hn))
    obtain ⟨_, _, _, _, _, hduration, _⟩ := headerRange_eq_none.1 hheader
    rw [h]
    exact hs.cued hduration

/-- A change that keeps the Transport and the slots. -/
theorem State.cuedAtMost.then {s t u : State} (h : s.cuedAtMost t) (htr : u.tr = t.tr) (hslot : ∀ n, u.slot n = t.slot n) :
    s.cuedAtMost u := by
  unfold State.cuedAtMost at h ⊢
  simpa only [htr, hslot] using h

theorem cuedAtMost_cue (s : State) (e : Entry) : s.cuedAtMost (s.cue e) := by
  cases h : s.slotHolding e.id with
  | none => exact .of_eq (by rw [cue_unheld h])
  | some n =>
    obtain ⟨_, _, hslot⟩ := cue_queue h
    refine .inr ⟨n, by simp [hslot], ?_⟩
    rw [hslot n, cue_eq h]
    simp

theorem cuedAtMost_autoAdvance (s : State) : s.cuedAtMost s.autoAdvance := by
  rcases autoAdvance_cases s with h | ⟨e, _, _, _, _, h⟩ <;> rw [h]
  · exact .of_eq rfl
  · exact cuedAtMost_cue s e

/-- Auto-advance after a change that keeps the Transport. -/
theorem State.cuedAtMost.advanced {s t : State} (h : t.tr = s.tr) : s.cuedAtMost t.autoAdvance := by
  have := cuedAtMost_autoAdvance t
  rwa [State.cuedAtMost, h] at this

theorem cuedAtMost_releasePad (s : State) (pad : Nat) : s.cuedAtMost (s.releasePad pad) :=
  .advanced (padReleased_frame s pad).1

theorem takeRequest_tr (s : State) (pad song part : Nat) (rush : Bool) : (takeRequest s pad song part rush).1.tr = s.tr := by
  unfold takeRequest
  simp only
  repeat' split
  all_goals simp [State.newEntry]

theorem cuedAtMost_takeWithdraw (s : State) (pad song : Nat) : s.cuedAtMost (takeWithdraw s pad song).1 := by
  unfold takeWithdraw
  simp only
  repeat' split
  · exact .of_eq rfl
  · exact .advanced (by simp)
  · exact .of_eq (by simp)

theorem cuedAtMost_completeValidation (s : State) (n : SlotName) : s.cuedAtMost (completeValidation s n) := by
  unfold completeValidation
  simp only
  split
  · refine .advanced ?_
    split <;> simp
  · exact .of_eq rfl

theorem cuedAtMost_takeResolve (s : State) (id verdict parts : Nat) (title : List Nat) :
    s.cuedAtMost (takeResolve s id verdict parts title).state := by
  unfold takeResolve
  simp only
  repeat' split
  · exact .of_eq rfl
  · exact .of_eq rfl
  · exact .of_eq rfl
  · exact .of_eq rfl
  · exact .advanced (by simp)

theorem cuedAtMost_takeQueueMove (s : State) (id lane lanePos : Nat) : s.cuedAtMost (takeQueueMove s id lane lanePos).state := by
  unfold takeQueueMove
  simp only
  repeat' split
  · exact .of_eq rfl
  · exact .of_eq rfl
  · exact .of_eq rfl
  · exact .of_eq rfl
  · exact .advanced (by simp)

theorem cuedAtMost_takeQueueCancel (s : State) (id : Nat) : s.cuedAtMost (takeQueueCancel s id).state := by
  unfold takeQueueCancel
  repeat' split
  · exact .of_eq rfl
  · exact .of_eq rfl
  · exact .advanced (by simp)

theorem cuedAtMost_takePadRelease (s : State) (a : Nat) : s.cuedAtMost (takePadRelease s a).state := by
  unfold takePadRelease
  repeat' split
  · exact .of_eq rfl
  · exact .of_eq rfl
  · exact cuedAtMost_releasePad (s.setPad _ freeRecord) a

theorem cuedAtMost_takeStart (s : State) (id : Nat) : s.cuedAtMost (takeStart s id).state := by
  unfold takeStart
  repeat' split
  · exact .of_eq rfl
  · exact .of_eq rfl
  · exact cuedAtMost_cue s _

theorem cuedAtMost_goodCompletion (s : State) (i : Fin 8) (r : UplinkRecord) : s.cuedAtMost (s.goodCompletion i r) := by
  unfold State.goodCompletion State.filterRecord
  simp only
  split
  · split
    · exact .of_eq (by simp [takeRequest_tr])
    · exact .of_eq rfl
  · split
    · exact (cuedAtMost_takeWithdraw (s.setPad i (s.pbc.registry.get i).forgive) _ _).then rfl (State.setPad_slot _ _ _)
    · exact .of_eq rfl
  · exact .of_eq rfl

theorem joinFrame_tr (s : State) (ex : Exchange) (f : UplinkFrame) : (s.joinFrame ex f).tr = s.tr := by
  unfold State.joinFrame takeJoin
  simp only
  repeat' split
  all_goals rfl

theorem cuedAtMost_completeExchange (s : State) (ex : Exchange) (r : Reception) : s.cuedAtMost (s.completeExchange ex r) := by
  have after {t : State} (h : s.cuedAtMost t) : s.cuedAtMost t.afterExchange :=
    h.then (by rw [afterExchange_frame, State.setPbc_tr]) fun n => by rw [afterExchange_frame, State.setPbc_slot]
  have struck (i : Fin 8) : s.cuedAtMost (s.faultyCompletion i) := .of_eq (by simp [State.faultyCompletion])
  unfold State.completeExchange
  repeat' split
  · exact .of_eq rfl
  · exact .of_eq rfl
  · exact .of_eq (joinFrame_tr s ex _)
  · exact after (.of_eq rfl)
  · exact after (struck _)
  · exact after (cuedAtMost_goodCompletion s _ _)
  · exact after (struck _)

/-! ## The Transport kept within its ranges -/

@[simp] theorem rebuild_tr (s : State) : s.rebuild.tr = s.tr := by
  unfold State.rebuild
  split <;> rfl

@[simp] theorem rebuild_link (s : State) : s.rebuild.link = s.link := by
  unfold State.rebuild
  split <;> rfl

section
variable {s : State} (h : s.tr.ranged)
include h

theorem finishSong_ranged (k : FinishKind) : (s.finishSong k).tr.ranged := by
  simpa [State.finishSong] using h.finished

theorem finish_ranged (k : FinishKind) (hm : (s.finish k).matched) : (s.finish k).tr.ranged :=
  (cuedAtMost_autoAdvance (s.finishSong k)).ranged hm (finishSong_ranged h k)

theorem finishAtOnce_ranged (k : FinishKind) (hm : (s.finishAtOnce k).matched) : (s.finishAtOnce k).tr.ranged := by
  unfold State.finishAtOnce at hm ⊢
  split at hm
  · next hz => simpa only [if_pos hz] using finish_ranged h k hm
  · next hz => rwa [if_neg hz]

/-! ### Its own messages (R82 to R93, R97) -/

theorem syncRunning_ranged {p : Nat} (hp : p ≤ s.tr.duration) (e : Int) : (syncRunning s p e).state.tr.ranged := by
  have restarted {x : Int} (hx : -51200 ≤ x ∧ x ≤ 51200) : Transport.ranged { s.tr with syncTimer := 0, slew := x } :=
    { h with syncTimer := Nat.zero_le _, unexpired := fun _ => Nat.zero_lt_succ _, slew := hx }
  unfold syncRunning
  simp only
  split_ifs
  · exact restarted (by omega)
  · exact restarted (by omega)
  · simpa [accept] using h.relocated hp (nextEpoch_le s.tr.epoch) (Nat.min_le_left 65535 (s.tr.jumpCount + 1))

theorem takeSync_ranged (position : Nat) : (takeSync s position).state.tr.ranged := by
  have hp : s.tr.syncPosition position ≤ s.tr.duration := Nat.min_le_right ..
  unfold takeSync
  simp only
  split
  · exact h
  · exact h
  · next hs =>
    have started : Transport.ranged { s.tr with t := 256 * s.tr.syncPosition position, syncTimer := 0, state := .play } :=
      { h with
        clock := Nat.mul_le_mul_left _ hp
        idle := nofun
        duration := fun _ => h.duration (by simp [hs])
        syncTimer := Nat.zero_le _
        unexpired := fun _ => Nat.zero_lt_succ _
        finish := iff_of_true (h.finish.2 (by simp [hs])) nofun }
    simp only [accept]
    split
    · simpa using started
    · exact started
  · next hs =>
    have relocated := h.relocated hp (nextEpoch_le s.tr.epoch) h.jumpCount
    simpa [accept] using relocated.resettle (.inl hs) (Nat.zero_lt_succ _)
  · exact h
  · exact syncRunning_ranged h hp _
  · exact syncRunning_ranged h hp _

theorem takePause_ranged : (takePause s).state.tr.ranged := by
  unfold takePause
  split
  · next hruns =>
    have hruns := Transport.runs_iff.1 hruns
    exact { h with
      idle := nofun
      duration := fun _ => h.duration (by rcases hruns with hs | hs <;> simp [hs])
      unexpired := fun _ => h.unexpired (hruns.imp_right .inl)
      settleCount := Nat.zero_le _
      finish := iff_of_true (h.finish.2 (by rcases hruns with hs | hs <;> simp [hs])) nofun
      slew := by simp [accept] }
  · exact h

theorem takeResume_ranged : (takeResume s).state.tr.ranged := by
  unfold takeResume
  split
  · next hs =>
    have raised : Transport.ranged { s.tr with epoch := nextEpoch s.tr.epoch } := { h with epoch := nextEpoch_le _ }
    simpa [accept] using raised.resettle (.inr hs) (h.unexpired (.inr (.inr hs)))
  · exact h

theorem takeStop_ranged (flag : Nat) (hm : (takeStop s flag).state.matched) : (takeStop s flag).state.tr.ranged := by
  unfold takeStop at hm ⊢
  split_ifs at hm ⊢ with _ hs
  · exact h
  · exact h
  · exact finishAtOnce_ranged (s := s.resultEntry .aborted) (h.ended (fun hi => hs (.inl hi)) _) _ hm
  · exact finish_ranged (s := s.closeLanes .skipped) h _ hm

theorem takeTransportSet_ranged (auto y e l r : Nat) (hm : (takeTransportSet s auto y e l r).state.matched) :
    (takeTransportSet s auto y e l r).state.tr.ranged := by
  unfold takeTransportSet at hm ⊢
  split_ifs at hm ⊢
  · exact h
  · refine (cuedAtMost_autoAdvance _).ranged hm ?_
    exact { h with
      syncTimeout := clamp_range (by decide) y
      settle := (clamp_range (by decide) e).2
      holdLimit := clamp_range (by decide) l
      resultInterval := (clamp_range (by decide) r).2 }

theorem handle_ranged (r : Request) (hm : (handle s r).state.matched) : (handle s r).state.tr.ranged := by
  have cued (hc : s.cuedAtMost (handle s r).state) : (handle s r).state.tr.ranged := hc.ranged hm h
  cases r with
  | sync p => exact takeSync_ranged h _
  | pause => exact takePause_ranged h
  | resume => exact takeResume_ranged h
  | stop f => exact takeStop_ranged h _ hm
  | transportSet a y e l r => exact takeTransportSet_ranged h _ _ _ _ _ hm
  | rate r => exact { h with rate := clamp_range (by decide) r.toNat }
  | key k => exact { h with key := clampInt_range (by decide) k.toInt }
  | resolve i v p t => exact cued (cuedAtMost_takeResolve ..)
  | queueMove i l p => exact cued (cuedAtMost_takeQueueMove ..)
  | queueCancel i => exact cued (cuedAtMost_takeQueueCancel ..)
  | padRelease a => exact cued (cuedAtMost_takePadRelease ..)
  | start i => exact cued (cuedAtMost_takeStart ..)
  | echo | softReset | attentionRead | transportRead | layoutRead | layoutSet => exact h
  | _ =>
    -- the owners of the rest leave the Transport alone
    refine cued (.of_eq ?_)
    simp only [handle, takeAttentionAck, takeAttentionMask, takeQueueAdd, takeQueueRead, takeHistoryRead, takePolicy,
      takePadAdmit, takePadRead, takePadBus, takeSlotOpen, takeSlotData, takeSlotSeal, takeSlotDiscard, takeSlotRead,
      takeMicSet, takeMicRead, takeBind, takeScoreSet, takeLaneRead, takeBandMap, takeRowPlace, takePalette, takeBannerSet,
      takeGlyphLoad, takeGlyphDrop, takeGlyphClear, takeCompositorRead, State.newEntry, accept, refuse]
    repeat' split
    all_goals simp

/-! ### The block completion (R77, R78, R86 to R88, R95) -/

theorem transportBlock_ranged (hm : (transportBlock s).matched) : (transportBlock s).tr.ranged := by
  have atEnd (hend : s.tr.endsSong = true) : (transportBlock s).tr.ranged := by
    have hs : s.tr.state ≠ .idle := by rcases (Transport.endsSong_iff.1 hend).1 with hs | hs <;> simp [hs]
    rw [transportBlock_songEnd s hend]
    exact h.advance.ended hs _
  have lost (hsync : s.tr.losesSync = true) : (transportBlock s).tr.ranged := by
    rw [transportBlock_syncLost hsync]
    exact h.lostSync (Transport.losesSync_iff.1 hsync).1
  have inTime (hruns : s.tr.state = .play ∨ s.tr.state = .recover) (hgoes : s.tr.endsSong = false)
      (hsync : s.tr.losesSync = false) : s.tr.syncTimer + 1 < s.tr.syncTimeout :=
    Nat.lt_of_not_le fun hle => by simp [Transport.losesSync_iff.2 ⟨hruns, hgoes, hle⟩] at hsync
  cases hs : s.tr.state
  case idle => rwa [transportBlock_still (.inl hs)]
  case paused => rwa [transportBlock_still (.inr hs)]
  case cued =>
    rw [transportBlock_cued hs, State.raiseIf_tr]
    exact { h with cueStallCount := Nat.min_le_left .. }
  case hold =>
    cases hg : s.tr.givesUp
    · have hcount : ¬ s.tr.holdLimit ≤ s.tr.holdCount + 1 := fun hle => by simp [Transport.givesUp_iff.2 ⟨hs, hle⟩] at hg
      have hlimit := h.holdLimit.2
      rw [transportBlock_holding hs hg]
      exact { h with holdCount := by simp only [State.setTr_tr]; omega }
    · rw [transportBlock_holdLimit s hg]
      exact h.ended (by simp [hs]) .aborted
  case result =>
    have counted : Transport.ranged { s.tr with resultCountdown := s.tr.resultCountdown - 1 } :=
      { h with resultCountdown := (Nat.sub_le _ _).trans h.resultCountdown }
    cases hr : s.tr.resultSpent
    · rwa [transportBlock_showing hs hr]
    · rw [transportBlock_resultSpent hr] at hm ⊢
      exact finish_ranged counted _ hm
  case play =>
    cases hend : s.tr.endsSong
    · cases hsync : s.tr.losesSync
      · rw [transportBlock_play hend hsync hs]
        exact h.ticked (inTime (.inl hs) hend hsync) (.inl hs) (.inl hs) (Nat.le_refl _)
      · exact lost hsync
    · exact atEnd hend
  case recover =>
    cases hend : s.tr.endsSong
    · cases hsync : s.tr.losesSync
      · by_cases hc : s.tr.settleCount = 0
        · rw [transportBlock_settled hend hsync hs hc]
          exact h.ticked (inTime (.inr hs) hend hsync) (.inl rfl) (.inr hs) (Nat.le_refl _)
        · rw [transportBlock_settling hend hsync hs hc]
          exact h.ticked (inTime (.inr hs) hend hsync) (.inr hs) (.inr hs) (Nat.sub_le _ _)
      · exact lost hsync
    · exact atEnd hend

theorem blockEvent_ranged (x : BlockInput) (hm : s.matched) : (blockEvent x s).tr.ranged := by
  have records : (recordsTaken x s).tr.ranged := by
    rw [recordsTaken_tr]
    exact transportBlock_ranged h ((transportBlock_moves s).matched hm)
  rw [blockEvent_tr]
  rcases finishOwed_cases s.tr (recordsTaken x s) with ⟨k, _, _, hfinish⟩ | ⟨_, hsame⟩
  · have hafter := ((recordsTaken_moves s x).trans (finishOwed_moves s x)).matched hm
    rw [hfinish] at hafter ⊢
    exact finish_ranged records k hafter
  · rwa [hsame]

end

theorem frameStart_tr (s : State) : (frameStart s).tr = s.tr := by
  have rows : s.settleRows.tr = s.tr := by
    unfold State.settleRows
    split <;> rfl
  simp [frameStart, rows]

theorem State.matched.congr {s t : State} (h : s.matched) (hst : s.sameQueue t) : t.matched := hst.matched h

/-- Settles O59: the blocks' own operations keep the match, the Transport's ranges and the settings' ranges together; a
song is cued only with a duration that its image's check has found in range. -/
theorem rangesAreKept : Obligations.RangesAreKept := by
  have kept : KeptByBlocks fun s => s.matched ∧ s.tr.ranged ∧ s.settings.ranged :=
    { waits := fun _ _ ⟨hm, ht, hx⟩ => ⟨hm.congr ⟨rfl, rfl, rfl, .rfl⟩, ht, hx⟩
      link := fun _ _ ⟨hm, ht, hx⟩ => ⟨hm.congr (sameQueue_setLink ..), ht, hx⟩
      attention := fun _ _ ⟨hm, ht, hx⟩ => ⟨hm.congr ⟨rfl, rfl, rfl, .rfl⟩, ht, hx⟩
      counts := fun _ _ _ ⟨hm, ht, hx⟩ => ⟨hm.congr ⟨rfl, rfl, rfl, .rfl⟩, ht, hx⟩
      poweredUp := fun s low ⟨hm, _, _⟩ => ⟨(poweredUp_moves s low).matched hm, Transport.reset_ranged,
        (ranges_iff.1 ⟨reset_settingsInRange, reset_transport_lawful, Nat.zero_le _⟩).2⟩
      resetAsserted := fun _ ⟨hm, ht, hx⟩ => ⟨hm.congr ⟨rfl, rfl, rfl, .rfl⟩, ht, hx⟩
      request := fun s r ⟨hm, ht, hx⟩ =>
        have hm := (handle_moves s r).matched hm
        ⟨hm, handle_ranged ht r hm, handle_settings_ranged hx r⟩
      softReset := fun s ⟨hm, ht, hx⟩ => ⟨(softResetEffect_moves s).matched hm, ht.softReset, hx⟩
      validation := fun s n ⟨hm, ht, hx⟩ =>
        have hm := (completeValidation_moves s n).matched hm
        ⟨hm, (cuedAtMost_completeValidation s n).ranged hm ht, (settings_completeValidation s n).symm ▸ hx⟩
      block := fun s x ⟨hm, ht, hx⟩ =>
        ⟨(blockEvent_moves s x).matched hm, blockEvent_ranged ht x hm, (settings_blockEvent s x).symm ▸ hx⟩
      bus := fun _ _ _ ⟨hm, ht, hx⟩ => ⟨hm.congr (sameQueue_setPbc ..), ht, hx⟩
      exchange := fun s ex r ⟨hm, ht, hx⟩ =>
        have hm := (completeExchange_moves s ex r).matched hm
        ⟨hm, (cuedAtMost_completeExchange s ex r).ranged hm ht, (settings_completeExchange s ex r).symm ▸ hx⟩
      frame := fun s ⟨hm, ht, hx⟩ =>
        ⟨(frameStart_moves s).matched hm, (frameStart_tr s).symm ▸ ht, (settings_frameStart s).symm ▸ hx⟩
      inputFrame := fun s f ⟨hm, ht, hx⟩ =>
        ⟨hm.congr ⟨rfl, rfl, rfl, .rfl⟩, ht, (settings_inputCompleted s f).symm ▸ hx⟩ }
  intro s t hs hm h
  obtain ⟨htr, hsettings⟩ := ranges_iff.1 hs
  obtain ⟨_, htr', hsettings'⟩ := kept.stepped ⟨hm, htr, hsettings⟩ h
  exact ranges_iff.2 ⟨htr', hsettings'⟩

end Sys2Proof.Machine

namespace Sys2Proof.Machine

/-! ## The Transport's messages (R82 to R93, R97, R98) -/

/-! ### SYNC (R82 to R85) -/

section
variable {s : State}

theorem takeSync_refused (h : s.tr.state = .idle ∨ s.tr.state = .result) (n : Nat) : takeSync s n = refuse s .badState := by
  rcases h with h | h <;> simp only [takeSync, h]

theorem takeSync_cued (h : s.tr.state = .cued) (n : Nat) :
    let t := s.setTr { s.tr with t := 256 * s.tr.syncPosition n, syncTimer := 0, state := .play }
    takeSync s n = accept (if 200 < s.tr.syncPosition n then t.rebuild else t)
      (syncData (s.tr.syncPosition n) (s.tr.syncError (s.tr.syncPosition n)) 0) := by
  simp only [takeSync, h]

theorem takeSync_running (h : s.tr.state = .play ∨ s.tr.state = .recover) (n : Nat) :
    takeSync s n = syncRunning s (s.tr.syncPosition n) (s.tr.syncError (s.tr.syncPosition n)) := by
  rcases h with h | h <;> simp only [takeSync, h]

/-- A report in HOLD with a settle setting leads to RECOVER (R84). -/
theorem takeSync_hold_settling (h : s.tr.state = .hold) (hsettle : s.tr.settle ≠ 0) (n : Nat) :
    takeSync s n = accept (s.setTr { s.tr with
        t := 256 * s.tr.syncPosition n, slew := 0, syncTimer := 0, epoch := nextEpoch s.tr.epoch, state := .recover,
        settleCount := s.tr.settle }).rebuild
      (syncData (s.tr.syncPosition n) (s.tr.syncError (s.tr.syncPosition n)) 4) := by
  simp only [takeSync, h, Transport.resettle, hsettle, if_false]

/-- A report in HOLD with no settle setting leads to PLAY (R84). -/
theorem takeSync_hold_unsettled (h : s.tr.state = .hold) (hsettle : s.tr.settle = 0) (n : Nat) :
    takeSync s n = accept (s.setTr { s.tr with
        t := 256 * s.tr.syncPosition n, slew := 0, syncTimer := 0, epoch := nextEpoch s.tr.epoch, state := .play }).rebuild
      (syncData (s.tr.syncPosition n) (s.tr.syncError (s.tr.syncPosition n)) 4) := by
  simp only [takeSync, h, Transport.resettle, hsettle, if_true]

theorem takeSync_paused (h : s.tr.state = .paused) (n : Nat) :
    takeSync s n = accept s (syncData (s.tr.syncPosition n) (s.tr.syncError (s.tr.syncPosition n)) 5) := by
  simp only [takeSync, h]

variable {p : Nat} {e : Int}

theorem syncRunning_slack (h : e.natAbs ≤ 15) :
    syncRunning s p e = accept (s.setTr { s.tr with syncTimer := 0, slew := 0 }) (syncData p e 1) := if_pos h

theorem syncRunning_slew (h : 15 < e.natAbs) (h' : e.natAbs ≤ 200) :
    syncRunning s p e = accept (s.setTr { s.tr with syncTimer := 0, slew := 256 * e }) (syncData p e 2) :=
  (if_neg (Nat.not_le.2 h)).trans (if_pos h')

theorem syncRunning_jump (h : 200 < e.natAbs) :
    syncRunning s p e = accept (s.setTr { s.tr with
        syncTimer := 0, t := 256 * p, slew := 0, jumpCount := min 65535 (s.tr.jumpCount + 1),
        epoch := nextEpoch s.tr.epoch }).rebuild (syncData p e 3) :=
  (if_neg (by omega)).trans (if_neg (Nat.not_le.2 h))

end

/-- Settles O41: each transport state's branch of `takeSync`, and in PLAY and RECOVER each band of the error. -/
theorem syncCorrectsClock : Obligations.SyncCorrectsClock := by
  intro s tag position hlink p e m reply answers
  have sent {t : State} {code : ResultCode} {data : List Byte} (ha : takeSync s position.toNat = ⟨t, code, data⟩)
      (ht : t.link = s.link) : exec (.sync tag position) s = .next (t.answered m code data) :=
    sendRequest_taken s tag (.sync position) t code data hlink nofun rfl (by simp [Request.payload, le32_length]) ha ht
  refine ⟨fun h => sent (takeSync_refused h _) rfl, fun h => sent (takeSync_cued h _) ?_, fun h => ⟨?_, ?_, ?_⟩,
    fun h => ⟨fun hsettle => ?_, fun hsettle => ?_⟩, fun h => sent (takeSync_paused h _) rfl⟩
  · split
    · exact rebuild_link _
    · rfl
  · exact fun hslack => sent ((takeSync_running h _).trans (syncRunning_slack hslack)) rfl
  · exact fun hlo hhi => sent ((takeSync_running h _).trans (syncRunning_slew hlo hhi)) rfl
  · exact fun hjump => sent ((takeSync_running h _).trans (syncRunning_jump hjump)) (rebuild_link _)
  · exact sent (takeSync_hold_settling h hsettle _) (rebuild_link _)
  · exact sent (takeSync_hold_unsettled h hsettle _) (rebuild_link _)

/-! ### PAUSE, RESUME, RATE and KEY (R89 to R91) -/

section
variable {s : State}

theorem takePause_running (h : s.tr.state = .play ∨ s.tr.state = .recover) : takePause s =
    accept (s.setTr { s.tr with state := .paused, slew := 0, settleCount := 0 }) (n32 (s.tr.t / 256)) :=
  if_pos (Transport.runs_iff.2 h)

theorem takePause_refused (hplay : s.tr.state ≠ .play) (hrecover : s.tr.state ≠ .recover) :
    takePause s = refuse s .badState :=
  if_neg fun h => (Transport.runs_iff.1 h).elim hplay hrecover

theorem takeResume_settling (h : s.tr.state = .paused) (hsettle : s.tr.settle ≠ 0) :
    takeResume s = accept (s.setTr { s.tr with
      epoch := nextEpoch s.tr.epoch, state := .recover, settleCount := s.tr.settle }).rebuild [4] := by
  simp only [takeResume, h, if_true, Transport.resettle, hsettle, if_false, rebuild_tr]
  rfl

theorem takeResume_unsettled (h : s.tr.state = .paused) (hsettle : s.tr.settle = 0) :
    takeResume s = accept (s.setTr { s.tr with epoch := nextEpoch s.tr.epoch, state := .play }).rebuild [2] := by
  simp only [takeResume, h, if_true, Transport.resettle, hsettle, rebuild_tr]
  rfl

theorem takeResume_refused (h : s.tr.state ≠ .paused) : takeResume s = refuse s .badState := if_neg h

end

/-- Settles O42: each branch of `takePause` and `takeResume`; RATE and KEY set their value clamped. -/
theorem pauseResumeRateKey : Obligations.PauseResumeRateKey := by
  constructor
  · intro s tag hlink
    have paused {t : State} {code : ResultCode} {data : List Byte} (ha : takePause s = ⟨t, code, data⟩)
        (ht : t.link = s.link) : exec (.pause tag) s = .next (t.answered ⟨0x2A, tag, []⟩ code data) :=
      sendRequest_taken s tag .pause t code data hlink nofun rfl (Nat.zero_le _) ha ht
    have resumed {t : State} {code : ResultCode} {data : List Byte} (ha : takeResume s = ⟨t, code, data⟩)
        (ht : t.link = s.link) : exec (.resume tag) s = .next (t.answered ⟨0x2B, tag, []⟩ code data) :=
      sendRequest_taken s tag .resume t code data hlink nofun rfl (Nat.zero_le _) ha ht
    refine ⟨fun h => paused (takePause_running h) rfl, fun hplay hrecover => paused (takePause_refused hplay hrecover) rfl,
      fun h hsettle => resumed (takeResume_settling h hsettle) (rebuild_link _),
      fun h hsettle => resumed (takeResume_unsettled h hsettle) (rebuild_link _),
      fun h => resumed (takeResume_refused h) rfl⟩
  · intro s tag r k hlink
    exact ⟨sendRequest_taken s tag (.rate r) _ _ _ hlink nofun rfl (by simp [Request.payload, le16_length]) rfl rfl,
      sendRequest_taken s tag (.key k) _ _ _ hlink nofun rfl (by simp [Request.payload]) rfl rfl⟩

/-! ### Auto-advance (R74) -/

section
variable {s : State}

theorem autoAdvance_cues {e : Entry} (hi : s.tr.state = .idle) (ha : s.tr.autoAdvance = true)
    (hhead : (waiting s.rq.entries).head? = some e) (hst : e.state = .staged) : s.autoAdvance = s.cue e := by
  obtain ⟨rest, hw⟩ := List.head?_eq_some_iff.1 hhead
  simp [State.autoAdvance, hi, ha, hw, hst]

theorem autoAdvance_keeps (h : s.tr.state ≠ .idle ∨ s.tr.autoAdvance = false ∨
    ∀ e, (waiting s.rq.entries).head? = some e → e.state ≠ .staged) : s.autoAdvance = s := by
  rcases autoAdvance_cases s with hsame | ⟨e, hi, ha, hhead, hst, _⟩
  · exact hsame
  · rcases h with h | h | h
    · exact absurd hi h
    · simp [h] at ha
    · exact absurd hst (h e hhead)

/-! ### STOP, TRANSPORT_SET and TRANSPORT_READ (R93, R97, R98) -/

theorem takeStop_badValue {flag : Nat} (h : 1 < flag) : takeStop s flag = refuse s .badValue := if_pos h

theorem takeStop_badState {flag : Nat} (h : flag ≤ 1) (hs : s.tr.state = .idle ∨ s.tr.state = .result) :
    takeStop s flag = refuse s .badState := (if_neg (Nat.not_lt.2 h)).trans (if_pos hs)

section
variable (hidle : s.tr.state ≠ .idle) (hresult : s.tr.state ≠ .result)
include hidle hresult

theorem takeStop_shown : takeStop s 1 = accept (s.enterResult .aborted) [2] := by
  simp only [takeStop, hidle, hresult, or_self, if_false, if_true, Nat.lt_irrefl]
  rfl

theorem takeStop_skipped : takeStop s 0 = accept ((s.closeLanes .skipped).finish .skipped) [3] := by
  simp only [takeStop, hidle, hresult, or_self, if_false, Nat.not_lt_zero, Nat.zero_ne_one]
  rfl

end

theorem enterResult_stays (h : s.tr.resultInterval ≠ 0) (k : FinishKind) : s.enterResult k = s.resultEntry k := if_neg h

theorem enterResult_finishes (h : s.tr.resultInterval = 0) (k : FinishKind) :
    s.enterResult k = (s.resultEntry k).finish k := if_pos h

/-- The Transport with the five values of a TRANSPORT_SET, clamped (R97). -/
def Transport.withSettings (t : Transport) (auto : Byte) (y e h r : Half) : Transport :=
  { t with
    autoAdvance := auto == 1
    syncTimeout := max 20 (min 200 y.toNat)
    settle := min 100 e.toNat
    holdLimit := max 500 (min 6000 h.toNat)
    resultInterval := min 1500 r.toNat }

theorem takeTransportSet_badValue {auto : Nat} (h : 1 < auto) (y e l r : Nat) :
    takeTransportSet s auto y e l r = refuse s .badValue := if_pos h

theorem takeTransportSet_flag {auto : Byte} (ha : auto = 0 ∨ auto = 1) (y e l r : Half) :
    let t := s.tr.withSettings auto y e l r
    takeTransportSet s auto.toNat y.toNat e.toNat l.toNat r.toNat = accept (s.setTr t).autoAdvance
      ([auto] ++ n16 t.syncTimeout ++ n16 t.settle ++ n16 t.holdLimit ++ n16 t.resultInterval) := by
  rcases ha with rfl | rfl <;> simp [takeTransportSet, Transport.withSettings, clamp, flag8]

end

/-- The bytes of a TRANSPORT_READ's reply data from the Transport and the PLAYING entry's id (R214). -/
def transportReading (t : Transport) (id : Nat) : List Byte :=
  n8 t.state.value ++ (n32 t.t ++ (n32 (t.t / 256) ++ (n32 t.duration ++ (n16 t.rate ++ (i8 t.key ++ (i32 t.slew ++
    (n16 t.jumpCount ++ (n8 t.epoch ++ (n8 id ++ (n8 t.syncTimer ++ (n8 t.settleCount ++ (n16 t.holdCount ++
      (n16 t.cueStallCount ++ (n16 t.resultCountdown ++ n8 (finishValue t.finish)))))))))))))))

theorem takeTransportRead_eq (s : State) : takeTransportRead s =
    accept s (transportReading s.tr (((playingEntry s.rq.entries).map (·.id)).getD 0)) := by
  simp only [takeTransportRead, transportReading, List.append_assoc]

/-- Settles O43: each branch of STOP; TRANSPORT_SET's values set and auto-advance tested; the reading, field by field. -/
theorem stopAndSettings : Obligations.StopAndSettings := by
  refine ⟨?_, ?_, ?_⟩
  · intro s tag flag hlink m
    have sent {t : State} {code : ResultCode} {data : List Byte} (ha : takeStop s flag.toNat = ⟨t, code, data⟩)
        (ht : t.link = s.link) : exec (.stop tag flag) s = .next (t.answered m code data) :=
      sendRequest_taken s tag (.stop flag) t code data hlink nofun rfl (by simp [Request.payload]) ha ht
    refine ⟨fun h => sent (takeStop_badValue h) rfl, fun h hs => sent (takeStop_badState h hs) rfl, ?_⟩
    rintro rfl hidle hresult hinterval
    refine sent (t := s.resultEntry .aborted) ((takeStop_shown hidle hresult).trans ?_) rfl
    rw [enterResult_stays hinterval]
    rfl
  · intro s tag auto y e h r hlink m set data
    have sent {t : State} {code : ResultCode} {data : List Byte}
        (ha : takeTransportSet s auto.toNat y.toNat e.toNat h.toNat r.toNat = ⟨t, code, data⟩) (ht : t.link = s.link) :
        exec (.transportSet tag auto y e h r) s = .next (t.answered m code data) :=
      sendRequest_taken s tag (.transportSet auto y e h r) t code data hlink nofun rfl
        (by simp [Request.payload, le16_length]) ha ht
    refine ⟨fun hbad => sent (takeTransportSet_badValue hbad ..) rfl, fun hauto => ?_⟩
    have hflag : auto = 0 ∨ auto = 1 := by
      rcases Nat.le_one_iff_eq_zero_or_eq_one.1 hauto with h0 | h1
      · exact .inl (BitVec.eq_of_toNat_eq h0)
      · exact .inr (BitVec.eq_of_toNat_eq h1)
    have taken : takeTransportSet s auto.toNat y.toNat e.toNat h.toNat r.toNat = accept set.autoAdvance data :=
      takeTransportSet_flag hflag y e h r
    constructor
    · intro hkeeps
      refine sent (taken.trans ?_) rfl
      have : set.autoAdvance = set := autoAdvance_keeps (by
        rcases hkeeps with rfl | hs | hhead
        · exact .inr (.inl rfl)
        · exact .inl hs
        · exact .inr (.inr hhead))
      rw [this]
      rfl
    · rintro x rfl hidle hhead hst
      refine sent (taken.trans ?_) (cue_link set x)
      rw [autoAdvance_cues (s := set) hidle rfl hhead hst]
      rfl
  · intro s tag hlink
    refine ⟨_, sendRequest_taken s tag .transportRead s .ok _ hlink nofun rfl (Nat.zero_le _) (takeTransportRead_eq s) rfl,
      rfl, ?_, join32 _, join32 _, join32 _, join16 _, rfl, join32 _, join16 _, rfl, rfl, rfl, rfl, join16 _, join16 _,
      join16 _, ?_⟩
    · change BitVec.ofNat 8 s.tr.state.value = _
      cases s.tr.state <;> rfl
    · change BitVec.ofNat 8 (finishValue s.tr.finish) = _
      rcases s.tr.finish with _ | _ | _ | _ <;> rfl

end Sys2Proof.Machine

namespace Sys2Proof.Machine

/-! ## What a raise leaves of the other members (R202) -/

theorem Member.has_single (m x : Member) : AttentionSet.has m.single x = decide (x = m) := by
  cases m <;> cases x <;> rfl

@[simp] theorem Attention.raise_mask (a : Attention) (m : Member) : (a.raise m).mask = a.mask := by
  unfold Attention.raise
  split_ifs <;> rfl

@[simp] theorem Attention.raise_micAbsentHolds (a : Attention) (m : Member) :
    (a.raise m).micAbsentHolds = a.micAbsentHolds := by
  unfold Attention.raise
  split_ifs <;> rfl

/-- A raise latches its member, when that is not masked, and no other. -/
theorem Attention.has_raise (a : Attention) (m x : Member) : AttentionSet.has (a.raise m).latched x =
    (AttentionSet.has a.latched x || (decide (x = m) && !AttentionSet.has a.mask m)) := by
  unfold Attention.raise
  by_cases hx : x = m
  · subst hx
    split_ifs with hmask hlatched
    · simp [hmask]
    · simp [hlatched]
    · have hsingle := Member.has_single x x
      simp_all [AttentionSet.has, BitVec.getLsbD_or]
  · split_ifs
    · simp [hx]
    · simp [hx]
    · have hsingle := Member.has_single m x
      simp_all [AttentionSet.has, BitVec.getLsbD_or]

/-! ### But for what microphones raise (R105, R114) -/

theorem Attention.agreesOffMics.refl (a : Attention) : a.agreesOffMics a := ⟨rfl, fun _ _ _ => rfl⟩

theorem Attention.agreesOffMics.trans {a b c : Attention} (h : a.agreesOffMics b) (h' : b.agreesOffMics c) :
    a.agreesOffMics c :=
  ⟨h'.1.trans h.1, fun m ha ho => (h'.2 m ha ho).trans (h.2 m ha ho)⟩

/-- A member raised in both. -/
theorem Attention.agreesOffMics.raise {a b : Attention} (h : a.agreesOffMics b) (m : Member) :
    (a.raise m).agreesOffMics (b.raise m) :=
  ⟨by simp [h.1], fun x ha ho => by rw [Attention.has_raise, Attention.has_raise, h.1, h.2 x ha ho]⟩

/-- A microphone's member raised. -/
theorem Attention.agreesOffMics_raise (a : Attention) {m : Member} (hm : m = .micAbsent ∨ m = .micOverload) :
    a.agreesOffMics (a.raise m) := by
  refine ⟨Attention.raise_mask a m, fun x ha ho => ?_⟩
  have hx : x ≠ m := by rcases hm with rfl | rfl <;> assumption
  simp [Attention.has_raise, hx]

/-! ## The block completion, its Transport's steps known (R80, R102, R125) -/

theorem songImage_congr {s t : State} (ha : t.slotA = s.slotA) (hb : t.slotB = s.slotB) : t.songImage = s.songImage := by
  have hslot (n : SlotName) : t.slot n = s.slot n := by
    cases n
    · exact ha
    · exact hb
  simp only [State.songImage, State.activeSlot, ha, hb, hslot]

/-- The four block records change the Microphone Front End and what it gives the Attention Unit. -/
theorem micBlock_eq (s : State) (st : Stamp) (x : BlockInput) : micBlock s st x =
    (s.setMfe { s.mfe with channels := s.mfe.channels.mapIdx fun i c => c.block s.mfe st (x.get i) }).setAtt
      (micBlock s st x).att := by
  unfold micBlock State.raiseIf
  simp only
  split_ifs <;> rfl

theorem micBlock_agreesOffMics (s : State) (st : Stamp) (x : BlockInput) :
    s.att.agreesOffMics (micBlock s st x).att := by
  have raised (u : State) (c : Bool) {m : Member} (hm : m = .micAbsent ∨ m = .micOverload) :
      u.att.agreesOffMics (u.raiseIf c m).att := by
    cases c
    · exact .refl _
    · exact Attention.agreesOffMics_raise _ hm
  have given (b : Bool) : s.att.agreesOffMics { s.att with micAbsentHolds := b } := ⟨rfl, fun _ _ _ => rfl⟩
  simp only [micBlock]
  refine .trans ?_ (raised _ _ (.inr rfl))
  refine .trans ?_ (raised _ _ (.inl rfl))
  exact given _

section
variable (s : State) (x : BlockInput)

theorem recordsTaken_att : (transportBlock s).att.agreesOffMics (recordsTaken x s).att :=
  micBlock_agreesOffMics (transportBlock s) _ x

/-- Each lane takes its channel's new block record (R125). -/
theorem recordsTaken_su : (recordsTaken x s).su = { (transportBlock s).su with
    lanes := (transportBlock s).su.lanes.mapIdx fun k l =>
      l.block (transportBlock s).songImage ((recordsTaken x s).mfe.channels.get k).latest } := by
  have himage : (micBlock (transportBlock s) (transportBlock s).tr.stamp x).songImage = (transportBlock s).songImage :=
    songImage_congr (by simp) (by simp)
  simp only [recordsTaken, scoringBlock, himage, State.setSu_su, State.setSu_mfe, micBlock_su]

end

theorem Transport.endKind_none {t : Transport} (hgoes : t.endsSong = false) (hkeeps : t.givesUp = false) :
    t.endKind = none := by
  simp [Transport.endKind, hgoes, hkeeps]

theorem finishOwed_none {t : Transport} (h : t.endKind = none) (s : State) : t.finishOwed s = s := by
  simp [Transport.finishOwed, h]

/-- What a block completion that brings no song's end leaves: the Transport `tr`, the attention `att` but for what the
microphones raise, the lanes with their records taken, and the rest as it was. -/
structure State.blockLeaves (s t : State) (tr : Transport) (att : Attention) : Prop where
  keeps : s.blockKeeps t
  blocks : t.blocks = s.blocks + 1
  transport : t.tr = tr
  attention : att.agreesOffMics t.att
  lanes : t.su = { s.su with
    lanes := s.su.lanes.mapIdx fun k l => l.block s.songImage (t.mfe.channels.get k).latest }

theorem chooseNext_agreesOffMics (s : State) : s.att.agreesOffMics (chooseNext s).att :=
  ⟨chooseNext_mask s, fun m _ _ => by rw [chooseNext_latched]⟩

/-- A block completion whose Transport's steps change the Transport, and raise members, alone. -/
theorem blockEvent_leaves {s : State} {x : BlockInput} {tr : Transport} {att : Attention}
    (hblock : transportBlock s = (s.setTr tr).setAtt att) (hend : s.tr.endKind = none) :
    s.blockLeaves (chooseNext (blockEvent x s)) tr att := by
  have hatt := recordsTaken_att s x
  rw [hblock] at hatt
  have himage : (transportBlock s).songImage = s.songImage := songImage_congr (by simp [hblock]) (by simp [hblock])
  constructor
  · constructor <;> simp [finishOwed_none hend, hblock, State.sameLink]
  · simp
  · simp [finishOwed_none hend, hblock]
  · have hafter : (blockEvent x s).att = (recordsTaken x s).att := by rw [blockEvent_att, finishOwed_none hend]
    exact hatt.trans (hafter ▸ chooseNext_agreesOffMics (blockEvent x s))
  · have hsu := recordsTaken_su s x
    rw [himage] at hsu
    simp only [chooseNext_su, chooseNext_mfe, blockEvent_su, blockEvent_mfe, finishOwed_none hend, hsu]
    simp only [hblock, State.setAtt_su, State.setTr_su]

/-! ## The clock runs (R77 to R79, R86 to R88, R95) -/

/-- Short of the song's end the clock takes five times the rate and the slew step (R78, R79). -/
theorem Transport.ticked_goesOn {t : Transport}
    (h : (t.t : Int) + 5 * t.rate + slewStep t.slew < 256 * t.duration) : t.ticked = { t with
      t := ((t.t : Int) + 5 * t.rate + slewStep t.slew).toNat, slew := t.slew - slewStep t.slew,
      syncTimer := t.syncTimer + 1 } := by
  have hmin : min (256 * t.duration) ((t.t : Int) + 5 * t.rate + slewStep t.slew).toNat =
      ((t.t : Int) + 5 * t.rate + slewStep t.slew).toNat := Nat.min_eq_right (by omega)
  simp only [Transport.ticked, Transport.advance, hmin]

theorem Transport.endsSong_goesOn {t : Transport} (hd : 0 < t.duration)
    (h : (t.t : Int) + 5 * t.rate + slewStep t.slew < 256 * t.duration) : t.endsSong = false := by
  rw [Bool.eq_false_iff, Ne, Transport.endsSong_iff]
  rintro ⟨_, hend⟩
  simp only [Transport.advance] at hend
  omega

theorem Transport.endsSong_still {t : Transport} (hplay : t.state ≠ .play) (hrecover : t.state ≠ .recover) :
    t.endsSong = false := by
  rw [Bool.eq_false_iff, Ne, Transport.endsSong_iff]
  exact fun h => h.1.elim hplay hrecover

theorem Transport.givesUp_elsewhere {t : Transport} (h : t.state ≠ .hold) : t.givesUp = false := by
  rw [Bool.eq_false_iff, Ne, Transport.givesUp_iff]
  exact fun hg => h hg.1

/-- Settles O44: the Transport's branch at each block completion; the rest of the block is `blockEvent_leaves`. -/
theorem clockRuns : Obligations.ClockRuns := by
  intro s input hlow step advanced ticked goesOn leaves
  have arrives : exec (.blockCompletion input) s = .next (chooseNext (blockEvent input s)) := arrival_awake _ _ hlow
  have due {c : Instr} {b : Bool} (hc : exec c s = occurrence b (blockEvent input) s) (hb : b = true) :
      exec c s = .next (chooseNext (blockEvent input s)) := hc.trans ((occurrence_due _ _ _ hb).trans arrives)
  have left {c : Instr} (hc : exec c s = .next (chooseNext (blockEvent input s))) {tr : Transport} {att : Attention}
      (hblock : transportBlock s = (s.setTr tr).setAtt att) (hend : s.tr.endKind = none) : leaves c tr att := by
    obtain ⟨hkeeps, hblocks, htr, hatt, hlanes⟩ := blockEvent_leaves (x := input) hblock hend
    exact ⟨_, hc, hkeeps, hblocks, htr, hatt, hlanes⟩
  -- the song ends in PLAY, RECOVER and HOLD alone
  have noEnd (hplay : s.tr.state ≠ .play) (hrecover : s.tr.state ≠ .recover) (hhold : s.tr.state ≠ .hold) :
      s.tr.endKind = none :=
    Transport.endKind_none (Transport.endsSong_still hplay hrecover) (Transport.givesUp_elsewhere hhold)
  have goes (hgo : goesOn) : s.tr.endsSong = false ∧ s.tr.ticked = ticked :=
    ⟨Transport.endsSong_goesOn hgo.1 hgo.2, Transport.ticked_goesOn hgo.2⟩
  have runsOn (hruns : s.tr.state = .play ∨ s.tr.state = .recover) (hgo : goesOn) : s.tr.endKind = none :=
    Transport.endKind_none (goes hgo).1 (Transport.givesUp_elsewhere (by rcases hruns with h | h <;> simp [h]))
  have inTime (h : s.tr.syncTimer + 1 < s.tr.syncTimeout) : s.tr.losesSync = false := by
    rw [Bool.eq_false_iff, Ne, Transport.losesSync_iff]
    rintro ⟨_, _, hle⟩
    omega
  refine ⟨fun h => left arrives ?_ ?_, fun h hcount => left arrives ?_ ?_, fun h hcount => ?_,
    fun hruns hgo hlost => ?_, fun h hgo htime => left arrives ?_ (runsOn (.inl h) hgo), fun h hgo htime => ⟨?_, ?_⟩,
    fun h hcount => left arrives ?_ ?_, fun h hcount => left arrives ?_ ?_⟩
  · exact transportBlock_still h
  · rcases h with h | h <;> exact noEnd (by simp [h]) (by simp [h]) (by simp [h])
  · have hstalls : s.tr.stalls = false := Bool.eq_false_iff.2 fun hb => hcount (Transport.stalls_iff.1 hb).2
    rw [transportBlock_cued h, hstalls]
    rfl
  · exact noEnd (by simp [h]) (by simp [h]) (by simp [h])
  · have hstalls : s.tr.stalls = true := Transport.stalls_iff.2 ⟨h, hcount⟩
    have hc : exec (.cueStall input) s = _ := due rfl hstalls
    refine ⟨left hc ?_ (noEnd (by simp [h]) (by simp [h]) (by simp [h])), arrives.trans hc.symm⟩
    rw [transportBlock_cued h, hstalls, hcount]
    rfl
  · have hsync : s.tr.losesSync = true := Transport.losesSync_iff.2 ⟨hruns, (goes hgo).1, hlost⟩
    have hc : exec (.syncTimeout input) s = _ := due rfl hsync
    refine ⟨left hc ?_ (runsOn hruns hgo), arrives.trans hc.symm⟩
    rw [transportBlock_syncLost hsync, (goes hgo).2]
    rfl
  · rw [transportBlock_play (goes hgo).1 (inTime htime) h, (goes hgo).2]
    rfl
  · intro hspent
    have hsettles : s.tr.settles = true := Transport.settles_iff.2 ⟨h, (goes hgo).1, inTime htime, hspent⟩
    have hc : exec (.settleSpent input) s = _ := due rfl hsettles
    refine ⟨left hc ?_ (runsOn (.inr h) hgo), arrives.trans hc.symm⟩
    rw [transportBlock_settled (goes hgo).1 (inTime htime) h hspent, (goes hgo).2]
    rfl
  · intro hcount
    refine left arrives ?_ (runsOn (.inr h) hgo)
    rw [transportBlock_settling (goes hgo).1 (inTime htime) h hcount, (goes hgo).2]
    rfl
  · have hkeeps : s.tr.givesUp = false := Bool.eq_false_iff.2 fun hb => Nat.not_le.2 hcount (Transport.givesUp_iff.1 hb).2
    exact transportBlock_holding h hkeeps
  · refine Transport.endKind_none (Transport.endsSong_still (by simp [h]) (by simp [h])) (Bool.eq_false_iff.2 fun hb => ?_)
    exact Nat.not_le.2 hcount (Transport.givesUp_iff.1 hb).2
  · have hshown : s.tr.resultSpent = false :=
      Bool.eq_false_iff.2 fun hb => Nat.not_le.2 hcount (Transport.resultSpent_iff.1 hb).2
    exact transportBlock_showing h hshown
  · exact noEnd (by simp [h]) (by simp [h]) (by simp [h])

end Sys2Proof.Machine

namespace Sys2Proof.Machine

/-! ## The finish of a song (R23, R42, R69, R96, R135, R154) -/

/-- The greater of two scores, where there is one. -/
def betterScore : Option Nat → Option Nat → Option Nat
  | none, x => x
  | some b, some x => some (max b x)
  | some b, none => some b

theorem bestScore_eq (lanes : Quad LaneResult) :
    bestScore lanes = lanes.toList.foldl (fun best l => betterScore best l.score) none := rfl

theorem betterScore_le {a b : Option Nat} {x : Nat} (h : a = some x ∨ b = some x) : ∃ y, betterScore a b = some y ∧ x ≤ y := by
  rcases a with _ | a <;> rcases b with _ | b <;> simp [betterScore] at h ⊢ <;> omega

theorem betterScore_some {a b : Option Nat} {y : Nat} (h : betterScore a b = some y) : a = some y ∨ b = some y := by
  rcases a with _ | a <;> rcases b with _ | b <;> simp [betterScore] at h ⊢ <;> omega

/-- A fold of `betterScore` gives a score that is among those it meets, and none is greater. -/
theorem foldl_betterScore (l : List LaneResult) (a : Option Nat) :
    (∀ x, a = some x ∨ (∃ r ∈ l, r.score = some x) →
      ∃ y, l.foldl (fun best r => betterScore best r.score) a = some y ∧ x ≤ y) ∧
    ∀ y, l.foldl (fun best r => betterScore best r.score) a = some y → a = some y ∨ ∃ r ∈ l, r.score = some y := by
  induction l generalizing a with
  | nil => exact ⟨fun x hx => ⟨x, by simpa using hx, Nat.le_refl x⟩, fun y hy => .inl hy⟩
  | cons r rest ih =>
    obtain ⟨above, among⟩ := ih (betterScore a r.score)
    refine ⟨fun x hx => ?_, fun y hy => ?_⟩
    · have first (h : a = some x ∨ r.score = some x) : 
          ∃ y, (r :: rest).foldl (fun best r => betterScore best r.score) a = some y ∧ x ≤ y := by
        obtain ⟨z, hz, hxz⟩ := betterScore_le h
        obtain ⟨y, hy, hzy⟩ := above z (.inl hz)
        exact ⟨y, hy, hxz.trans hzy⟩
      rcases hx with h | ⟨r', hr', h⟩
      · exact first (.inl h)
      · rcases List.mem_cons.1 hr' with rfl | hr'
        · exact first (.inr h)
        · exact above x (.inr ⟨r', hr', h⟩)
    · rcases among y hy with h | ⟨r', hr', h⟩
      · rcases betterScore_some h with h | h
        · exact .inl h
        · exact .inr ⟨r, List.mem_cons_self, h⟩
      · exact .inr ⟨r', List.mem_cons_of_mem _ hr', h⟩

theorem Quad.mem_toList {α : Type} {q : Quad α} {x : α} : x ∈ q.toList ↔ ∃ k, q.get k = x := by
  constructor
  · simp only [Quad.toList, List.mem_cons, List.not_mem_nil, or_false]
    rintro (rfl | rfl | rfl | rfl)
    · exact ⟨0, rfl⟩
    · exact ⟨1, rfl⟩
    · exact ⟨2, rfl⟩
    · exact ⟨3, rfl⟩
  · rintro ⟨k, rfl⟩
    fin_cases k <;> simp [Quad.toList, Quad.get]

/-- The news of a finish carries the greatest of the lanes' song scores, or none (R42). -/
theorem bestScore_lanes (lanes : Quad Lane) :
    (∀ k x, (lanes.get k).score = some x → ∃ b, bestScore (lanes.map Lane.result) = some b ∧ x ≤ b) ∧
      ∀ b, bestScore (lanes.map Lane.result) = some b → ∃ k, (lanes.get k).score = some b := by
  obtain ⟨above, among⟩ := foldl_betterScore (lanes.map Lane.result).toList none
  rw [bestScore_eq]
  refine ⟨fun k x hx => above x (.inr ⟨(lanes.get k).result, Quad.mem_toList.2 ⟨k, Quad.get_map ..⟩, hx⟩), fun b hb => ?_⟩
  rcases among b hb with h | ⟨r, hr, h⟩
  · cases h
  · obtain ⟨k, rfl⟩ := Quad.mem_toList.1 hr
    rw [Quad.get_map] at h
    exact ⟨k, h⟩

section
variable {s : State} {e : Entry} {n : SlotName} (he : playingEntry s.rq.entries = some e) (hn : s.activeSlot = some n)
include he hn

/-- What the finish leaves, the PLAYING entry and the ACTIVE slot being known. -/
theorem finishSong_eq (kind : FinishKind) : s.finishSong kind = { s.setSlot n (s.slot n).emptied with
    rq := { s.rq with
      entries := removeEntry s.rq.entries e.id
      history := (⟨e.id, e.song, e.requesters, kind, s.su.lanes.map Lane.result⟩ :: s.rq.history).take 8 }
    pbc := (s.tellPads e.requesters ⟨.finished (bestScore (s.su.lanes.map Lane.result)), e.song⟩).pbc
    su := s.su.cleared
    llu := s.llu.emptied .none
    tr := s.tr.finished
    att := (s.att.raise .queueChanged).raise .songEnded } := by
  have hactive : ((s.shelve kind).setSu (s.shelve kind).su.cleared).activeSlot = some n := by
    rw [← hn]
    simp [State.activeSlot]
  simp only [State.finishSong, State.releaseSlot, hactive]
  simp only [State.shelve, he]
  cases n <;> rfl

theorem finishSong_songFinished (kind : FinishKind) : s.songFinished (s.finishSong kind) kind e n := by
  obtain ⟨above, among⟩ := bestScore_lanes s.su.lanes
  have hslot (k : SlotName) := finishSong_slot s kind k
  simp only [hn, Option.some.injEq] at hslot
  have heq := finishSong_eq he hn kind
  refine ⟨?_, ⟨_, above, among, ?_⟩, (hslot n).trans (if_pos rfl), fun k hk => (hslot k).trans (if_neg (Ne.symm hk)), ?_, ?_, ?_, ?_,
    by simp⟩ <;> rw [heq] <;> rfl

end

/-! ### The finish in states that differ in what microphones raise -/

/-- `t` is `s` but for what microphones raise. -/
def State.offMics (s t : State) : Prop := ∃ a, s.att.agreesOffMics a ∧ t = s.setAtt a

theorem State.offMics.cue {s t : State} (h : s.offMics t) (e : Entry) : (s.cue e).offMics (t.cue e) := by
  obtain ⟨a, ha, rfl⟩ := h
  cases hn : s.slotHolding e.id with
  | none =>
    rw [cue_unheld hn, cue_unheld (s := s.setAtt a) hn]
    exact ⟨a, ha, rfl⟩
  | some n =>
    rw [cue_eq hn, cue_eq (s := s.setAtt a) hn]
    refine ⟨_, (ha.raise .songStarted).raise .queueChanged, ?_⟩
    cases n <;> rfl

theorem State.offMics.autoAdvance {s t : State} (h : s.offMics t) : s.autoAdvance.offMics t.autoAdvance := by
  have same : t.tr = s.tr ∧ t.rq = s.rq := by
    obtain ⟨a, _, rfl⟩ := h
    exact ⟨rfl, rfl⟩
  obtain ⟨htr, hrq⟩ := same
  rcases autoAdvance_cases s with hs | ⟨e, hi, ha, hhead, hst, hs⟩
  · rcases autoAdvance_cases t with ht | ⟨e, hi, ha, hhead, hst, ht⟩
    · rwa [hs, ht]
    · rw [htr] at hi ha
      rw [hrq] at hhead
      rw [ht, autoAdvance_cues hi ha hhead hst]
      exact h.cue e
  · rw [hs, autoAdvance_cues (s := t) (htr ▸ hi) (htr ▸ ha) (hrq ▸ hhead) hst]
    exact h.cue e

theorem State.offMics.finishSong {s t : State} (h : s.offMics t) {e : Entry} {n : SlotName}
    (he : playingEntry s.rq.entries = some e) (hn : s.activeSlot = some n) (kind : FinishKind) :
    (s.finishSong kind).offMics (t.finishSong kind) := by
  obtain ⟨a, ha, rfl⟩ := h
  rw [finishSong_eq he hn, finishSong_eq (s := s.setAtt a) he hn]
  refine ⟨_, (ha.raise .queueChanged).raise .songEnded, ?_⟩
  cases n <;> rfl

end Sys2Proof.Machine

namespace Sys2Proof.Machine

/-! ## A block at which the song ends (R78, R87, R92 to R94) -/

theorem Lane.close_live (l : Lane) (m : ImageMemory) (kind : FinishKind) : (l.close m kind).live = false := by
  unfold Lane.close
  split_ifs with h
  · rfl
  · exact Bool.eq_false_iff.2 h

/-- An IDLE or CLOSED lane takes no block record (R125). -/
theorem Lane.block_done {l : Lane} (h : l.live = false) (m : ImageMemory) (r : BlockRecord) : l.block m r = l := by
  have hstate : l.state = .idle ∨ l.state = .closed := by
    cases hs : l.state <;> simp [Lane.live, hs] at h ⊢
  rcases l with ⟨state⟩
  rcases hstate with rfl | rfl <;> rfl

theorem Quad.mapIdx_fixed {α : Type} {f : Fin 4 → α → α} {q : Quad α} (h : ∀ k, f k (q.get k) = q.get k) :
    q.mapIdx f = q := by
  obtain ⟨a, b, c, d⟩ := q
  exact Quad.mk.injEq .. ▸ ⟨h 0, h 1, h 2, h 3⟩

/-- Once the lanes are closed the block's records change no lane. -/
theorem recordsTaken_su_closed {s : State} (x : BlockInput)
    (h : ∀ k, ((transportBlock s).su.lanes.get k).live = false) : (recordsTaken x s).su = (transportBlock s).su := by
  have hlanes : ((transportBlock s).su.lanes.mapIdx fun k l =>
      l.block (transportBlock s).songImage ((recordsTaken x s).mfe.channels.get k).latest) = (transportBlock s).su.lanes :=
    Quad.mapIdx_fixed fun k => Lane.block_done (h k) _ _
  rw [recordsTaken_su, hlanes]

/-- After the Transport's steps, the records change the Microphone Front End, the Scoring Unit and the attention alone. -/
theorem recordsTaken_eq (x : BlockInput) (s : State) : recordsTaken x s =
    (((transportBlock s).setMfe (recordsTaken x s).mfe).setSu (recordsTaken x s).su).setAtt (recordsTaken x s).att := by
  have hmic := micBlock_eq (transportBlock s) (transportBlock s).tr.stamp x
  have hmfe := congrArg State.mfe hmic
  change (recordsTaken x s).mfe = _ at hmfe
  rw [hmfe]
  exact congrArg (·.setSu (recordsTaken x s).su) hmic

/-- The next block completion ends the song with this kind, the clock standing at `clock` (R78, R87). -/
def Transport.endsAs (t : Transport) (kind : FinishKind) (clock : Nat) : Prop :=
  t.endsSong = true ∧ kind = .completed ∧ clock = 256 * t.duration ∨
    t.givesUp = true ∧ kind = .aborted ∧ clock = t.t

/-- RESULT entered with the clock standing at `clock`. -/
def State.ended (s : State) (kind : FinishKind) (clock : Nat) : State :=
  (s.setTr { s.tr with t := clock }).resultEntry kind

section
variable {s : State} {kind : FinishKind} {clock : Nat} (h : s.tr.endsAs kind clock)
include h

theorem Transport.endsAs.endKind : s.tr.endKind = some kind := by
  rcases h with ⟨hends, rfl, _⟩ | ⟨hgives, rfl, _⟩
  · simp [Transport.endKind, hends]
  · have hhold := (Transport.givesUp_iff.1 hgives).1
    simp [Transport.endKind, Transport.endsSong_still (t := s.tr) (by simp [hhold]) (by simp [hhold]), hgives]

theorem transportBlock_ended : transportBlock s = s.ended kind clock := by
  rcases h with ⟨hends, rfl, rfl⟩ | ⟨hgives, rfl, rfl⟩
  · have hclock := (Transport.endsSong_iff.1 hends).2
    rw [transportBlock_songEnd s hends, State.ended, ← hclock]
    rfl
  · rw [transportBlock_holdLimit s hgives]
    rfl

/-- The records of the block leave RESULT as it was entered, but for the Microphone Front End and its raises. -/
theorem recordsTaken_ended (x : BlockInput) :
    ((s.ended kind clock).setMfe (recordsTaken x s).mfe).offMics (recordsTaken x s) := by
  have hblock := transportBlock_ended h
  have hsu : (recordsTaken x s).su = (s.ended kind clock).su := by
    rw [recordsTaken_su_closed x, hblock]
    rw [hblock]
    intro k
    exact (congrArg Lane.live (Quad.get_map ..)).trans (Lane.close_live ..)
  have hatt := recordsTaken_att s x
  rw [hblock] at hatt
  refine ⟨_, hatt, ?_⟩
  conv_lhs => rw [recordsTaken_eq, hsu, hblock]
  rfl

end

/-! ### From what follows the records to the end of the arrival -/

/-- The block completion of `s` reaches `t`, which is `u` but for what microphones raise, the pad bus's pacing and what
the transmitter has begun. -/
structure State.blockReaches (s u t : State) : Prop where
  transport : t.tr = u.tr
  lanes : t.su = u.su
  queue : t.rq = u.rq
  slotA : t.slotA = u.slotA
  slotB : t.slotB = u.slotB
  rows : t.llu = u.llu
  compositor : t.cmp = s.cmp
  registry : t.pbc.registry = u.pbc.registry
  link : s.sameLink t
  attention : u.att.agreesOffMics t.att

theorem blockEvent_reaches {s u : State} {x : BlockInput} (h : u.offMics (s.tr.finishOwed (recordsTaken x s))) :
    s.blockReaches u (chooseNext (blockEvent x s)) := by
  obtain ⟨a, ha, heq⟩ := h
  constructor
  case attention => exact ⟨by simp [heq, ha.1], fun m hm ho => by simp [heq, ha.2 m hm ho]⟩
  all_goals simp [heq, State.sameLink]

/-! ### The end of a song, whole -/

section
variable {s : State} (x : BlockInput) {kind : FinishKind} {clock : Nat} (h : s.tr.endsAs kind clock)
include h

/-- The block at which RESULT is entered is stamped with it, whatever follows (R80, R94). -/
theorem blockEvent_endStamp (k : Fin 4) : ((chooseNext (blockEvent x s)).mfe.channels.get k).latest.stamp =
    ⟨.result, clock / 256, s.tr.key, s.tr.epoch⟩ := by
  have hstamp : (transportBlock s).tr.stamp = ⟨.result, clock / 256, s.tr.key, s.tr.epoch⟩ := by
    rw [transportBlock_ended h]
    rfl
  rw [← hstamp, chooseNext_mfe, blockEvent_mfe, recordsTaken_mfe, Quad.get_mapIdx]
  rfl

/-- With a result interval RESULT stands at the end of the arrival. -/
theorem blockEvent_shown (hinterval : s.tr.resultInterval ≠ 0) :
    s.blockReaches (s.ended kind clock) (chooseNext (blockEvent x s)) := by
  have hreached := recordsTaken_ended h x
  have howed : s.tr.finishOwed (recordsTaken x s) = recordsTaken x s := by
    rcases finishOwed_cases s.tr (recordsTaken x s) with ⟨_, _, h0, _⟩ | ⟨_, hsame⟩
    · rw [recordsTaken_tr, transportBlock_ended h] at h0
      exact absurd h0 hinterval
    · exact hsame
  obtain ⟨htr, hsu, hrq, ha, hb, hllu, hcmp, hreg, hlink, hatt⟩ := blockEvent_reaches (howed.symm ▸ hreached)
  exact ⟨htr, hsu, hrq, ha, hb, hllu, hcmp, hreg, hlink, hatt⟩

/-- With a result interval of 0 the song finishes in the same arrival, and auto-advance is tested (R92, R96). -/
theorem blockEvent_finished {e : Entry} {n : SlotName} (hinterval : s.tr.resultInterval = 0)
    (he : playingEntry s.rq.entries = some e) (hn : s.activeSlot = some n) :
    s.blockReaches (((s.ended kind clock).setMfe (recordsTaken x s).mfe).finishSong kind).autoAdvance
      (chooseNext (blockEvent x s)) := by
  refine blockEvent_reaches ?_
  have hfinish : s.tr.finishOwed (recordsTaken x s) = (recordsTaken x s).finish kind := by
    have h0 : (recordsTaken x s).tr.resultInterval = 0 := by
      rw [recordsTaken_tr, transportBlock_ended h]
      exact hinterval
    simp only [Transport.finishOwed, h.endKind]
    exact if_pos h0
  rw [hfinish]
  exact ((recordsTaken_ended h x).finishSong he hn kind).autoAdvance

end

/-- The lanes having taken the block's records in `u`: the rest is as `u` has it. -/
theorem State.blockReaches.unrecorded {s u t : State} {m : MicFrontEnd} {v : ScoringUnit}
    (h : s.blockReaches ((u.setMfe m).setSu v) t) : t.tr = u.tr ∧ t.rq = u.rq ∧ t.slotA = u.slotA ∧ t.slotB = u.slotB ∧
      t.llu = u.llu ∧ t.cmp = s.cmp ∧ t.pbc.registry = u.pbc.registry ∧ s.sameLink t ∧ u.att.agreesOffMics t.att :=
  ⟨h.transport, h.queue, h.slotA, h.slotB, h.rows, h.compositor, h.registry, h.link, h.attention⟩

/-- The result countdown spent: the song finishes, auto-advance is tested, and the lanes then take the block's records
(R95, R96). -/
theorem blockEvent_countdownSpent {s : State} (x : BlockInput) {kind : FinishKind} {e : Entry} {n : SlotName}
    (hspent : s.tr.resultSpent = true) (hkind : s.tr.finish = some kind) (he : playingEntry s.rq.entries = some e)
    (hn : s.activeSlot = some n) :
    s.blockReaches (((s.finishSong kind).autoAdvance.setMfe (recordsTaken x s).mfe).setSu (recordsTaken x s).su)
      (chooseNext (blockEvent x s)) ∧ transportBlock s = (s.finishSong kind).autoAdvance := by
  have hstate := (Transport.resultSpent_iff.1 hspent).1
  have hblock : transportBlock s = (s.finishSong kind).autoAdvance := by
    rw [transportBlock_resultSpent hspent, hkind, Option.getD_some, State.finish]
    congr 1
    have hcounted := finishSong_eq (s := s.setTr { s.tr with resultCountdown := s.tr.resultCountdown - 1 }) he hn kind
    rw [hcounted, finishSong_eq he hn]
    cases n <;> rfl
  have hend : s.tr.endKind = none := Transport.endKind_none
    (Transport.endsSong_still (by simp [hstate]) (by simp [hstate])) (Transport.givesUp_elsewhere (by simp [hstate]))
  have hatt := recordsTaken_att s x
  refine ⟨blockEvent_reaches ?_, hblock⟩
  rw [finishOwed_none hend]
  rw [hblock] at hatt
  refine ⟨_, hatt, ?_⟩
  conv_lhs => rw [recordsTaken_eq, hblock]

/-- A clock that would reach the duration or go beyond it ends the song (R78). -/
theorem Transport.endsSong_reached {t : Transport} (hruns : t.state = .play ∨ t.state = .recover)
    (h : 256 * (t.duration : Int) ≤ t.t + 5 * t.rate + slewStep t.slew) : t.endsSong = true := by
  refine Transport.endsSong_iff.2 ⟨hruns, ?_⟩
  simp only [Transport.advance]
  omega

/-- Settles O45: RESULT entry at a block, the countdown spent, STOP with either flag, and the test of auto-advance. -/
theorem songEnds : Obligations.SongEnds := by
  have arrives (s : State) (x : BlockInput) (hlow : s.resetLow = false) :
      exec (.blockCompletion x) s = .next (chooseNext (blockEvent x s)) := arrival_awake _ _ hlow
  have due {s : State} {x : BlockInput} {c : Instr} {b : Bool} (hlow : s.resetLow = false)
      (hc : exec c s = occurrence b (blockEvent x) s) (hb : b = true) :
      exec c s = .next (chooseNext (blockEvent x s)) := hc.trans ((occurrence_due _ _ _ hb).trans (arrival_awake _ _ hlow))
  have stopped {s t : State} {flag tag : Byte} {data : List Byte} (hlink : LinkFree s)
      (ha : takeStop s flag.toNat = accept t data) (ht : t.link = s.link) :
      exec (.stop tag flag) s = .next (t.answered ⟨0x2E, tag, [flag]⟩ .ok data) :=
    sendRequest_taken s tag (.stop flag) t .ok data hlink nofun rfl (by simp [Request.payload]) ha ht
  refine ⟨?_, ?_, ?_, ?_, ?_⟩
  · intro s c input kind clock hlow step hcase closed
    obtain ⟨hends, hc⟩ : s.tr.endsAs kind clock ∧ exec c s = .next (chooseNext (blockEvent input s)) := by
      rcases hcase with ⟨rfl, hruns, hend, hkind, hclock⟩ | ⟨rfl, hhold, hlimit, hkind, hclock⟩
      · have hsong := Transport.endsSong_reached hruns hend
        exact ⟨.inl ⟨hsong, hkind, hclock⟩, due hlow rfl hsong⟩
      · have hgives := Transport.givesUp_iff.2 ⟨hhold, hlimit⟩
        exact ⟨.inr ⟨hgives, hkind, hclock⟩, due hlow rfl hgives⟩
    refine ⟨(arrives s input hlow).trans hc.symm, ⟨_, hc, blockEvent_endStamp input hends⟩, fun hinterval => ?_,
      fun e n hinterval he hn => ?_⟩
    · obtain ⟨htr, hsu, hrq, ha, hb, hllu, hcmp, hreg, hlink, hatt⟩ := blockEvent_shown input hends hinterval
      exact ⟨_, hc, htr, hsu, hllu, hrq, ha, hb, hcmp, hreg, hlink, hatt⟩
    · obtain ⟨htr, hsu, hrq, ha, hb, hllu, hcmp, hreg, hlink, hatt⟩ := blockEvent_finished input hends hinterval he hn
      have hmfe : (chooseNext (blockEvent input s)).mfe = (recordsTaken input s).mfe := by
        rw [chooseNext_mfe, blockEvent_mfe]
      refine ⟨_, _, ?_, hc, htr, hsu, hrq, ha, hb, hllu, hcmp, hreg, hlink, hatt⟩
      rw [hmfe]
      exact finishSong_songFinished (s := (s.ended kind clock).setMfe (recordsTaken input s).mfe) he hn kind
  · intro s input kind e n hlow hstate hcount hkind he hn
    have hspent : s.tr.resultSpent = true := Transport.resultSpent_iff.2 ⟨hstate, hcount⟩
    have hc : exec (.resultCountdownSpent input) s = _ := due hlow rfl hspent
    obtain ⟨hreached, hblock⟩ := blockEvent_countdownSpent input hspent hkind he hn
    obtain ⟨htr, hrq, ha, hb, hllu, hcmp, hreg, hlink, hatt⟩ := hreached.unrecorded
    have hlanes := recordsTaken_su s input
    rw [hblock] at hlanes
    have hmfe : (chooseNext (blockEvent input s)).mfe = (recordsTaken input s).mfe := by
      rw [chooseNext_mfe, blockEvent_mfe]
    rw [← hmfe] at hlanes
    exact ⟨(arrives s input hlow).trans hc.symm, _, _, finishSong_songFinished he hn kind, hc, htr, hrq, ha, hb, hllu, hcmp,
      hreg, hlink, hatt, hreached.lanes.trans hlanes⟩
  · intro s tag e n hlink hidle hresult he hn
    exact ⟨_, finishSong_songFinished (s := s.closeLanes .skipped) he hn .skipped,
      stopped hlink (takeStop_skipped hidle hresult) (finish_link ..)⟩
  · intro s tag e n hlink hidle hresult hinterval he hn
    have htaken := takeStop_shown hidle hresult
    have hfinished := finishSong_songFinished (s := s.resultEntry .aborted) he hn .aborted
    have hentered : s.resultEntry .aborted =
        (s.resultEntry .aborted).setTr { s.tr.ended .aborted with resultCountdown := 0 } := by
      rw [← hinterval]
      rfl
    rw [enterResult_finishes hinterval, hentered] at htaken
    rw [hentered] at hfinished
    exact ⟨_, hfinished, stopped hlink htaken (finish_link ..)⟩
  · exact fun s => ⟨fun e => autoAdvance_cues, autoAdvance_keeps⟩

end Sys2Proof.Machine

namespace Sys2Proof.Machine

/-! ## A channel's block record (R102, R104, R110 to R114) -/

/-- The reading of a channel's link line (R104). -/
def readingOf (linkHigh : Bool) : Presence := if linkHigh then .present else .absent

section
variable {c : Channel} {linkHigh : Bool}

theorem presenceStep_agrees (h : readingOf linkHigh = c.presence) : presenceStep c linkHigh = (c.presence, 0) := if_pos h

theorem presenceStep_counts (h : readingOf linkHigh ≠ c.presence) (hcount : c.changeCount ≠ 4) :
    presenceStep c linkHigh = (c.presence, c.changeCount + 1) :=
  (if_neg h).trans (if_neg (by omega))

theorem presenceStep_changes (h : readingOf linkHigh ≠ c.presence) (hcount : c.changeCount = 4) :
    presenceStep c linkHigh = (readingOf linkHigh, 0) :=
  (if_neg h).trans (if_pos (by omega))

end

section
variable (c : Channel) (m : MicFrontEnd) (st : Stamp) (x : ChannelInput)

theorem Channel.block_window (h : c.window.length = 1920) :
    (c.block m st x).window = c.window.drop 480 ++ x.samples.toList :=
  List.drop_append_of_le_length (by omega)

theorem Channel.block_presence : ((c.block m st x).presence, (c.block m st x).changeCount) = presenceStep c x.linkHigh := rfl

theorem sampleValue_eq : sampleValue = BitVec.toInt := rfl

theorem Channel.block_level : (c.block m st x).latest.level =
    levelOf ((x.samples.toList.map BitVec.toInt).map fun v => v.natAbs * v.natAbs).sum := by
  simp only [Channel.block, energy, sampleValue_eq]

theorem Channel.block_analysis : ((c.block m st x).latest.clarity, (c.block m st x).latest.period) =
    analyse ((c.block m st x).window.map BitVec.toInt) := by
  simp only [Channel.block, sampleValue_eq]

theorem Channel.block_pitch : (c.block m st x).latest.pitch = pitchOf (c.block m st x).latest.period := by
  simp only [Channel.block]

theorem Channel.block_candidate : (c.block m st x).latest.candidate = true ↔
    m.voicing ≤ (c.block m st x).latest.level ∧ m.clarity ≤ (c.block m st x).latest.clarity ∧
      (c.block m st x).latest.pitch ≠ none := by
  simp only [Channel.block, Bool.and_eq_true, decide_eq_true_eq, Option.isSome_iff_ne_none, and_assoc]

theorem Channel.block_debounced (h : m.mode = .debounce) :
    (c.block m st x).latest.voiced = true ↔ m.count + 1 ≤ (c.block m st x).candidateRun := by
  simp only [Channel.block, h, decide_eq_true_eq]

theorem Channel.block_blanked (h : m.mode = .blank) :
    (c.block m st x).latest.voiced = (c.block m st x).latest.candidate := by
  simp only [Channel.block, h]

theorem Channel.block_overload : (c.block m st x).overload = overloadStep c.overload (c.block m st x).latest.overload := rfl

theorem Channel.block_episodes : (c.block m st x).episodes =
    if (c.block m st x).latest.overload = true ∧ c.overload = .pending then min 255 (c.episodes + 1) else c.episodes := rfl

theorem Channel.block_unclipped (h : (c.block m st x).latest.overload = false) :
    (c.block m st x).overload = .clear ∧ (c.block m st x).episodes = c.episodes := by
  rw [Channel.block_overload, Channel.block_episodes, h]
  exact ⟨rfl, rfl⟩

theorem Channel.block_clipped (h : (c.block m st x).latest.overload = true) :
    (c.overload = .clear → (c.block m st x).overload = .pending ∧ (c.block m st x).episodes = c.episodes) ∧
    (c.overload = .pending →
      (c.block m st x).overload = .sustained ∧ (c.block m st x).episodes = min 255 (c.episodes + 1)) ∧
    (c.overload = .sustained → (c.block m st x).overload = .sustained ∧ (c.block m st x).episodes = c.episodes) := by
  rw [Channel.block_overload, Channel.block_episodes, h]
  refine ⟨fun ho => ?_, fun ho => ?_, fun ho => ?_⟩ <;> rw [ho] <;> exact ⟨rfl, rfl⟩

end

/-! ## What microphones raise (R105, R114) -/

/-- Two attention units agree in what microphones raise, in the mask and in the MIC_ABSENT condition. -/
structure Attention.sameMics (a b : Attention) : Prop where
  mask : b.mask = a.mask
  holds : b.micAbsentHolds = a.micAbsentHolds
  absent : AttentionSet.has b.latched .micAbsent = AttentionSet.has a.latched .micAbsent
  overload : AttentionSet.has b.latched .micOverload = AttentionSet.has a.latched .micOverload

theorem Attention.sameMics.refl (a : Attention) : a.sameMics a := ⟨rfl, rfl, rfl, rfl⟩

theorem Attention.sameMics.trans {a b c : Attention} (h : a.sameMics b) (h' : b.sameMics c) : a.sameMics c :=
  ⟨h'.mask.trans h.mask, h'.holds.trans h.holds, h'.absent.trans h.absent, h'.overload.trans h.overload⟩

/-- Another member raised. -/
theorem Attention.sameMics_raise (a : Attention) {m : Member} (hm : m ≠ .micAbsent) (hm' : m ≠ .micOverload) :
    a.sameMics (a.raise m) :=
  ⟨by simp, by simp, by simp [Attention.has_raise, hm.symm], by simp [Attention.has_raise, hm'.symm]⟩

theorem Attention.sameMics.raise {a b : Attention} (h : a.sameMics b) {m : Member} (hm : m ≠ .micAbsent)
    (hm' : m ≠ .micOverload) : a.sameMics (b.raise m) := h.trans (b.sameMics_raise hm hm')

section
variable (s : State)

theorem cue_sameMics (e : Entry) : s.att.sameMics (s.cue e).att := by
  cases hn : s.slotHolding e.id with
  | none =>
    rw [cue_unheld hn]
    exact .refl _
  | some n =>
    rw [cue_eq hn]
    exact (s.att.sameMics_raise (m := .songStarted) nofun nofun).raise (m := .queueChanged) nofun nofun

theorem autoAdvance_sameMics : s.att.sameMics s.autoAdvance.att := by
  rcases autoAdvance_cases s with h | ⟨e, _, _, _, _, h⟩ <;> rw [h]
  · exact .refl _
  · exact cue_sameMics s e

theorem shelve_sameMics (k : FinishKind) : s.att.sameMics (s.shelve k).att := by
  unfold State.shelve
  split
  · exact s.att.sameMics_raise (m := .queueChanged) nofun nofun
  · exact .refl _

theorem finishSong_sameMics (k : FinishKind) : s.att.sameMics (s.finishSong k).att := by
  simp only [State.finishSong, State.raise_att, State.setTr_att, State.setLlu_att, releaseSlot_att, State.setSu_att]
  exact (shelve_sameMics s k).raise (m := .songEnded) nofun nofun

theorem finish_sameMics (k : FinishKind) : s.att.sameMics (s.finish k).att :=
  (finishSong_sameMics s k).trans (autoAdvance_sameMics _)

theorem finishOwed_sameMics (t : Transport) : s.att.sameMics (t.finishOwed s).att := by
  rcases finishOwed_cases t s with ⟨k, _, _, h⟩ | ⟨_, h⟩ <;> rw [h]
  · exact finish_sameMics s k
  · exact .refl _

theorem transportBlock_sameMics : s.att.sameMics (transportBlock s).att := by
  have lost (h : s.tr.losesSync = true) : s.att.sameMics (transportBlock s).att := by
    rw [transportBlock_syncLost h]
    exact s.att.sameMics_raise (m := .syncLost) nofun nofun
  have ended (h : s.tr.endsSong = true) : s.att.sameMics (transportBlock s).att := by
    rw [transportBlock_songEnd s h]
    exact .refl _
  cases hs : s.tr.state
  case idle => rw [transportBlock_still (.inl hs)]; exact .refl _
  case paused => rw [transportBlock_still (.inr hs)]; exact .refl _
  case cued =>
    rw [transportBlock_cued hs]
    cases s.tr.stalls
    · exact .refl _
    · exact s.att.sameMics_raise (m := .cueStall) nofun nofun
  case hold =>
    cases hg : s.tr.givesUp
    · rw [transportBlock_holding hs hg]
      exact .refl _
    · rw [transportBlock_holdLimit s hg]
      exact .refl _
  case result =>
    cases hr : s.tr.resultSpent
    · rw [transportBlock_showing hs hr]
      exact .refl _
    · rw [transportBlock_resultSpent hr]
      exact finish_sameMics (s.setTr { s.tr with resultCountdown := s.tr.resultCountdown - 1 }) _
  case play =>
    cases hend : s.tr.endsSong
    · cases hsync : s.tr.losesSync
      · rw [transportBlock_play hend hsync hs]
        exact .refl _
      · exact lost hsync
    · exact ended hend
  case recover =>
    cases hend : s.tr.endsSong
    · cases hsync : s.tr.losesSync
      · by_cases hcount : s.tr.settleCount = 0
        · rw [transportBlock_settled hend hsync hs hcount]
          exact .refl _
        · rw [transportBlock_settling hend hsync hs hcount]
          exact .refl _
      · exact lost hsync
    · exact ended hend

theorem chooseNext_sameMics : s.att.sameMics (chooseNext s).att := by
  rcases chooseNext_cases s with h | h | h <;> rw [h] <;> exact ⟨rfl, rfl, rfl, rfl⟩

end

/-! ### The raises of the four block records -/

theorem State.has_raiseIf (s : State) (c : Bool) (m x : Member) :
    AttentionSet.has (s.raiseIf c m).att.latched x =
      (AttentionSet.has s.att.latched x || (c && decide (x = m) && !AttentionSet.has s.att.mask m)) := by
  cases c
  · simp [State.raiseIf]
  · simp [State.raiseIf, Attention.has_raise]

@[simp] theorem State.raiseIf_mask (s : State) (c : Bool) (m : Member) : (s.raiseIf c m).att.mask = s.att.mask := by
  cases c <;> simp [State.raiseIf]

@[simp] theorem State.raiseIf_micAbsentHolds (s : State) (c : Bool) (m : Member) :
    (s.raiseIf c m).att.micAbsentHolds = s.att.micAbsentHolds := by
  cases c <;> simp [State.raiseIf]

theorem Quad.any_toList {α : Type} {q : Quad α} {p : α → Bool} : q.toList.any p = true ↔ ∃ k, p (q.get k) = true := by
  simp only [List.any_eq_true, Quad.mem_toList]
  exact ⟨fun ⟨_, ⟨k, rfl⟩, hk⟩ => ⟨k, hk⟩, fun ⟨k, hk⟩ => ⟨_, ⟨k, rfl⟩, hk⟩⟩

theorem rowNumbers_any {p : Fin 4 → Bool} : rowNumbers.any p = true ↔ ∃ k, p k = true := by
  rw [List.any_eq_true]
  exact ⟨fun ⟨k, _, hk⟩ => ⟨k, hk⟩, fun ⟨k, hk⟩ => ⟨k, by fin_cases k <;> simp [rowNumbers], hk⟩⟩

section
variable (s : State) (st : Stamp) (x : BlockInput)

theorem micBlock_mask : (micBlock s st x).att.mask = s.att.mask := by simp [micBlock]

theorem micBlock_micAbsentHolds : (micBlock s st x).att.micAbsentHolds = true ↔
    ∃ k, ((micBlock s st x).mfe.channels.get k).presence = .absent := by
  have hsome := Quad.any_toList (q := (micBlock s st x).mfe.channels) (p := fun c => c.presence == .absent)
  simp only [beq_iff_eq] at hsome
  rw [← hsome]
  simp [micBlock, anyAbsent]

theorem micBlock_raisesAbsent (h : AttentionSet.has s.att.mask .micAbsent = false) :
    AttentionSet.has (micBlock s st x).att.latched .micAbsent = true ↔ AttentionSet.has s.att.latched .micAbsent = true ∨
      ∃ k, (s.mfe.channels.get k).presence = .present ∧ ((micBlock s st x).mfe.channels.get k).presence = .absent := by
  have hsome := rowNumbers_any (p := fun i => becameAbsent (s.mfe.channels.get i) ((micBlock s st x).mfe.channels.get i))
  simp only [rowNumbers, becameAbsent, Bool.and_eq_true, beq_iff_eq] at hsome
  rw [← hsome]
  simp [micBlock, State.has_raiseIf, h, becameAbsent]

theorem micBlock_raisesOverload (h : AttentionSet.has s.att.mask .micOverload = false) :
    AttentionSet.has (micBlock s st x).att.latched .micOverload = true ↔
      AttentionSet.has s.att.latched .micOverload = true ∨
        ∃ k, ((micBlock s st x).mfe.channels.get k).overload = .sustained := by
  have hsome := Quad.any_toList (q := (micBlock s st x).mfe.channels) (p := fun c => c.overload == .sustained)
  simp only [beq_iff_eq] at hsome
  rw [← hsome]
  simp [micBlock, State.has_raiseIf, h]

end

/-! ### The block's records, whole -/

section
variable (s : State) (x : BlockInput)

theorem blockEvent_channel (k : Fin 4) : ((chooseNext (blockEvent x s)).mfe.channels.get k) =
    (s.mfe.channels.get k).block s.mfe (transportBlock s).tr.stamp (x.get k) := by
  rw [chooseNext_mfe, blockEvent_mfe, recordsTaken_mfe, Quad.get_mapIdx]

/-- What the four block records of a block completion raise. -/
structure State.raisesMics (s t : State) : Prop where
  mask : t.att.mask = s.att.mask
  holds : t.att.micAbsentHolds = true ↔ ∃ k, (t.mfe.channels.get k).presence = .absent
  absent : AttentionSet.has s.att.mask .micAbsent = false → (AttentionSet.has t.att.latched .micAbsent = true ↔
    AttentionSet.has s.att.latched .micAbsent = true ∨
      ∃ k, (s.mfe.channels.get k).presence = .present ∧ (t.mfe.channels.get k).presence = .absent)
  overload : AttentionSet.has s.att.mask .micOverload = false → (AttentionSet.has t.att.latched .micOverload = true ↔
    AttentionSet.has s.att.latched .micOverload = true ∨ ∃ k, (t.mfe.channels.get k).overload = .sustained)

theorem blockEvent_raisesMics : s.raisesMics (chooseNext (blockEvent x s)) := by
  have before := transportBlock_sameMics s
  have after : (recordsTaken x s).att.sameMics (chooseNext (blockEvent x s)).att := by
    refine .trans ?_ (chooseNext_sameMics _)
    rw [blockEvent_att]
    exact finishOwed_sameMics _ _
  have hmfe : (chooseNext (blockEvent x s)).mfe = (micBlock (transportBlock s) (transportBlock s).tr.stamp x).mfe := by
    rw [chooseNext_mfe, blockEvent_mfe]
    rfl
  have hmic := transportBlock_mfe s
  refine ⟨?_, ?_, fun hmask => ?_, fun hmask => ?_⟩
  · exact after.mask.trans ((micBlock_mask ..).trans before.mask)
  · rw [after.holds, hmfe]
    exact micBlock_micAbsentHolds ..
  · rw [after.absent, ← before.absent, hmfe, ← hmic]
    exact micBlock_raisesAbsent _ _ _ (before.mask ▸ hmask)
  · rw [after.overload, ← before.overload, hmfe]
    exact micBlock_raisesOverload _ _ _ (before.mask ▸ hmask)

end

/-- Settles O46: each channel's record by `Channel.block`, its stamp by the Transport's steps, the raises apart. -/
theorem blockRecordsAreMade : Obligations.BlockRecordsAreMade := by
  intro s input hlow hlength step songEnds givenUp
  have arrives : exec (.blockCompletion input) s = .next (chooseNext (blockEvent input s)) := arrival_awake _ _ hlow
  obtain ⟨hmask, hholds, habsent, hoverload⟩ := blockEvent_raisesMics s input
  refine ⟨_, arrives, fun ⟨k, hk⟩ => ?_, by simp, by simp, by simp, by simp, fun k => ?_, hmask, hholds, habsent,
    hoverload⟩
  · have hchanges : s.presenceChanges input = true := rowNumbers_any.2 ⟨k, by
      rw [blockEvent_channel] at hk
      exact bne_iff_ne.2 hk⟩
    exact (occurrence_due _ (blockEvent input) s hchanges).trans arrives
  · intro before after samples reading
    have hstamp : after.latest.stamp = (transportBlock s).tr.stamp := congrArg (·.latest.stamp) (blockEvent_channel s input k)
    have hends (h : songEnds) : after.latest.stamp = ⟨.result, s.tr.duration, s.tr.key, s.tr.epoch⟩ := by
      have hreached : s.tr.endsSong = true := Transport.endsSong_iff.2 ⟨h.1, Nat.min_eq_left h.2⟩
      have hsong := blockEvent_endStamp input (s := s) (.inl ⟨hreached, rfl, rfl⟩) k
      rwa [Nat.mul_div_cancel_left _ (by decide : 0 < 256)] at hsong
    have hgives (h : givenUp) : after.latest.stamp = ⟨.result, s.tr.t / 256, s.tr.key, s.tr.epoch⟩ :=
      blockEvent_endStamp input (s := s) (.inr ⟨Transport.givesUp_iff.2 h, rfl, rfl⟩) k
    have hgoes (h : ¬songEnds) (h' : ¬givenUp) : (chooseNext (blockEvent input s)).tr.stamp = after.latest.stamp := by
      have hend : s.tr.endKind = none := Transport.endKind_none
        (Bool.eq_false_iff.2 fun hb => h ⟨(Transport.endsSong_iff.1 hb).1, min_eq_left_iff.1 (Transport.endsSong_iff.1 hb).2⟩)
        (Bool.eq_false_iff.2 fun hb => h' (Transport.givesUp_iff.1 hb))
      rw [hstamp, chooseNext_tr, blockEvent_tr, finishOwed_none hend, recordsTaken_tr]
    have hafter : after = before.block s.mfe (transportBlock s).tr.stamp (input.get k) := blockEvent_channel s input k
    have hpresence : (after.presence, after.changeCount) = presenceStep before (input.get k).linkHigh :=
      hafter ▸ Channel.block_presence ..
    clear_value after
    subst hafter
    refine ⟨?_, fun h => ?_, fun h hcount => ?_, fun h hcount => ?_, ?_, ?_, ?_, ?_, ?_, ?_, fun h => ?_, fun h => ?_, ?_,
      fun h => ?_, fun h => ?_, ?_, ?_, hends, hgives, fun h h' => (hgoes h h').symm⟩
    · exact Channel.block_window _ _ _ _ (hlength k)
    · exact Prod.mk.inj (hpresence.trans (presenceStep_agrees h))
    · exact Prod.mk.inj (hpresence.trans (presenceStep_counts h hcount))
    · exact Prod.mk.inj (hpresence.trans (presenceStep_changes h hcount))
    · rfl
    · exact Channel.block_level ..
    · exact Channel.block_analysis ..
    · exact Channel.block_pitch ..
    · exact Channel.block_candidate ..
    · rfl
    · exact Channel.block_debounced _ _ _ _ h
    · exact Channel.block_blanked _ _ _ _ h
    · exact decide_eq_true_iff
    · exact Channel.block_unclipped _ _ _ _ h
    · exact Channel.block_clipped _ _ _ _ h
    · rfl
    · rfl

end Sys2Proof.Machine

namespace Sys2Proof.Machine

/-! ## The messages of the microphones and the scoring (R115, R116, R120, R137, R138) -/

/-! ### What a byte names -/

theorem channelNamed_place (k : Fin 4) : channelNamed (k.val + 1) = some k := by fin_cases k <;> rfl

theorem channelNamed_bad {n : Nat} (h : n < 1 ∨ 4 < n) : channelNamed n = none := by
  simp only [channelNamed, List.find?_eq_none, beq_iff_eq]
  omega

theorem modeNamed_bad {n : Nat} (h : 1 < n) : modeNamed n = none := by
  unfold modeNamed
  split
  · omega
  · omega
  · rfl

theorem levelNamed_bad {n : Nat} (h : 2 < n) : levelNamed n = none := by
  unfold levelNamed
  split
  · omega
  · omega
  · omega
  · rfl

theorem bindingNamed_bad {mode part : Nat} (h : 2 < mode ∨ mode = 1 ∧ (part < 1 ∨ 4 < part)) :
    bindingNamed mode part = none := by
  unfold bindingNamed
  split
  · omega
  · exact if_neg (by omega)
  · omega
  · rfl

theorem bindingNamed_fixed {part : Nat} (h : 1 ≤ part ∧ part ≤ 4) : bindingNamed 1 part = some (.fixed part) := if_pos h

theorem byte_le_one {b : Byte} (h : b.toNat ≤ 1) : b = 0 ∨ b = 1 := by bv_omega

theorem byte_le_two {b : Byte} (h : b.toNat ≤ 2) : b = 0 ∨ b = 1 ∨ b = 2 := by bv_omega

/-! ### MIC_SET and SCORE_SET (R115, R137) -/

section
variable {s : State}

theorem takeMicSet_badValue {mode : Nat} (h : 1 < mode) (count : Nat) (voicing : Int) (clarity : Nat) :
    takeMicSet s mode count voicing clarity = refuse s .badValue := by
  simp only [takeMicSet, modeNamed_bad h]

/-- The front end with the four values of a MIC_SET, clamped (R115). -/
def MicFrontEnd.withSettings (m : MicFrontEnd) (a b : Byte) (x y : Half) : MicFrontEnd :=
  { m with
    mode := if a = 0 then .debounce else .blank
    count := min 7 b.toNat
    voicing := max (-160) (min (-20) x.toInt)
    clarity := min 255 y.toNat }

theorem takeMicSet_mode {a : Byte} (h : a = 0 ∨ a = 1) (b : Byte) (x y : Half) :
    let m := s.mfe.withSettings a b x y
    takeMicSet s a.toNat b.toNat x.toInt y.toNat =
      accept (s.setMfe m) ([a] ++ n8 m.count ++ i16 m.voicing ++ n16 m.clarity) := by
  rcases h with rfl | rfl <;> simp [takeMicSet, modeNamed, MicFrontEnd.withSettings, clamp, clampInt, QualifierMode.value, n8]

theorem takeScoreSet_badValue {level fold : Nat} (h : 2 < level ∨ 1 < fold) (latency : Nat) :
    takeScoreSet s level fold latency = refuse s .badValue := by
  rcases h with h | h
  · simp only [takeScoreSet, levelNamed_bad h]
  · unfold takeScoreSet
    cases levelNamed level with
    | none => rfl
    | some v => exact if_pos h

/-- The Scoring Unit with the three values of a SCORE_SET, the latency clamped (R137). -/
def ScoringUnit.withSettings (u : ScoringUnit) (a b : Byte) (x : Half) : ScoringUnit :=
  { u with
    level := if a = 0 then .easy else if a = 1 then .normal else .strict
    fold := b == 1
    latency := min 300 x.toNat }

theorem takeScoreSet_level {a b : Byte} (ha : a = 0 ∨ a = 1 ∨ a = 2) (hb : b = 0 ∨ b = 1) (x : Half) :
    let u := s.su.withSettings a b x
    takeScoreSet s a.toNat b.toNat x.toNat =
      accept (s.setSu u) ([a] ++ n8 u.level.tolerance ++ [b] ++ n16 u.latency) := by
  rcases ha with rfl | rfl | rfl <;> rcases hb with rfl | rfl <;>
    simp [takeScoreSet, levelNamed, ScoringUnit.withSettings, clamp, n8]

/-! ### BIND (R120) -/

theorem takeBind_badValue {channel mode part : Nat}
    (h : (channel < 1 ∨ 4 < channel) ∨ 2 < mode ∨ mode = 1 ∧ (part < 1 ∨ 4 < part)) :
    takeBind s channel mode part = refuse s .badValue := by
  unfold takeBind
  split
  next k b hk hb =>
    rcases h with h | h
    · simp [channelNamed_bad h] at hk
    · simp [bindingNamed_bad h] at hb
  next => rfl

theorem takeBind_named (k : Fin 4) {mode part : Nat} {b : Binding} (hb : bindingNamed mode part = some b) :
    takeBind s (k.val + 1) mode part =
      if s.tr.state ≠ .idle then refuse s .badState
      else accept (s.setSu { s.su with bindings := s.su.bindings.set k b }) (n8 (k.val + 1) ++ b.data) := by
  simp only [takeBind, channelNamed_place, hb]

/-- The binding of a mode byte and a part byte, and the two bytes it is sent in. -/
theorem bindingNamed_bytes {a b : Byte} (ha : a.toNat ≤ 2) (hb : a = 1 → 1 ≤ b.toNat ∧ b.toNat ≤ 4) :
    let binding : Binding := if a = 0 then .off else if a = 1 then .fixed b.toNat else .auto
    bindingNamed a.toNat b.toNat = some binding ∧ binding.data = [a, if a = 1 then b else 0] := by
  rcases byte_le_two ha with rfl | rfl | rfl
  · exact ⟨rfl, rfl⟩
  · exact ⟨bindingNamed_fixed (hb rfl), congrArg (1 :: ·) (n8_toNat b)⟩
  · exact ⟨rfl, rfl⟩

end

/-! ### MIC_READ (R116, R214) -/

theorem Presence.value_byte (x : Presence) : BitVec.ofNat 8 x.value = (match x with | .absent => 0 | .present => 1) := by
  cases x <;> rfl

theorem QualifierMode.value_byte (x : QualifierMode) :
    BitVec.ofNat 8 x.value = (match x with | .debounce => 0 | .blank => 1) := by cases x <;> rfl

theorem TransportState.value_byte (x : TransportState) : BitVec.ofNat 8 x.value = (match x with
    | .idle => 0 | .cued => 1 | .play => 2 | .hold => 3 | .recover => 4 | .paused => 5 | .result => 6) := by
  cases x <;> rfl

theorem OverloadState.value_byte (x : OverloadState) :
    BitVec.ofNat 8 x.value = (match x with | .clear => 0 | .pending => 1 | .sustained => 2) := by cases x <;> rfl

/-- The flags byte of a block record: candidate, voiced and overload from bit 0 up (R214). -/
def BlockRecord.flags (r : BlockRecord) : Nat :=
  (if r.candidate then 1 else 0) + (if r.voiced then 2 else 0) + (if r.overload then 4 else 0)

theorem BlockRecord.flags_byte (r : BlockRecord) : BitVec.ofNat 8 r.flags =
    (if r.candidate then 1 else 0) + (if r.voiced then 2 else 0) + (if r.overload then 4 else 0) := by
  unfold BlockRecord.flags
  cases r.candidate <;> cases r.voiced <;> cases r.overload <;> rfl

/-- The bytes of a MIC_READ's reply data from the channel's byte and record (R214). -/
def micReading (channel : Nat) (c : Channel) : List Byte :=
  let r := c.latest
  n8 channel ++ (n8 r.presence.value ++ (i16 r.level ++ (n8 r.clarity ++ (n16 r.period ++ (n16 (r.pitch.getD 0xFFFF) ++
    (n8 r.flags ++ (n8 r.mode.value ++ (n8 r.count ++ (n8 r.stamp.state.value ++ (n32 r.stamp.position ++
      (i8 r.stamp.key ++ (n8 r.stamp.epoch ++ (n8 c.changeCount ++ (n8 c.candidateRun ++ (n8 c.overload.value ++
        n8 c.episodes)))))))))))))))

theorem takeMicRead_eq (s : State) {channel : Nat} {k : Fin 4} (hk : channel = k.val + 1) :
    takeMicRead s channel = accept s (micReading channel (s.mfe.channels.get k)) := by
  subst hk
  simp only [takeMicRead, channelNamed_place, micReading, BlockRecord.flags, List.append_assoc]

theorem takeMicRead_badValue {s : State} {channel : Nat} (h : channel < 1 ∨ 4 < channel) :
    takeMicRead s channel = refuse s .badValue := by
  simp only [takeMicRead, channelNamed_bad h]

/-! ### LANE_READ (R138, R214) -/

/-- The kind of a binding as sent. -/
def Binding.modeByte : Binding → Byte
  | .off => 0
  | .fixed _ => 1
  | .auto => 2

/-- The part of a binding as sent, 0 where it names none. -/
def Binding.part : Binding → Nat
  | .fixed p => p
  | _ => 0

theorem Binding.data_eq (b : Binding) : b.data = [b.modeByte] ++ n8 b.part := by cases b <;> rfl

theorem LaneState.value_byte (x : LaneState) : BitVec.ofNat 8 x.value =
    (match x with | .idle => 0 | .armed => 1 | .scoring => 2 | .suspended => 3 | .closed => 4) := by cases x <;> rfl

/-- A note outcome as sent, 0 for none. -/
def outcomeByte (o : Option NoteOutcome) : Nat := (o.map (·.value)).getD 0

theorem outcomeByte_eq (o : Option NoteOutcome) : BitVec.ofNat 8 (outcomeByte o) = (match o with
    | none => 0 | some .pending => 0 | some .opened => 1 | some .scored => 2 | some .empty => 3 | some .void => 4) := by
  rcases o with _ | _ | _ | _ | _ | _ <;> rfl

/-- The bytes of a LANE_READ's reply data from the channel's binding and the lane shown: of an absent open or last closed
note the index is 0xFFFF and the rest 0 (R214), and a last closed note with no accuracy has 0 there (log entry 24). -/
def laneReading (b : Binding) (l : Lane) : List Byte :=
  n8 l.state.value ++ ([b.modeByte] ++ (n8 b.part ++ (n8 (l.part.getD 0) ++ (n16 l.noteCount ++ (n8 l.tolerance ++
    (flag8 l.fold ++ (n16 l.latency ++ (n16 l.cursor ++ (n16 ((l.openNote.map (·.index)).getD 0xFFFF) ++
      (n16 ((l.openNote.map (·.counted)).getD 0) ++ (n32 ((l.openNote.map (·.points)).getD 0) ++
        (n16 ((l.openNote.map (·.windowBlocks)).getD 0) ++ (n8 l.lastEpoch ++ (n32 l.sumAw ++ (n32 l.sumW ++
          (n16 (l.score.getD 0xFFFF) ++ (n16 l.scored ++ (n16 l.empty ++ (n16 l.void ++ (n16 l.pendingCount ++
            (n16 ((l.lastClosed.map (·.index)).getD 0xFFFF) ++ (n8 (outcomeByte (l.lastClosed.map (·.outcome))) ++
              n8 (((l.lastClosed.map (·.accuracy)).getD none).getD 0)))))))))))))))))))))))

theorem takeLaneRead_eq (s : State) {channel : Nat} {k : Fin 4} (hk : channel = k.val + 1) :
    takeLaneRead s channel = accept s (laneReading (s.su.bindings.get k) (s.su.lanes.get k).shown) := by
  subst hk
  simp only [takeLaneRead, channelNamed_place, Binding.data_eq, laneReading, List.append_assoc]
  cases (s.su.lanes.get k).shown.openNote <;> cases (s.su.lanes.get k).shown.lastClosed <;>
    simp only [List.append_assoc] <;> rfl

theorem takeLaneRead_badValue {s : State} {channel : Nat} (h : channel < 1 ∨ 4 < channel) :
    takeLaneRead s channel = refuse s .badValue := by
  simp only [takeLaneRead, channelNamed_bad h]

theorem Lane.score_getD (l : Lane) : l.score.getD 0xFFFF = if l.sumW = 0 then 0xFFFF else 100 * l.sumAw / l.sumW := by
  unfold Lane.score
  split <;> rfl

theorem Lane.pendingCount_eq (l : Lane) : l.pendingCount =
    l.noteCount - (l.scored + l.empty + l.void + (if l.openNote = none then 0 else 1)) := by
  unfold Lane.pendingCount
  cases l.openNote <;> rfl

/-- Settles O48: the settings applied clamped, each refusal, and the two readings byte by byte. -/
theorem micAndScoringMessages : Obligations.MicAndScoringMessages := by
  refine ⟨?_, ?_, ?_, ?_, ?_⟩
  · intro s tag a b x y hlink m
    have sent {s' : State} {code : ResultCode} {data : List Byte}
        (ha : takeMicSet s a.toNat b.toNat x.toInt y.toNat = ⟨s', code, data⟩) (hs : s'.link = s.link) :
        exec (.micSet tag a b x y) s = .next (s'.answered m code data) :=
      sendRequest_taken s tag (.micSet a b x y) s' code data hlink nofun rfl
        (by simp [Request.payload, le16_length]) ha hs
    exact ⟨fun h => sent (takeMicSet_badValue h ..) rfl, fun h => sent (takeMicSet_mode (byte_le_one h) b x y) rfl⟩
  · intro s tag a b x hlink m
    have sent {s' : State} {code : ResultCode} {data : List Byte}
        (ha : takeScoreSet s a.toNat b.toNat x.toNat = ⟨s', code, data⟩) (hs : s'.link = s.link) :
        exec (.scoreSet tag a b x) s = .next (s'.answered m code data) :=
      sendRequest_taken s tag (.scoreSet a b x) s' code data hlink nofun rfl
        (by simp [Request.payload, le16_length]) ha hs
    refine ⟨fun h => sent (takeScoreSet_badValue h _) rfl, fun ha hb => ?_⟩
    have htaken := sent (takeScoreSet_level (byte_le_two ha) (byte_le_one hb) x) rfl
    rcases byte_le_two ha with rfl | rfl | rfl <;> exact htaken
  · intro s tag c a b hlink
    have bindSent {s' : State} {code : ResultCode} {data : List Byte}
        (ha : takeBind s c.toNat a.toNat b.toNat = ⟨s', code, data⟩) (hs : s'.link = s.link) :
        exec (.bind tag c a b) s = .next (s'.answered ⟨0x40, tag, [c, a, b]⟩ code data) :=
      sendRequest_taken s tag (.bind c a b) s' code data hlink nofun rfl (by simp [Request.payload]) ha hs
    refine ⟨fun hbad => ⟨bindSent (takeBind_badValue (.inl hbad)) rfl, ?_, ?_⟩, fun hbad => ?_, fun k hk ha hb => ?_⟩
    · exact sendRequest_refused s tag (.micRead c) .badValue hlink nofun rfl (by simp [Request.payload])
        (takeMicRead_badValue hbad)
    · exact sendRequest_refused s tag (.laneRead c) .badValue hlink nofun rfl (by simp [Request.payload])
        (takeLaneRead_badValue hbad)
    · exact bindSent (takeBind_badValue (.inr (hbad.imp_right (And.imp_left (congrArg BitVec.toNat))))) rfl
    · obtain ⟨hnamed, hdata⟩ := bindingNamed_bytes ha hb
      have htaken := takeBind_named (s := s) k hnamed
      rw [← hk, hdata, n8_toNat] at htaken
      exact ⟨fun h => bindSent (htaken.trans (if_pos h)) rfl, fun h => bindSent (htaken.trans (if_neg (not_not.2 h))) rfl⟩
  · intro s tag c k hlink hc
    refine ⟨_, sendRequest_taken s tag (.micRead c) s .ok _ hlink nofun rfl (by simp [Request.payload])
      (takeMicRead_eq s hc) rfl, rfl, congrArg (u8 · 0) (n8_toNat c), Presence.value_byte _, join16 _, rfl, join16 _,
      join16 _, BlockRecord.flags_byte _, QualifierMode.value_byte _, rfl, TransportState.value_byte _, join32 _, rfl, rfl,
      rfl, rfl, OverloadState.value_byte _, rfl⟩
  · intro s tag c k hlink hc
    refine ⟨_, sendRequest_taken s tag (.laneRead c) s .ok _ hlink nofun rfl (by simp [Request.payload])
      (takeLaneRead_eq s hc) rfl, rfl, LaneState.value_byte _, rfl, rfl, rfl, join16 _, rfl, rfl, join16 _, join16 _,
      join16 _, join16 _, join32 _, join16 _, rfl, join32 _, join32 _, ?_, join16 _, join16 _, join16 _, ?_, join16 _,
      outcomeByte_eq _, rfl⟩
    · exact (join16 _).trans (congrArg (BitVec.ofNat 16) (Lane.score_getD _))
    · exact (join16 _).trans (congrArg (BitVec.ofNat 16) (Lane.pendingCount_eq _))

end Sys2Proof.Machine

namespace Sys2Proof.Machine

/-! ## The measures as formulas over the reals (R106 to R109, log entry 20) -/

/-! ### Searches among whole numbers -/

/-- The greatest number up to `n` that is at most `c`. -/
theorem greatestUpTo_eq {p : Nat → Bool} {c : Int} (hp : ∀ m : Nat, p m = true ↔ (m : Int) ≤ c) (n : Nat) :
    (greatestUpTo p n : Int) = max 0 (min (n : Int) c) := by
  induction n with
  | zero => simp [greatestUpTo]
  | succ n ih =>
    have hp' := hp (n + 1)
    unfold greatestUpTo
    split
    next h =>
      have := hp'.1 h
      omega
    next h =>
      have := mt hp'.2 h
      omega

/-- The least number from `start` on that is at least `c`. -/
theorem leastFrom_eq {p : Nat → Bool} {c : Int} (hp : ∀ m : Nat, p m = true ↔ c ≤ m) (fuel start : Nat) :
    (leastFrom p fuel start : Int) = max (start : Int) (min (start + fuel) c) := by
  induction fuel generalizing start with
  | zero => simp [leastFrom]
  | succ fuel ih =>
    have hp' := hp start
    unfold leastFrom
    split
    next h =>
      have := hp'.1 h
      omega
    next h =>
      have := mt hp'.2 h
      rw [ih]
      omega

/-! ### Level (R106) -/

/-- A level of at least −m, said of the sum of squares. -/
theorem neg_le_level_iff {e : Nat} (he : 0 < e) (m : Nat) :
    (480 * 32767 * 32767) ^ 20 ≤ e ^ 20 * 10 ^ m ↔
      -⌊40 * Real.logb 10 (Real.sqrt ((e : ℝ) / 480) / 32767)⌋ ≤ m := by
  have he' : (0 : ℝ) < e := Nat.cast_pos.2 he
  have hpow : (Real.sqrt ((e : ℝ) / 480) / 32767) ^ 40 = (e : ℝ) ^ 20 / (480 * 32767 * 32767) ^ 20 := by
    rw [div_pow, show 40 = 2 * 20 from rfl, pow_mul, Real.sq_sqrt (by positivity), div_pow, div_div, mul_assoc 480,
      mul_pow 480, ← sq, ← pow_mul]
  have hlog : 40 * Real.logb 10 (Real.sqrt ((e : ℝ) / 480) / 32767) =
      Real.logb 10 ((e : ℝ) ^ 20 / (480 * 32767 * 32767) ^ 20) := by
    rw [← hpow, Real.logb_pow]
    norm_num
  rw [hlog, neg_le, Int.le_floor, Real.le_logb_iff_rpow_le (by norm_num) (by positivity), Int.cast_neg, Int.cast_natCast,
    Real.rpow_neg (by norm_num), Real.rpow_natCast, le_div_iff₀ (by positivity), inv_mul_le_iff₀ (by positivity),
    mul_comm ((10 : ℝ) ^ m)]
  exact_mod_cast Iff.rfl

theorem levelOf_zero : levelOf 0 = -192 := by decide +kernel

theorem levelOf_eq {e : Nat} (he : 0 < e) :
    levelOf e = max (-192) (min 0 ⌊40 * Real.logb 10 (Real.sqrt ((e : ℝ) / 480) / 32767)⌋) := by
  have hleast := leastFrom_eq (fun m => decide_eq_true_iff.trans (neg_le_level_iff he m)) 193 0
  unfold levelOf
  omega

/-! ### Pitch (R109) -/

/-- A pitch of at least `p`, said of a quotient of whole numbers. -/
theorem le_pitch_iff {n d : Nat} (hn : 0 < n) (hd : 0 < d) (p : Nat) :
    2 ^ (2 * p) * d ^ 384 ≤ 2 * n ^ 384 ↔ (p : Int) ≤ ⌊192 * Real.logb 2 ((n : ℝ) / d) + 1 / 2⌋ := by
  have hn' : (0 : ℝ) < n := Nat.cast_pos.2 hn
  have hd' : (0 : ℝ) < d := Nat.cast_pos.2 hd
  have hlog : 384 * Real.logb 2 ((n : ℝ) / d) = Real.logb 2 ((n : ℝ) ^ 384 / d ^ 384) := by
    rw [← div_pow, Real.logb_pow]
    norm_num
  calc 2 ^ (2 * p) * d ^ 384 ≤ 2 * n ^ 384
    _ ↔ (2 : ℝ) ^ (2 * p) * (d : ℝ) ^ 384 ≤ 2 * (n : ℝ) ^ 384 := by exact_mod_cast Iff.rfl
    _ ↔ (2 : ℝ) ^ (((2 * p : Nat) : ℝ) - 1) ≤ (n : ℝ) ^ 384 / (d : ℝ) ^ 384 := by
      rw [Real.rpow_sub (by norm_num), Real.rpow_natCast, Real.rpow_one, le_div_iff₀ (by positivity), div_mul_eq_mul_div,
        div_le_iff₀' (by norm_num)]
    _ ↔ ((2 * p : Nat) : ℝ) - 1 ≤ 384 * Real.logb 2 ((n : ℝ) / d) := by
      rw [hlog, Real.le_logb_iff_rpow_le (by norm_num) (by positivity)]
    _ ↔ (p : Int) ≤ ⌊192 * Real.logb 2 ((n : ℝ) / d) + 1 / 2⌋ := by
      rw [Int.le_floor, Int.cast_natCast, Nat.cast_mul, Nat.cast_ofNat]
      constructor <;> intro h <;> linarith

theorem pitchOf_outside {period : Nat} (h : period < 437 ∨ 13963 < period) : pitchOf period = none :=
  if_neg (by omega)

/-- The pitch of a period in 437..13,963 lies between 0 and 960. -/
theorem pitch_range {period : Nat} (hlo : 437 ≤ period) (hhi : period ≤ 13963) :
    0 ≤ ⌊192 * Real.logb 2 (768000 / (55 * (period : ℝ))) + 1 / 2⌋ ∧
      ⌊192 * Real.logb 2 (768000 / (55 * (period : ℝ))) + 1 / 2⌋ ≤ 960 := by
  have hlo' : (437 : ℝ) ≤ period := by exact_mod_cast hlo
  have hhi' : (period : ℝ) ≤ 13963 := by exact_mod_cast hhi
  have hone : 1 ≤ 768000 / (55 * (period : ℝ)) := by
    rw [le_div_iff₀ (by positivity)]
    linarith
  have hless : 768000 / (55 * (period : ℝ)) < 2 ^ (5 : ℝ) := by
    rw [div_lt_iff₀ (by positivity)]
    norm_num
    linarith
  have hlog0 : 0 ≤ Real.logb 2 (768000 / (55 * (period : ℝ))) := Real.logb_nonneg (by norm_num) hone
  have hlog5 : Real.logb 2 (768000 / (55 * (period : ℝ))) < 5 :=
    (Real.logb_lt_iff_lt_rpow (by norm_num) (by linarith)).2 hless
  constructor
  · exact Int.floor_nonneg.2 (by linarith)
  · exact Int.lt_add_one_iff.1 (Int.floor_lt.2 (by push_cast; linarith))

theorem pitchOf_inside {period : Nat} (hlo : 437 ≤ period) (hhi : period ≤ 13963) : ∃ p : Nat, pitchOf period = some p ∧
    (p : Int) = ⌊192 * Real.logb 2 (768000 / (55 * (period : ℝ))) + 1 / 2⌋ ∧ p ≤ 960 := by
  refine ⟨_, if_pos ⟨hlo, hhi⟩, ?_⟩
  have hgreatest := greatestUpTo_eq (fun p => decide_eq_true_iff.trans
    (le_pitch_iff (n := 768000) (d := 55 * period) (by norm_num) (by omega) p)) 960
  obtain ⟨h0, h960⟩ := pitch_range hlo hhi
  simp only [Nat.cast_mul, Nat.cast_ofNat] at hgreatest
  omega

/-! ### Clarity (R107) -/

/-- A similarity but for the root of Σa², which all lags of a block share. -/
noncomputable def Similarity.root (x : Similarity) : ℝ := x.num / Real.sqrt x.den

theorem clarityOf_eq {aa : Nat} {x : Similarity} (haa : 0 < aa) (hden : 0 < x.den) (hnum : 0 < x.num)
    (hle : x.num.natAbs * x.num.natAbs ≤ aa * x.den) :
    (clarityOf aa x : Int) = ⌊255 * ((x.num : ℝ) / Real.sqrt ((aa : ℝ) * (x.den : ℝ)))⌋ := by
  obtain ⟨n, hn⟩ := Int.eq_ofNat_of_zero_le hnum.le
  have hprod : (0 : ℝ) < (aa : ℝ) * x.den := by positivity
  have hroot := Real.sqrt_pos.2 hprod
  have hcast : (x.num : ℝ) = n := by rw [hn]; exact Int.cast_natCast n
  rw [hn, Int.natAbs_natCast] at hle
  have htest (c : Nat) : c * c * aa * x.den ≤ 255 * 255 * (x.num.natAbs * x.num.natAbs) ↔
      (c : Int) ≤ ⌊255 * ((x.num : ℝ) / Real.sqrt ((aa : ℝ) * (x.den : ℝ)))⌋ := by
    rw [Int.le_floor, hcast, hn, Int.natAbs_natCast, ← mul_div_assoc, Int.cast_natCast, le_div_iff₀ hroot,
      ← pow_le_pow_iff_left₀ (a := (c : ℝ) * _) (by positivity) (by positivity) two_ne_zero, mul_pow,
      Real.sq_sqrt hprod.le, ← Nat.cast_le (α := ℝ)]
    push_cast
    constructor <;> intro h <;> linarith
  have hfull : (n : ℝ) / Real.sqrt ((aa : ℝ) * (x.den : ℝ)) ≤ 1 := by
    rw [div_le_one hroot]
    refine Real.le_sqrt_of_sq_le ?_
    rw [sq]
    exact_mod_cast hle
  have h0 : 0 ≤ ⌊255 * ((x.num : ℝ) / Real.sqrt ((aa : ℝ) * (x.den : ℝ)))⌋ :=
    Int.floor_nonneg.2 (by rw [hcast]; positivity)
  have h255 : ⌊255 * ((x.num : ℝ) / Real.sqrt ((aa : ℝ) * (x.den : ℝ)))⌋ ≤ 255 := by
    rw [← Int.lt_add_one_iff, Int.floor_lt, hcast]
    push_cast
    linarith
  have hgreatest := greatestUpTo_eq (fun c => decide_eq_true_iff.trans (htest c)) 255
  unfold clarityOf
  omega

/-! ### Signed roots: similarities compared and combined on whole numbers -/

/-- The square root of a whole number's magnitude, with the number's sign. -/
noncomputable def signedRoot (x : Int) : ℝ := Real.sqrt x - Real.sqrt (-x)

theorem signedRoot_of_nonneg {x : Int} (h : 0 ≤ x) : signedRoot x = Real.sqrt x := by
  have : (0 : ℝ) ≤ x := Int.cast_nonneg h
  rw [signedRoot, Real.sqrt_eq_zero_of_nonpos (neg_nonpos.2 this), sub_zero]

theorem signedRoot_neg (x : Int) : signedRoot (-x) = -signedRoot x := by
  simp [signedRoot]

theorem signedRoot_of_nonpos {x : Int} (h : x ≤ 0) : signedRoot x = -Real.sqrt (-x : Int) := by
  rw [← signedRoot_of_nonneg (neg_nonneg.2 h), signedRoot_neg, neg_neg]

theorem signedRoot_strictMono : StrictMono signedRoot := by
  intro x y hxy
  have hxy' : (x : ℝ) < y := Int.cast_lt.2 hxy
  have hneg : Real.sqrt (-y) ≤ Real.sqrt (-x) := Real.sqrt_le_sqrt (neg_le_neg hxy'.le)
  have hpos : Real.sqrt x ≤ Real.sqrt y := Real.sqrt_le_sqrt hxy'.le
  unfold signedRoot
  rcases le_or_gt y 0 with hy | hy
  · have hx : (0 : ℝ) < -x := neg_pos.2 (hxy'.trans_le (Int.cast_nonpos.2 hy))
    linarith [(Real.sqrt_lt_sqrt_iff_of_pos hx).2 (neg_lt_neg hxy')]
  · linarith [(Real.sqrt_lt_sqrt_iff_of_pos (Int.cast_pos.2 hy)).2 hxy']

theorem signedRoot_signedSquare_mul (a : Int) (d : Nat) : signedRoot (signedSquare a * d) = a * Real.sqrt d := by
  have nonneg {a : Int} (h : 0 ≤ a) : signedRoot (signedSquare a * d) = a * Real.sqrt d := by
    have ha : (0 : ℝ) ≤ a := Int.cast_nonneg h
    rw [signedSquare, Int.natAbs_of_nonneg h, signedRoot_of_nonneg (by positivity)]
    push_cast
    rw [Real.sqrt_mul (by positivity), Real.sqrt_mul_self ha]
  rcases le_total 0 a with h | h
  · exact nonneg h
  · have hneg := nonneg (neg_nonneg.2 h)
    rw [signedSquare, Int.natAbs_neg, neg_mul, neg_mul, signedRoot_neg, Int.cast_neg, neg_mul, neg_inj] at hneg
    exact hneg

/-- The similarities of one block are ordered as their roots. -/
theorem Similarity.below_iff {x y : Similarity} (hx : 0 < x.den) (hy : 0 < y.den) :
    x.below y = true ↔ x.root < y.root := by
  rw [Similarity.below, decide_eq_true_iff, ← signedRoot_strictMono.lt_iff_lt, signedRoot_signedSquare_mul,
    signedRoot_signedSquare_mul, Similarity.root, Similarity.root, div_lt_div_iff₀ (by positivity) (by positivity)]

/-- The sum of signed roots is that of the positive numbers' roots less that of the negative ones'. -/
theorem sum_signedRoot (l : List Int) : (l.map signedRoot).sum =
    ((l.filter fun v => decide (0 < v)).map fun v : Int => Real.sqrt v).sum -
      ((l.filter fun v => decide (v < 0)).map fun v : Int => Real.sqrt (-v : Int)).sum := by
  induction l with
  | nil => simp
  | cons x l ih =>
    rw [List.map_cons, List.sum_cons, ih]
    rcases lt_trichotomy x 0 with h | rfl | h
    · simp [h, h.not_gt, signedRoot_of_nonpos h.le]
      ring
    · simp [signedRoot]
    · simp [h, h.not_gt, signedRoot_of_nonneg h.le]
      ring

/-- For numbers whose sum is positive, the sign of their difference is that of their squares'. -/
theorem sign_sub_eq_sign_sq_sub {a b : ℝ} (h : 0 < a + b) : SignType.sign (a - b) = SignType.sign (a ^ 2 - b ^ 2) := by
  rw [sq_sub_sq, sign_mul, sign_pos h, one_mul]

theorem sign_intSign (n : Int) : SignType.sign n.sign = SignType.sign n := by
  rcases lt_trichotomy n 0 with h | rfl | h
  · rw [Int.sign_eq_neg_one_of_neg h, sign_neg h, sign_neg (by decide)]
  · rfl
  · rw [Int.sign_eq_one_of_pos h, sign_pos h, sign_pos (by decide)]

/-- One root against another. -/
theorem sign_sqrt_sub_sqrt {p n : Int} (hp : 0 < p) (hn : n < 0) :
    SignType.sign (p + n).sign = SignType.sign (Real.sqrt p - Real.sqrt (-n : Int)) := by
  have hp' : (0 : ℝ) < p := Int.cast_pos.2 hp
  have hn' : (0 : ℝ) < (-n : Int) := Int.cast_pos.2 (neg_pos.2 hn)
  rw [sign_sub_eq_sign_sq_sub (by positivity), Real.sq_sqrt hp'.le, Real.sq_sqrt hn'.le, sign_intSign,
    ← sign_intCast (α := ℝ)]
  push_cast
  rw [sub_neg_eq_add]

/-- Two roots against a third. -/
theorem sign_rootSignTwo {x y : Nat} (hx : 0 < x) (hy : 0 < y) (z : Nat) :
    SignType.sign (rootSignTwo x y z) = SignType.sign (Real.sqrt x + Real.sqrt y - Real.sqrt z) := by
  have hx' := Real.sqrt_pos.2 (Nat.cast_pos (α := ℝ).2 hx)
  have hy' := Real.sqrt_pos.2 (Nat.cast_pos (α := ℝ).2 hy)
  have hsquares : (Real.sqrt x + Real.sqrt y) ^ 2 - Real.sqrt z ^ 2 =
      2 * (Real.sqrt x * Real.sqrt y) - ((z : ℝ) - (x + y)) := by
    rw [add_sq, Real.sq_sqrt x.cast_nonneg, Real.sq_sqrt y.cast_nonneg, Real.sq_sqrt z.cast_nonneg]
    ring
  rw [sign_sub_eq_sign_sq_sub (by positivity), hsquares]
  unfold rootSignTwo
  split
  next hz =>
    have hz' : (z : ℝ) < x + y := by exact_mod_cast hz
    rw [sign_pos (by decide), sign_pos]
    linarith [mul_pos hx' hy']
  next hz =>
    obtain ⟨d, rfl⟩ := Nat.exists_eq_add_of_le (Nat.not_lt.1 hz)
    have hd : ((x + y + d : Nat) : ℝ) - (x + y) = d := by push_cast; ring
    have hfour : (2 * (Real.sqrt x * Real.sqrt y)) ^ 2 = ((4 * x * y : Nat) : ℝ) := by
      rw [mul_pow, mul_pow, Real.sq_sqrt x.cast_nonneg, Real.sq_sqrt y.cast_nonneg]
      push_cast
      ring
    have hdd : (d : ℝ) ^ 2 = ((d * d : Nat) : ℝ) := by push_cast; ring
    rw [hd, sign_sub_eq_sign_sq_sub (by positivity), hfour, hdd, Nat.add_sub_cancel_left]
    rcases lt_trichotomy (d * d) (4 * x * y) with h | h | h
    · rw [sign_pos (sub_pos.2 (Nat.cast_lt.2 h))]
      simp [h]
    · simp [h]
    · rw [sign_neg (sub_neg.2 (Nat.cast_lt.2 h))]
      simp [h.not_gt, h.ne']

/-- Positive and negative members of a list are together at most all. -/
theorem length_filter_sign_le (l : List Int) :
    (l.filter fun v => decide (0 < v)).length + (l.filter fun v => decide (v < 0)).length ≤ l.length := by
  induction l with
  | nil => simp
  | cons x l ih =>
    rcases lt_trichotomy x 0 with h | rfl | h
    · simp [h, h.not_gt]
      omega
    · simp
      omega
    · simp [h, h.not_gt]
      omega

/-- `sign_rootSignTwo` on the magnitudes of positive numbers. -/
theorem sign_rootSignTwo_natAbs {x y z : Int} (hx : 0 < x) (hy : 0 < y) (hz : 0 < z) :
    SignType.sign (rootSignTwo x.natAbs y.natAbs z.natAbs) = SignType.sign (Real.sqrt x + Real.sqrt y - Real.sqrt z) := by
  rw [sign_rootSignTwo (Int.natAbs_pos.2 hx.ne') (Int.natAbs_pos.2 hy.ne'), Nat.cast_natAbs, Nat.cast_natAbs,
    Nat.cast_natAbs, abs_of_pos hx, abs_of_pos hy, abs_of_pos hz]

theorem sum_sqrt_pos {l : List Int} {f : Int → Int} (hne : l ≠ []) (h : ∀ v ∈ l, 0 < f v) :
    0 < (l.map fun v => Real.sqrt (f v)).sum := by
  refine List.sum_pos _ (fun r hr => ?_) (mt List.map_eq_nil_iff.1 hne)
  obtain ⟨v, hv, rfl⟩ := List.mem_map.1 hr
  exact Real.sqrt_pos.2 (Int.cast_pos.2 (h v hv))

theorem sign_rootSign (x y z : Int) :
    SignType.sign (rootSign x y z) = SignType.sign (signedRoot x + signedRoot y + signedRoot z) := by
  have hlength := length_filter_sign_le [x, y, z]
  have hpos : ∀ v ∈ [x, y, z].filter (fun v => decide (0 < v)), 0 < v := by simp
  have hneg : ∀ v ∈ [x, y, z].filter (fun v => decide (v < 0)), 0 < -v := by simp
  rw [show signedRoot x + signedRoot y + signedRoot z = ([x, y, z].map signedRoot).sum by simp [add_assoc],
    sum_signedRoot, rootSign]
  generalize [x, y, z].filter (fun v => decide (0 < v)) = pos at *
  generalize [x, y, z].filter (fun v => decide (v < 0)) = neg at *
  split
  · simp
  next hne =>
    rw [sign_pos one_pos, List.map_nil, List.sum_nil, sub_zero]
    exact (sign_pos (sum_sqrt_pos (f := id) hne hpos)).symm
  next hne =>
    rw [sign_neg (by decide), List.map_nil, List.sum_nil, zero_sub, sign_neg (neg_neg_of_pos (sum_sqrt_pos hne hneg))]
  next p n =>
    simp only [List.map_cons, List.map_nil, List.sum_cons, List.sum_nil, add_zero]
    exact sign_sqrt_sub_sqrt (hpos p (by simp)) (neg_pos.1 (hneg n (by simp)))
  next p q n rest =>
    obtain rfl : rest = [] := List.length_eq_zero_iff.1 (by simp at hlength; omega)
    have htwo := sign_rootSignTwo_natAbs (hpos p (by simp)) (hpos q (by simp)) (hneg n (by simp))
    rw [Int.natAbs_neg] at htwo
    simp only [List.map_cons, List.map_nil, List.sum_cons, List.sum_nil, add_zero]
    exact htwo
  next p n k rest =>
    obtain rfl : rest = [] := List.length_eq_zero_iff.1 (by simp at hlength; omega)
    have htwo := sign_rootSignTwo_natAbs (hneg n (by simp)) (hneg k (by simp)) (hpos p (by simp))
    rw [Int.natAbs_neg, Int.natAbs_neg] at htwo
    simp only [List.map_cons, List.map_nil, List.sum_cons, List.sum_nil, add_zero]
    rw [Left.sign_neg, htwo, ← Left.sign_neg, neg_sub]
  next hp hn _ hone htwo hthree =>
    exfalso
    match pos, neg with
    | [], _ => exact hp rfl
    | _, [] => exact hn rfl
    | [p], [n] => exact hone p n rfl rfl
    | [p], n :: k :: rest => exact hthree p n k rest rfl rfl
    | [p, q], n :: rest => exact htwo p q n rest rfl rfl
    | p :: q :: r :: _, n :: _ =>
      simp at hlength
      omega

/-- A combination of three similarities of one block has the sign of that of their roots. -/
theorem sign_combinationSign (a b c : Int) {x y z : Similarity} (hx : 0 < x.den) (hy : 0 < y.den) (hz : 0 < z.den) :
    SignType.sign (combinationSign a b c x y z) = SignType.sign (a * x.root + b * y.root + c * z.root) := by
  have hx' := Real.sqrt_pos.2 (Nat.cast_pos (α := ℝ).2 hx)
  have hy' := Real.sqrt_pos.2 (Nat.cast_pos (α := ℝ).2 hy)
  have hz' := Real.sqrt_pos.2 (Nat.cast_pos (α := ℝ).2 hz)
  have hscaled : signedRoot (signedSquare (a * x.num) * (y.den * z.den)) +
      signedRoot (signedSquare (b * y.num) * (x.den * z.den)) + signedRoot (signedSquare (c * z.num) * (x.den * y.den)) =
      Real.sqrt x.den * Real.sqrt y.den * Real.sqrt z.den * (a * x.root + b * y.root + c * z.root) := by
    simp only [← Nat.cast_mul, signedRoot_signedSquare_mul]
    simp only [Similarity.root, Nat.cast_mul, Int.cast_mul, Real.sqrt_mul (Nat.cast_nonneg _)]
    field_simp
  rw [combinationSign, sign_rootSign, hscaled, sign_mul, sign_pos (by positivity), one_mul]

/-! ### The refined period (R108) -/

theorem combinationSign_eq_zero (a b c : Int) {x y z : Similarity} (hx : 0 < x.den) (hy : 0 < y.den) (hz : 0 < z.den) :
    combinationSign a b c x y z = 0 ↔ a * x.root + b * y.root + c * z.root = 0 := by
  rw [← sign_eq_zero_iff, sign_combinationSign a b c hx hy hz, sign_eq_zero_iff]

theorem combinationSign_nonpos (a b c : Int) {x y z : Similarity} (hx : 0 < x.den) (hy : 0 < y.den) (hz : 0 < z.den) :
    combinationSign a b c x y z ≤ 0 ↔ a * x.root + b * y.root + c * z.root ≤ 0 := by
  rw [← sign_nonpos_iff, sign_combinationSign a b c hx hy hz, sign_nonpos_iff]

/-- The offset of R108 from the similarities at the lag before, at the lag and after it: 0 where the denominator is. -/
noncomputable def lagOffset (l m r : ℝ) : ℝ := (l - r) / (2 * (l - 2 * m + r))

/-- An offset is not changed by a factor common to the three similarities. -/
theorem lagOffset_div (l m r : ℝ) {t : ℝ} (ht : t ≠ 0) : lagOffset (l / t) (m / t) (r / t) = lagOffset l m r := by
  unfold lagOffset
  rw [show l / t - r / t = (l - r) / t by ring, show 2 * (l / t - 2 * (m / t) + r / t) = 2 * (l - 2 * m + r) / t by ring,
    div_div_div_cancel_right₀ ht]

section
variable {l m r : ℝ} (hl : l ≤ m) (hr : r ≤ m)
include hl hr

/-- The offset from a lag whose similarity its neighbours' do not exceed is at most half a lag. -/
theorem abs_lagOffset_le : |lagOffset l m r| ≤ 1 / 2 := by
  rw [lagOffset, abs_div]
  refine div_le_of_le_mul₀ (abs_nonneg _) (by norm_num) ?_
  rw [abs_of_nonpos (by linarith : 2 * (l - 2 * m + r) ≤ 0), abs_le]
  constructor <;> linarith

/-- The test of `refinement`, its denominator being negative. -/
theorem refinement_test (h : l - 2 * m + r ≠ 0) (k : Int) :
    ((17 - 2 * k : Int) : ℝ) * l + ((4 * k - 2 : Int) : ℝ) * m + ((-(15 + 2 * k) : Int) : ℝ) * r ≤ 0 ↔
      k ≤ ⌊16 * lagOffset l m r + 1 / 2⌋ := by
  have hneg : 2 * (l - 2 * m + r) < 0 := by
    have := lt_of_le_of_ne (by linarith : l - 2 * m + r ≤ 0) h
    linarith
  have hfrac : (k : ℝ) ≤ 16 * lagOffset l m r + 1 / 2 ↔ ((k : ℝ) - 1 / 2) / 16 ≤ lagOffset l m r := by
    constructor <;> intro h <;> linarith
  rw [Int.le_floor, hfrac, lagOffset, le_div_iff_of_neg hneg]
  push_cast
  constructor <;> intro h <;> linarith

end

theorem refinement_eq {x y z : Similarity} (hx : 0 < x.den) (hy : 0 < y.den) (hz : 0 < z.den) (hxy : x.root ≤ y.root)
    (hzy : z.root ≤ y.root) : refinement x y z = ⌊16 * lagOffset x.root y.root z.root + 1 / 2⌋ := by
  have hzero : combinationSign 1 (-2) 1 x y z = 0 ↔ x.root - 2 * y.root + z.root = 0 := by
    rw [combinationSign_eq_zero 1 (-2) 1 hx hy hz]
    push_cast
    constructor <;> intro h <;> linarith
  unfold refinement
  split
  next h =>
    rw [lagOffset, hzero.1 h]
    norm_num
  next h =>
    have htest (j : Nat) : (let k : Int := (j : Int) - 8
        combinationSign (17 - 2 * k) (4 * k - 2) (-(15 + 2 * k)) x y z ≤ 0) ↔
        (j : Int) ≤ ⌊16 * lagOffset x.root y.root z.root + 1 / 2⌋ + 8 := by
      rw [combinationSign_nonpos _ _ _ hx hy hz, refinement_test hxy hzy (mt hzero.2 h), sub_le_iff_le_add]
    have hgreatest := greatestUpTo_eq (fun j => decide_eq_true_iff.trans (htest j)) 16
    obtain ⟨hlo, hhi⟩ := abs_le.1 (abs_lagOffset_le hxy hzy)
    have hlo' : -8 ≤ ⌊16 * lagOffset x.root y.root z.root + 1 / 2⌋ := Int.le_floor.2 (by push_cast; linarith)
    have hhi' : ⌊16 * lagOffset x.root y.root z.root + 1 / 2⌋ < 9 := Int.floor_lt.2 (by push_cast; linarith)
    refine (congrArg (· - 8) hgreatest).trans ?_
    omega

/-! ### The similarities of an analysis window (R107) -/

/-- Σ over the window's last 960 samples, of the samples at a lag against those at another. -/
def lagProduct (w : List Int) (i j : Nat) : Int :=
  ((List.range 960).map fun n => w.getD (960 + n - i) 0 * w.getD (960 + n - j) 0).sum

theorem sequenceB_eq {w : List Int} (hw : w.length = 1920) {lag : Nat} (hlag : lag ≤ 960) :
    sequenceB w lag = (List.range 960).map fun n => w.getD (960 + n - lag) 0 := by
  refine List.ext_getElem (by simp [sequenceB]; omega) fun n h _ => ?_
  have hn : 960 - lag + n < w.length := by
    simp [sequenceB] at h
    omega
  simp [sequenceB, Nat.sub_add_comm hlag, List.getElem?_eq_getElem hn]

theorem sequenceA_eq {w : List Int} (hw : w.length = 1920) : sequenceA w = sequenceB w 0 :=
  (List.take_of_length_le (by simp [sequenceA, hw])).symm

theorem energy_eq (l : List Int) : (energy l : Int) = dotProduct l l := by
  rw [energy, dotProduct, Nat.cast_list_sum, List.map_map, List.zipWith_self]
  exact congrArg List.sum (List.map_congr_left fun x _ => Int.natAbs_mul_self)

section
variable {w : List Int} (hw : w.length = 1920)
include hw

theorem dotProduct_sequenceB {i j : Nat} (hi : i ≤ 960) (hj : j ≤ 960) :
    dotProduct (sequenceB w i) (sequenceB w j) = lagProduct w i j := by
  rw [sequenceB_eq hw hi, sequenceB_eq hw hj, dotProduct, List.zipWith_map, List.zipWith_self, lagProduct]

theorem dotProduct_sequences {lag : Nat} (hlag : lag ≤ 960) :
    dotProduct (sequenceA w) (sequenceB w lag) = lagProduct w 0 lag := by
  rw [sequenceA_eq hw, dotProduct_sequenceB hw (Nat.zero_le _) hlag]

theorem energy_sequenceB {lag : Nat} (hlag : lag ≤ 960) : (energy (sequenceB w lag) : Int) = lagProduct w lag lag := by
  rw [energy_eq, dotProduct_sequenceB hw hlag hlag]

end

theorem lagProduct_sq_le (w : List Int) (i j : Nat) : lagProduct w i j ^ 2 ≤ lagProduct w i i * lagProduct w j j := by
  have hcauchy := Finset.sum_mul_sq_le_sq_mul_sq (Finset.range 960) (fun n => w.getD (960 + n - i) 0)
    fun n => w.getD (960 + n - j) 0
  simp only [sq (w.getD _ _)] at hcauchy
  exact hcauchy

/-- The similarity of R107 over the reals, a quotient by 0 counting as 0. -/
noncomputable def windowSimilarity (w : List Int) (lag : Nat) : ℝ :=
  let x (n : Nat) : ℝ := ((w.getD n 0 : Int) : ℝ)
  let sum (f : Nat → ℝ) : ℝ := ((List.range 960).map f).sum
  sum (fun n => x (960 + n) * x (960 + n - lag)) /
    Real.sqrt (sum (fun n => x (960 + n) ^ 2) * sum fun n => x (960 + n - lag) ^ 2)

theorem lagProduct_cast (w : List Int) (i j : Nat) : (lagProduct w i j : ℝ) =
    ((List.range 960).map fun n => ((w.getD (960 + n - i) 0 : Int) : ℝ) * ((w.getD (960 + n - j) 0 : Int) : ℝ)).sum := by
  rw [lagProduct, Int.cast_list_sum, List.map_map]
  exact congrArg List.sum (List.map_congr_left fun n _ => Int.cast_mul ..)

theorem windowSimilarity_eq (w : List Int) (lag : Nat) : windowSimilarity w lag =
    lagProduct w 0 lag / Real.sqrt (lagProduct w 0 0 * lagProduct w lag lag) := by
  simp only [lagProduct_cast, windowSimilarity, sq, Nat.sub_zero]

theorem similarity_eq (w : List Int) (lag : Nat) : similarity w lag =
    if energy (sequenceB w lag) = 0 then ⟨0, 1⟩
    else ⟨dotProduct (sequenceA w) (sequenceB w lag), energy (sequenceB w lag)⟩ := rfl

theorem similarity_den_pos (w : List Int) (lag : Nat) : 0 < (similarity w lag).den := by
  rw [similarity_eq]
  split
  next => exact Nat.one_pos
  next h => exact Nat.pos_of_ne_zero h

theorem similarity_root (w : List Int) (lag : Nat) : (similarity w lag).root =
    dotProduct (sequenceA w) (sequenceB w lag) / Real.sqrt (energy (sequenceB w lag)) := by
  rw [similarity_eq]
  split
  next h => simp [Similarity.root, h]
  next => rfl

/-- R107's similarity is the model's but for the root of Σa². -/
theorem windowSimilarity_root {w : List Int} (hw : w.length = 1920) {lag : Nat} (hlag : lag ≤ 960) :
    windowSimilarity w lag = (similarity w lag).root / Real.sqrt (energy (sequenceA w)) := by
  have henergy {k : Nat} (hk : k ≤ 960) : (lagProduct w k k : ℝ) = energy (sequenceB w k) := by
    rw [← energy_sequenceB hw hk, Int.cast_natCast]
  rw [windowSimilarity_eq, similarity_root, dotProduct_sequences hw hlag, henergy (Nat.zero_le _), henergy hlag,
    sequenceA_eq hw, Real.sqrt_mul (Nat.cast_nonneg _), div_div, mul_comm (Real.sqrt _)]

/-- A similarity is at most 1 (R107). -/
theorem similarity_num_sq_le {w : List Int} (hw : w.length = 1920) {lag : Nat} (hlag : lag ≤ 960) :
    (similarity w lag).num.natAbs * (similarity w lag).num.natAbs ≤ energy (sequenceA w) * (similarity w lag).den := by
  rw [similarity_eq]
  split
  · simp
  · zify
    rw [← sq, sq_abs, sequenceA_eq hw, dotProduct_sequenceB hw (Nat.zero_le _) hlag, energy_sequenceB hw (Nat.zero_le _),
      energy_sequenceB hw hlag]
    exact lagProduct_sq_le ..

/-! ### The lag of the greatest similarity (R107) -/

/-- `lag` is the first of `lo..hi` at which `f` is greatest. -/
structure FirstGreatest (f : Nat → ℝ) (lo hi lag : Nat) : Prop where
  lower : lo ≤ lag
  upper : lag ≤ hi
  greatest : ∀ k, lo ≤ k → k ≤ hi → f k ≤ f lag
  first : ∀ k, lo ≤ k → k < lag → f k < f lag

namespace FirstGreatest
variable {f : Nat → ℝ} {lo hi lag : Nat}

theorem single (f : Nat → ℝ) (n : Nat) : FirstGreatest f n n n where
  lower := le_rfl
  upper := le_rfl
  greatest _ hlo hhi := (congrArg f (le_antisymm hhi hlo)).le
  first _ hlo hlt := absurd hlt hlo.not_gt

/-- A greater value past the end is the first greatest of the longer range. -/
theorem moves (h : FirstGreatest f lo hi lag) (hlt : f lag < f (hi + 1)) : FirstGreatest f lo (hi + 1) (hi + 1) where
  lower := (h.lower.trans h.upper).trans hi.le_succ
  upper := le_rfl
  greatest k hlo hhi := by
    rcases Nat.le_or_eq_of_le_succ hhi with hk | rfl
    · exact (h.greatest k hlo hk).trans hlt.le
    · exact le_rfl
  first k hlo hk := (h.greatest k hlo (Nat.lt_succ_iff.1 hk)).trans_lt hlt

/-- No greater value past the end leaves the first greatest. -/
theorem stays (h : FirstGreatest f lo hi lag) (hle : f (hi + 1) ≤ f lag) : FirstGreatest f lo (hi + 1) lag where
  lower := h.lower
  upper := h.upper.trans hi.le_succ
  greatest k hlo hhi := by
    rcases Nat.le_or_eq_of_le_succ hhi with hk | rfl
    · exact h.greatest k hlo hk
    · exact hle
  first := h.first

end FirstGreatest

/-- A lag of 27..`hi` with its similarity, the first that has the greatest. -/
def BestUpTo (w : List Int) (hi : Nat) (best : Nat × Similarity) : Prop :=
  best.2 = similarity w best.1 ∧ FirstGreatest (fun k => (similarity w k).root) 27 hi best.1

/-- One more lag searched. -/
theorem BestUpTo.next {w : List Int} {hi : Nat} {best : Nat × Similarity} (h : BestUpTo w hi best) :
    BestUpTo w (hi + 1) (if best.2.below (similarity w (hi + 1)) then (hi + 1, similarity w (hi + 1)) else best) := by
  obtain ⟨hsim, hbest⟩ := h
  have hbelow := Similarity.below_iff (similarity_den_pos w best.1) (similarity_den_pos w (hi + 1))
  rw [← hsim] at hbelow
  split
  next hlt => exact ⟨rfl, hbest.moves (by simpa [← hsim] using hbelow.1 hlt)⟩
  next hge => exact ⟨hsim, hbest.stays (by simpa [← hsim] using mt hbelow.2 hge)⟩

theorem bestLag_search (w : List Int) (n : Nat) : BestUpTo w (n + 27)
    (((List.range (n + 1)).map fun k => (k + 27, similarity w (k + 27))).foldl
      (fun best x => if best.2.below x.2 then x else best) (27, similarity w 27)) := by
  induction n with
  | zero =>
    have single : BestUpTo w 27 (27, similarity w 27) := ⟨rfl, .single _ 27⟩
    simpa using single
  | succ n ih =>
    rw [List.range_succ, List.map_append, List.foldl_append, Nat.add_right_comm]
    exact ih.next

theorem bestLag_best (w : List Int) : BestUpTo w 873 (bestLag w) := bestLag_search w 846

theorem bestLag_den_pos (w : List Int) : 0 < (bestLag w).2.den := by
  rw [(bestLag_best w).1]
  exact similarity_den_pos w _

/-! ### The analysis of a window (R107, R108) -/

theorem neg_eight_le_refinement (x y z : Similarity) : -8 ≤ refinement x y z := by
  unfold refinement
  split <;> omega

/-- The offset of a best lag, 0 at the two end lags (R108). -/
noncomputable def bestOffset (f : Nat → ℝ) (lag : Nat) : ℝ :=
  if lag = 27 ∨ lag = 873 then 0 else lagOffset (f (lag - 1)) (f lag) (f (lag + 1))

theorem periodOf_eq {w : List Int} {lag : Nat} (h : FirstGreatest (fun k => (similarity w k).root) 27 873 lag) :
    (periodOf w lag : Int) = ⌊16 * ((lag : ℝ) + bestOffset (fun k => (similarity w k).root) lag) + 1 / 2⌋ := by
  have hlower := h.lower
  have hupper := h.upper
  unfold periodOf bestOffset
  split
  next =>
    refine (Int.floor_eq_iff.2 ?_).symm
    push_cast
    constructor <;> linarith
  next hinner =>
    rw [not_or] at hinner
    have hrefined := refinement_eq (similarity_den_pos w (lag - 1)) (similarity_den_pos w lag)
      (similarity_den_pos w (lag + 1)) (h.greatest (lag - 1) (by omega) (by omega))
      (h.greatest (lag + 1) (by omega) (by omega))
    have hsplit (d : ℝ) : 16 * ((lag : ℝ) + d) + 1 / 2 = ((16 * (lag : Int) : Int) : ℝ) + (16 * d + 1 / 2) := by
      push_cast
      ring
    have hge := neg_eight_le_refinement (similarity w (lag - 1)) (similarity w lag) (similarity w (lag + 1))
    rw [Int.toNat_of_nonneg (by omega), hsplit, Int.floor_intCast_add, hrefined]

theorem analyse_silent {w : List Int} (h : energy (sequenceA w) = 0) : analyse w = (0, 0) := if_pos h

section
variable {w : List Int} (h : energy (sequenceA w) ≠ 0)
include h

theorem analyse_unvoiced (hnum : (bestLag w).2.num ≤ 0) : analyse w = (0, 0) := (if_neg h).trans (if_pos hnum)

theorem analyse_voiced (hnum : 0 < (bestLag w).2.num) :
    analyse w = (clarityOf (energy (sequenceA w)) (bestLag w).2, periodOf w (bestLag w).1) :=
  (if_neg h).trans (if_neg (not_le.2 hnum))

end

theorem FirstGreatest.congr {f g : Nat → ℝ} {lo hi lag : Nat} (h : FirstGreatest f lo hi lag)
    (hiff : ∀ i j, lo ≤ i → i ≤ hi → lo ≤ j → j ≤ hi → (g i < g j ↔ f i < f j)) : FirstGreatest g lo hi lag where
  lower := h.lower
  upper := h.upper
  greatest k hlo hhi := not_lt.1 (mt (hiff lag k h.lower h.upper hlo hhi).1 (h.greatest k hlo hhi).not_gt)
  first k hlo hlt := (hiff k lag hlo (hlt.le.trans h.upper) h.lower h.upper).2 (h.first k hlo hlt)

theorem windowSimilarity_silent {w : List Int} (hw : w.length = 1920) (h : energy (sequenceA w) = 0) {k : Nat}
    (hk : k ≤ 873) : windowSimilarity w k = 0 := by
  rw [windowSimilarity_root hw (hk.trans (by decide)), h, Nat.cast_zero, Real.sqrt_zero, div_zero]

/-- The greatest similarity of R107, from the model's. -/
theorem windowSimilarity_best {w : List Int} (hw : w.length = 1920) : windowSimilarity w (bestLag w).1 =
    (bestLag w).2.num / Real.sqrt ((energy (sequenceA w) : ℝ) * (bestLag w).2.den) := by
  obtain ⟨hsim, hbest⟩ := bestLag_best w
  rw [windowSimilarity_root hw (hbest.upper.trans (by decide)), ← hsim, Similarity.root, div_div,
    Real.sqrt_mul (Nat.cast_nonneg _), mul_comm (Real.sqrt _)]

section
variable {w : List Int} (hw : w.length = 1920) (h : energy (sequenceA w) ≠ 0)
include hw h

theorem windowSimilarity_firstGreatest : FirstGreatest (windowSimilarity w) 27 873 (bestLag w).1 := by
  refine (bestLag_best w).2.congr fun i j _ hi _ hj => ?_
  rw [windowSimilarity_root hw (hi.trans (by decide)), windowSimilarity_root hw (hj.trans (by decide))]
  exact div_lt_div_iff_of_pos_right (Real.sqrt_pos.2 (Nat.cast_pos.2 (Nat.pos_of_ne_zero h)))

theorem windowSimilarity_best_pos : 0 < windowSimilarity w (bestLag w).1 ↔ 0 < (bestLag w).2.num := by
  have hden := bestLag_den_pos w
  have haa := Nat.pos_of_ne_zero h
  rw [windowSimilarity_best hw]
  generalize bestLag w = best at *
  rw [div_pos_iff_of_pos_right (by positivity), Int.cast_pos]

theorem bestOffset_windowSimilarity :
    bestOffset (windowSimilarity w) (bestLag w).1 = bestOffset (fun k => (similarity w k).root) (bestLag w).1 := by
  have hupper := (bestLag_best w).2.upper
  unfold bestOffset
  split
  next => rfl
  next hinner =>
    rw [windowSimilarity_root hw (by omega), windowSimilarity_root hw (by omega), windowSimilarity_root hw (by omega)]
    exact lagOffset_div _ _ _ (Real.sqrt_pos.2 (Nat.cast_pos.2 (Nat.pos_of_ne_zero h))).ne'

/-- The clarity and the period of a window whose greatest similarity is above 0 (R107, R108). -/
theorem analyse_voiced_eq (hpos : 0 < windowSimilarity w (bestLag w).1) :
    ((analyse w).1 : Int) = ⌊255 * windowSimilarity w (bestLag w).1⌋ ∧
      ((analyse w).2 : Int) = ⌊16 * (((bestLag w).1 : ℝ) + bestOffset (windowSimilarity w) (bestLag w).1) + 1 / 2⌋ := by
  obtain ⟨hsim, hbest⟩ := bestLag_best w
  have hnum := (windowSimilarity_best_pos hw h).1 hpos
  have hle := similarity_num_sq_le hw (hbest.upper.trans (by decide))
  have hden := bestLag_den_pos w
  rw [← hsim] at hle
  rw [analyse_voiced h hnum, windowSimilarity_best hw, bestOffset_windowSimilarity hw h]
  generalize bestLag w = best at *
  exact ⟨clarityOf_eq (Nat.pos_of_ne_zero h) hden hnum hle, periodOf_eq hbest⟩

end

/-- What R107 and R108 make of a window: the first lag of the greatest similarity, and where that is above 0 its clarity
and its period. -/
theorem analyse_eq {w : List Int} (hw : w.length = 1920) : ∃ lag, FirstGreatest (windowSimilarity w) 27 873 lag ∧
    (windowSimilarity w lag ≤ 0 → analyse w = (0, 0)) ∧
    (0 < windowSimilarity w lag → ((analyse w).1 : Int) = ⌊255 * windowSimilarity w lag⌋ ∧
      ((analyse w).2 : Int) = ⌊16 * ((lag : ℝ) + bestOffset (windowSimilarity w) lag) + 1 / 2⌋) := by
  by_cases h : energy (sequenceA w) = 0
  · have hzero {k : Nat} (hk : k ≤ 873) := windowSimilarity_silent hw h hk
    refine ⟨27, ⟨le_rfl, by decide, fun k _ hk => ?_, fun k hlo hlt => absurd hlt hlo.not_gt⟩, fun _ => analyse_silent h,
      fun hpos => absurd hpos (hzero (by decide)).not_gt⟩
    rw [hzero hk, hzero (by decide)]
  · exact ⟨_, windowSimilarity_firstGreatest hw h,
      fun hle => analyse_unvoiced h (not_lt.1 (mt (windowSimilarity_best_pos hw h).2 hle.not_gt)),
      analyse_voiced_eq hw h⟩

/-- Settles O47: each measure's whole-number test is its formula's, and the first lag of the greatest similarity carries
the clarity and the period. -/
theorem measuresAreTheFormulas : Obligations.MeasuresAreTheFormulas := by
  refine ⟨levelOf_zero, fun _ => levelOf_eq, fun _ _ => clarityOf_eq, fun _ => ⟨pitchOf_outside, pitchOf_inside⟩,
    fun w hw => ?_⟩
  obtain ⟨lag, hbest, hsilent, hvoiced⟩ := analyse_eq hw
  exact ⟨lag, hbest.lower, hbest.upper, hbest.greatest, hbest.first, hsilent, hvoiced⟩

end Sys2Proof.Machine

namespace Sys2Proof.Machine

/-! ## A lane's notes (R122, R130) -/

/-- The outcomes that stand once they are given (R130). -/
def NoteOutcome.final (x : NoteOutcome) : Prop := x = .scored ∨ x = .empty ∨ x = .void

theorem NoteOutcome.final_iff {x : NoteOutcome} : x.final ↔ x ≠ .pending ∧ x ≠ .opened := by
  cases x <;> simp [NoteOutcome.final]

theorem Lane.outcomeAt_beyond {l : Lane} {i : Nat} (h : l.outcomes.length ≤ i) : l.outcomeAt i = .pending := by
  simp [Lane.outcomeAt, List.getElem?_eq_none h]

/-- The outcomes after one of them is given anew. -/
theorem Lane.outcomeAt_given {l t : Lane} {c : Nat} {x : NoteOutcome} (ht : t.outcomes = l.outcomes.set c x)
    (hc : c < l.outcomes.length) (i : Nat) : t.outcomeAt i = if i = c then x else l.outcomeAt i := by
  simp only [Lane.outcomeAt, ht, List.getD_eq_getElem?_getD, List.getElem?_set, eq_comm (a := c)]
  split
  · rfl
  · rfl

section
variable {l : Lane} (h : l.lawful)
include h

theorem Lane.lawful.cursor_lt (hc : l.outcomeAt l.cursor ≠ .pending) : l.cursor < l.noteCount :=
  Nat.lt_of_not_le fun hle => hc (Lane.outcomeAt_beyond (h.notes ▸ hle))

theorem Lane.lawful.open_at {o : OpenNote} (ho : l.openNote = some o) : o.index = l.cursor ∧ l.outcomeAt l.cursor = .opened := by
  obtain ⟨hindex, _⟩ := h.openAtCursor o ho
  exact ⟨hindex, (h.opened l.cursor).2 ⟨o, ho, hindex⟩⟩

theorem Lane.lawful.not_open (hc : l.outcomeAt l.cursor ≠ .opened) : l.openNote = none :=
  Option.eq_none_iff_forall_ne_some.2 fun _ ho => hc (h.open_at ho).2

theorem Lane.lawful.open_of (hc : l.outcomeAt l.cursor = .opened) : ∃ o, l.openNote = some o ∧ o.index = l.cursor :=
  (h.opened l.cursor).1 hc

theorem Lane.lawful.not_open_end (hc : l.cursor = l.noteCount) : l.openNote = none :=
  h.not_open (by simp [Lane.outcomeAt_beyond (h.notes.trans hc.symm).le])

/-- The counter of an outcome after the undecided note at the cursor is given one. -/
theorem Lane.lawful.count_given (hc : l.cursor < l.noteCount) (hu : ¬ (l.outcomeAt l.cursor).final) {y : NoteOutcome}
    (hy : y.final) (x : NoteOutcome) :
    (l.outcomes.set l.cursor x).count y = l.outcomes.count y + if x = y then 1 else 0 := by
  have hlen : l.cursor < l.outcomes.length := h.notes ▸ hc
  have hold : l.outcomes[l.cursor] ≠ y := fun heq => hu (by simpa [Lane.outcomeAt, List.getElem?_eq_getElem hlen, heq] using hy)
  simp [List.count_set hlen, hold]

end

/-! ### One note given its outcome -/

/-- What the open note adds to the two sums when it is SCORED (R132). -/
def OpenNote.earned (m : ImageMemory) (p : Nat) (o : OpenNote) : Nat × Nat :=
  (100 * o.points / (4 * o.counted) * min (noteAt m p o.index).duration 2000, min (noteAt m p o.index).duration 2000)

/-- The sums and the count of SCORED notes, after the open note is scored or not. -/
def Lane.totals (l : Lane) : Nat × Nat × Nat := (l.sumAw, l.sumW, l.scored)

/-- The cursor's note given an outcome and counted; no note stays open, and a SCORED note adds to the sums. -/
def Lane.give (m : ImageMemory) (p : Nat) (l : Lane) (x : NoteOutcome) : Lane :=
  let e := if x = .scored then (l.openNote.map (·.earned m p)).getD (0, 0) else (0, 0)
  { l with
    outcomes := l.outcomes.set l.cursor x, openNote := none, sumAw := l.sumAw + e.1, sumW := l.sumW + e.2
    scored := l.scored + (if x = .scored then 1 else 0), empty := l.empty + (if x = .empty then 1 else 0)
    void := l.void + (if x = .void then 1 else 0) }

theorem Lane.voidNote_eq (m : ImageMemory) (p : Nat) (l : Lane) :
    l.voidNote l.cursor = { l.give m p .void with lastClosed := some ⟨l.cursor, .void, none⟩ } := rfl

theorem Lane.emptyNote_eq (m : ImageMemory) (p : Nat) (l : Lane) :
    l.emptyNote l.cursor = { l.give m p .empty with lastClosed := some ⟨l.cursor, .empty, none⟩ } := rfl

/-- The outcome of the open note at its end (R132). -/
def OpenNote.atEnd (o : OpenNote) : NoteOutcome := if o.counted = 0 then .empty else .scored

/-- The accuracy of an open note (R132). -/
def OpenNote.accuracy (o : OpenNote) : Nat := 100 * o.points / (4 * o.counted)

theorem Lane.closeNote_eq (m : ImageMemory) (p : Nat) {l : Lane} {o : OpenNote} (ho : l.openNote = some o)
    (hi : o.index = l.cursor) : l.closeNote o (noteAt m p l.cursor) = { l.give m p o.atEnd with
      lastClosed := some ⟨l.cursor, o.atEnd, if o.atEnd = .scored then some o.accuracy else none⟩ } := by
  by_cases h : o.counted = 0
  · simp [Lane.closeNote, OpenNote.atEnd, h, hi, Lane.emptyNote_eq m p]
  · simp [Lane.closeNote, OpenNote.atEnd, h, hi, Lane.give, ho, OpenNote.earned, OpenNote.accuracy]

section
variable {m : ImageMemory} {p : Nat} {l : Lane} (h : l.lawful)
include h

theorem Lane.lawful.earned_le {o : OpenNote} (ho : l.openNote = some o) : (o.earned m p).1 ≤ 100 * (o.earned m p).2 := by
  obtain ⟨_, _, hpoints⟩ := h.openAtCursor o ho
  refine Nat.mul_le_mul_right _ (Nat.div_le_of_le_mul ?_)
  omega

theorem Lane.lawful.give (hc : l.cursor < l.noteCount) (hu : ¬ (l.outcomeAt l.cursor).final) {x : NoteOutcome}
    (hx : x.final) : (l.give m p x).lawful := by
  have hlen : l.cursor < l.outcomes.length := h.notes ▸ hc
  have houtcome : ∀ i, (l.give m p x).outcomeAt i = if i = l.cursor then x else l.outcomeAt i :=
    Lane.outcomeAt_given rfl hlen
  refine { h with
    notes := (List.length_set ..).trans h.notes
    before := fun i (hi : i < l.cursor) => ?_
    after := fun i (hi : l.cursor < i) => ?_
    opened := fun i => iff_of_false ?_ (by simp [Lane.give])
    openAtCursor := nofun
    scored := ?_
    empty := ?_
    void := ?_
    accuracy := ?_ }
  · rw [houtcome, if_neg (Nat.ne_of_lt hi)]
    exact h.before i hi
  · rw [houtcome, if_neg (Nat.ne_of_gt hi)]
    exact h.after i hi
  · rw [houtcome]
    split
    · exact (NoteOutcome.final_iff.1 hx).2
    · next hne =>
      rintro hopened
      obtain ⟨o, ho, rfl⟩ := (h.opened i).1 hopened
      exact hne (h.open_at ho).1
  · rw [Lane.give, h.count_given hc hu (.inl rfl), h.scored]
  · rw [Lane.give, h.count_given hc hu (.inr (.inl rfl)), h.empty]
  · rw [Lane.give, h.count_given hc hu (.inr (.inr rfl)), h.void]
  · simp only [Lane.give]
    have hsum := h.accuracy
    split
    · cases ho : l.openNote with
      | none => simpa using hsum
      | some o =>
        have := h.earned_le (m := m) (p := p) ho
        simp only [Option.map_some, Option.getD_some]
        omega
    · simpa using hsum

/-- The cursor moves on from a note whose outcome is final. -/
theorem Lane.lawful.moveOn (hf : (l.outcomeAt l.cursor).final) : Lane.lawful { l with cursor := l.cursor + 1 } := by
  have hopen : l.openNote = none := h.not_open (NoteOutcome.final_iff.1 hf).2
  refine { h with
    cursor := h.cursor_lt (NoteOutcome.final_iff.1 hf).1
    before := fun i hi => ?_
    after := fun i hi => h.after i (Nat.lt_of_succ_lt hi)
    openAtCursor := fun o ho => by simp [hopen] at ho }
  rcases Nat.lt_succ_iff_lt_or_eq.1 hi with hlt | rfl
  · exact h.before i hlt
  · exact hf

end

end Sys2Proof.Machine

namespace Sys2Proof.Machine

/-! ### Notes decided one after another (R127, R134) -/

/-- What the song, the cueing and the stamps fixed of a lane, which its notes' outcomes leave alone. -/
structure Lane.sameSong (l t : Lane) : Prop where
  state : t.state = l.state
  part : t.part = l.part
  noteCount : t.noteCount = l.noteCount
  tolerance : t.tolerance = l.tolerance
  fold : t.fold = l.fold
  latency : t.latency = l.latency
  lastEpoch : t.lastEpoch = l.lastEpoch

theorem Lane.sameSong.refl (l : Lane) : l.sameSong l := ⟨rfl, rfl, rfl, rfl, rfl, rfl, rfl⟩

theorem Lane.sameSong.trans {l u t : Lane} (h : l.sameSong u) (h' : u.sameSong t) : l.sameSong t :=
  ⟨h'.state.trans h.state, h'.part.trans h.part, h'.noteCount.trans h.noteCount, h'.tolerance.trans h.tolerance,
    h'.fold.trans h.fold, h'.latency.trans h.latency, h'.lastEpoch.trans h.lastEpoch⟩

/-- How notes are decided as the cursor moves over them: the outcome given to a PENDING note and to the open one. -/
structure Verdict where
  pending : Nat → NoteOutcome
  opened : OpenNote → NoteOutcome

/-- A PENDING note becomes EMPTY or VOID, and the open one is given a final outcome (R127, R134). -/
structure Verdict.lawful (v : Verdict) : Prop where
  pending : ∀ i, v.pending i = .empty ∨ v.pending i = .void
  opened : ∀ o, (v.opened o).final

/-- The sums and the count of SCORED notes once the cursor has passed the open note, if there is one. -/
def Lane.totalsAfter (m : ImageMemory) (p : Nat) (v : Verdict) (l : Lane) : Nat × Nat × Nat :=
  match l.openNote with
  | none => l.totals
  | some o => if v.opened o = .scored then (l.sumAw + (o.earned m p).1, l.sumW + (o.earned m p).2, l.scored + 1) else l.totals

/-- The lane `t` is `l` with the cursor moved on and each note it moved over decided (R127, R134). -/
structure Lane.Decided (m : ImageMemory) (p : Nat) (v : Verdict) (l t : Lane) : Prop where
  sameSong : l.sameSong t
  lawful : t.lawful
  cursor : l.cursor ≤ t.cursor
  outside : ∀ i, i < l.cursor ∨ t.cursor ≤ i → t.outcomeAt i = l.outcomeAt i
  final : ∀ i, (l.outcomeAt i).final → t.outcomeAt i = l.outcomeAt i
  pending : ∀ i, l.cursor ≤ i → i < t.cursor → l.outcomeAt i = .pending → t.outcomeAt i = v.pending i
  opened : ∀ o, l.openNote = some o → l.cursor < t.cursor → t.outcomeAt l.cursor = v.opened o
  openNote : t.openNote = if l.cursor < t.cursor then none else l.openNote
  totals : t.totals = if l.cursor < t.cursor then l.totalsAfter m p v else l.totals
  void : l.void ≤ t.void
  empty : (∀ i, v.pending i = .void) → t.empty =
    l.empty + if l.cursor < t.cursor ∧ l.openNote.map v.opened = some .empty then 1 else 0

section
variable {m : ImageMemory} {p : Nat} {v : Verdict} {l u t : Lane}

theorem Lane.Decided.refl (h : l.lawful) : l.Decided m p v l where
  sameSong := .refl l
  lawful := h
  cursor := Nat.le_refl _
  outside := fun _ _ => rfl
  final := fun _ _ => rfl
  pending := fun _ hle hlt _ => absurd hlt hle.not_gt
  opened := fun _ _ hlt => absurd hlt (Nat.lt_irrefl _)
  openNote := by simp
  totals := by simp
  void := Nat.le_refl _
  empty := by simp

/-- Where the cursor stays, nothing is decided. -/
theorem Lane.Decided.still (h : l.Decided m p v t) (hc : t.cursor = l.cursor) : (∀ i, t.outcomeAt i = l.outcomeAt i) ∧
    t.openNote = l.openNote ∧ t.totals = l.totals := by
  refine ⟨fun i => h.outside i ?_, ?_, ?_⟩
  · rw [hc]
    exact Nat.lt_or_ge i l.cursor
  · rw [h.openNote, hc, if_neg (Nat.lt_irrefl _)]
  · rw [h.totals, hc, if_neg (Nat.lt_irrefl _)]

/-- Once the cursor has moved no note is open, and what follows leaves the sums. -/
theorem Lane.Decided.closed (h : l.Decided m p v u) (hlt : l.cursor < u.cursor) : u.openNote = none := by
  rw [h.openNote, if_pos hlt]

theorem Lane.totalsAfter_closed (h : l.openNote = none) : l.totalsAfter m p v = l.totals := by
  simp [Lane.totalsAfter, h]

theorem Lane.totalsAfter_congr (ht : t.totals = l.totals) (ho : t.openNote = l.openNote) :
    t.totalsAfter m p v = l.totalsAfter m p v := by
  simp only [Lane.totals, Prod.mk.injEq] at ht
  simp only [Lane.totalsAfter, ho, Lane.totals, ht]

theorem Lane.Decided.trans (h : l.Decided m p v u) (h' : u.Decided m p v t) : l.Decided m p v t := by
  have hcursor := h.cursor.trans h'.cursor
  rcases Nat.eq_or_lt_of_le h.cursor with hstill | hmoved
  · obtain ⟨houtcome, hopen, htotals⟩ := h.still hstill.symm
    refine ⟨h.sameSong.trans h'.sameSong, h'.lawful, hcursor, fun i hi => ?_, fun i hi => ?_, fun i hle hlt hi => ?_,
      fun o ho hlt => ?_, ?_, ?_, h.void.trans h'.void, fun hv => ?_⟩
    · rw [h'.outside i (hstill ▸ hi), houtcome]
    · rw [h'.final i (by rwa [houtcome]), houtcome]
    · exact h'.pending i (hstill ▸ hle) hlt (by rwa [houtcome])
    · rw [hstill] at hlt ⊢
      exact h'.opened o (hopen.trans ho) hlt
    · rw [h'.openNote, hopen, hstill]
    · rw [h'.totals, htotals, hstill, Lane.totalsAfter_congr htotals hopen]
    · rw [h'.empty hv, h.empty hv, hopen, hstill]
      simp
  · have hlt := hmoved.trans_le h'.cursor
    have hopen := h.closed hmoved
    refine ⟨h.sameSong.trans h'.sameSong, h'.lawful, hcursor, fun i hi => ?_, fun i hi => ?_, fun i hle hi hpend => ?_,
      fun o ho _ => ?_, ?_, ?_, h.void.trans h'.void, fun hv => ?_⟩
    · rw [h'.outside i (hi.imp_left (·.trans hmoved)), h.outside i (hi.imp_right h'.cursor.trans)]
    · have hu := h.final i hi
      rw [h'.final i (by rwa [hu]), hu]
    · rcases Nat.lt_or_ge i u.cursor with hiu | hiu
      · rw [h'.outside i (.inl hiu)]
        exact h.pending i hle hiu hpend
      · exact h'.pending i hiu hi (by rw [h.outside i (.inr hiu), hpend])
    · rw [h'.outside _ (.inl hmoved)]
      exact h.opened o ho hmoved
    · rw [h'.openNote, hopen, if_pos hlt, ite_self]
    · rw [h'.totals, Lane.totalsAfter_closed hopen, ite_self, h.totals, if_pos hmoved, if_pos hlt]
    · rw [h'.empty hv, h.empty hv, hopen]
      simp [hmoved, hlt]

/-- The last closed note is no part of what is decided. -/
theorem Lane.Decided.lastClosed (h : l.Decided m p v t) (x : Option LastClosed) :
    l.Decided m p v { t with lastClosed := x } :=
  { h with
    sameSong := { h.sameSong with }
    lawful := { h.lawful with } }

/-- The undecided note at the cursor is given the verdict's outcome and the cursor moves on. -/
theorem Lane.lawful.decided_give (h : l.lawful) (hc : l.cursor < l.noteCount) (hv : v.lawful) {x : NoteOutcome}
    (hx : l.outcomeAt l.cursor = .pending ∧ x = v.pending l.cursor ∨ ∃ o, l.openNote = some o ∧ x = v.opened o) :
    l.Decided m p v { l.give m p x with cursor := l.cursor + 1 } := by
  have hu : ¬ (l.outcomeAt l.cursor).final := by
    rcases hx with ⟨hp, _⟩ | ⟨o, ho, _⟩
    · simp [NoteOutcome.final_iff, hp]
    · simp [NoteOutcome.final_iff, (h.open_at ho).2]
  have hfinal : x.final := by
    rcases hx with ⟨_, rfl⟩ | ⟨o, _, rfl⟩
    · exact .inr (hv.pending _)
    · exact hv.opened o
  have hnotOpen (hp : l.outcomeAt l.cursor = .pending) : l.openNote = none := h.not_open (by simp [hp])
  have houtcome (i : Nat) : ({ l.give m p x with cursor := l.cursor + 1 } : Lane).outcomeAt i =
      if i = l.cursor then x else l.outcomeAt i := Lane.outcomeAt_given rfl (h.notes ▸ hc) i
  refine ⟨⟨rfl, rfl, rfl, rfl, rfl, rfl, rfl⟩, (h.give hc hu hfinal).moveOn ?_, Nat.le_succ _, fun i hi => ?_, fun i hi => ?_,
    fun i hle hlt hp => ?_, fun o ho _ => ?_, ?_, ?_, Nat.le_add_right .., fun hvoid => ?_⟩
  · exact ((houtcome l.cursor).trans (if_pos rfl)).symm ▸ hfinal
  · simp only at hi
    rw [houtcome, if_neg (by omega)]
  · rw [houtcome, if_neg (by rintro rfl; exact hu hi)]
  · simp only at hlt
    obtain rfl : i = l.cursor := by omega
    rw [houtcome, if_pos rfl]
    rcases hx with ⟨_, rfl⟩ | ⟨o, ho, _⟩
    · rfl
    · simp [hnotOpen hp] at ho
  · rw [houtcome, if_pos rfl]
    rcases hx with ⟨hp, _⟩ | ⟨o', ho', rfl⟩
    · simp [hnotOpen hp] at ho
    · cases ho'.symm.trans ho
      rfl
  · simp [Lane.give]
  · rcases hx with ⟨hp, rfl⟩ | ⟨o, ho, rfl⟩
    · have hpend := hv.pending l.cursor
      have : v.pending l.cursor ≠ .scored := by rcases hpend with hpend | hpend <;> simp [hpend]
      simp [Lane.totals, Lane.totalsAfter, Lane.give, hnotOpen hp, this]
    · by_cases hs : v.opened o = .scored <;> simp [Lane.totals, Lane.totalsAfter, Lane.give, ho, hs]
  · rcases hx with ⟨hp, rfl⟩ | ⟨o, ho, rfl⟩
    · simp [Lane.give, hnotOpen hp, hvoid]
    · simp [Lane.give, ho]

/-- The cursor moves on from a decided note. -/
theorem Lane.lawful.decided_moveOn (h : l.lawful) (hf : (l.outcomeAt l.cursor).final) :
    l.Decided m p v { l with cursor := l.cursor + 1 } := by
  have hopen : l.openNote = none := h.not_open (NoteOutcome.final_iff.1 hf).2
  refine ⟨⟨rfl, rfl, rfl, rfl, rfl, rfl, rfl⟩, h.moveOn hf, Nat.le_succ _, fun _ _ => rfl, fun _ _ => rfl, fun i hle hlt hp => ?_,
    fun o ho _ => by simp [hopen] at ho, by simp [hopen], ?_, Nat.le_refl _, fun _ => by simp [hopen]⟩
  · simp only at hlt
    obtain rfl : i = l.cursor := by omega
    exact absurd hp (NoteOutcome.final_iff.1 hf).1
  · rw [Lane.totalsAfter_closed hopen, ite_self]
    rfl

end

end Sys2Proof.Machine

namespace Sys2Proof.Machine

/-! ### Notes passed (R127) -/

/-- Whether a note reached is opened: it is scored, in a SCORING lane under PLAY (R128). -/
def noteOpens (m : ImageMemory) (p : Nat) (live : Bool) (i : Nat) : Bool := decide ((noteAt m p i).unscored = 0) && live

/-- Notes passed at their ends: a scored PENDING note is EMPTY in a SCORING lane under PLAY, else VOID (R127, R132). -/
def passVerdict (m : ImageMemory) (p : Nat) (live : Bool) : Verdict where
  pending i := if noteOpens m p live i then .empty else .void
  opened := OpenNote.atEnd

theorem OpenNote.atEnd_final (o : OpenNote) : o.atEnd.final := by
  unfold OpenNote.atEnd
  split
  · exact .inr (.inl rfl)
  · exact .inl rfl

theorem passVerdict_lawful (m : ImageMemory) (p : Nat) (live : Bool) : (passVerdict m p live).lawful where
  pending i := by
    simp only [passVerdict]
    split
    · exact .inl rfl
    · exact .inr rfl
  opened := OpenNote.atEnd_final

section
variable {m : ImageMemory} {p : Nat} {l : Lane} (live : Bool)

theorem passNote_opened {o : OpenNote} (hc : l.outcomeAt l.cursor = .opened) (ho : l.openNote = some o) (hi : o.index = l.cursor) :
    l.passNote (noteAt m p l.cursor) live = { l.give m p o.atEnd with
      cursor := l.cursor + 1
      lastClosed := some ⟨l.cursor, o.atEnd, if o.atEnd = .scored then some o.accuracy else none⟩ } := by
  simp only [Lane.passNote, hc, ho, Lane.closeNote_eq m p ho hi]

theorem passNote_pending (hc : l.outcomeAt l.cursor = .pending) :
    l.passNote (noteAt m p l.cursor) live = { l.give m p ((passVerdict m p live).pending l.cursor) with
      cursor := l.cursor + 1, lastClosed := some ⟨l.cursor, (passVerdict m p live).pending l.cursor, none⟩ } := by
  by_cases hu : (noteAt m p l.cursor).unscored = 0 <;> cases live <;>
    simp [Lane.passNote, hc, hu, passVerdict, noteOpens, Lane.voidNote_eq m p, Lane.emptyNote_eq m p]

theorem passNote_void (hc : l.outcomeAt l.cursor = .void) : l.passNote (noteAt m p l.cursor) live =
    { l with cursor := l.cursor + 1, lastClosed := some ⟨l.cursor, .void, none⟩ } := by
  simp [Lane.passNote, hc]

theorem passNote_counted (hc : l.outcomeAt l.cursor = .scored ∨ l.outcomeAt l.cursor = .empty) :
    l.passNote (noteAt m p l.cursor) live = { l with cursor := l.cursor + 1 } := by
  rcases hc with hc | hc <;> simp [Lane.passNote, hc]

theorem passNote_cursor (l : Lane) (note : NoteRec) : (l.passNote note live).cursor = l.cursor + 1 := rfl

end

/-- The lane `t` is `l` with the cursor moved over notes that end at or before the compensated position `c` (R127). -/
structure Lane.Passed (m : ImageMemory) (p : Nat) (c : Int) (live : Bool) (l t : Lane) : Prop extends
    l.Decided m p (passVerdict m p live) t where
  ended : ∀ i, l.cursor ≤ i → i < t.cursor → ((noteAt m p i).stop : Int) ≤ c
  lastKept : t.cursor = l.cursor → t.lastClosed = l.lastClosed
  lastClosed : l.cursor < t.cursor → l.outcomeAt (t.cursor - 1) ≠ .scored → l.outcomeAt (t.cursor - 1) ≠ .empty →
    t.lastClosed = some ⟨t.cursor - 1, t.outcomeAt (t.cursor - 1),
      if t.outcomeAt (t.cursor - 1) = .scored then l.openNote.map OpenNote.accuracy else none⟩

section
variable {m : ImageMemory} {p : Nat} {c : Int} {live : Bool} {l u t : Lane}

/-- One note passed. -/
theorem Lane.Decided.passesOne (hd : l.Decided m p (passVerdict m p live) u) (hcursor : u.cursor = l.cursor + 1)
    (hend : ((noteAt m p l.cursor).stop : Int) ≤ c)
    (hlast : l.outcomeAt l.cursor ≠ .scored → l.outcomeAt l.cursor ≠ .empty → u.lastClosed = some ⟨l.cursor, u.outcomeAt l.cursor,
      if u.outcomeAt l.cursor = .scored then l.openNote.map OpenNote.accuracy else none⟩) : l.Passed m p c live u :=
  { hd with
    ended := fun i hle hlt => by
      obtain rfl : i = l.cursor := by omega
      exact hend
    lastKept := fun heq => absurd heq (by omega)
    lastClosed := fun _ => by simpa only [hcursor, Nat.add_sub_cancel] using hlast }

variable (h : l.lawful)
include h

/-- The cursor's note is passed: what `passNote` makes of each outcome it may have (R127). -/
theorem passNote_passed (hc : l.cursor < l.noteCount) (hend : ((noteAt m p l.cursor).stop : Int) ≤ c) :
    l.Passed m p c live (l.passNote (noteAt m p l.cursor) live) := by
  have hv := passVerdict_lawful m p live
  have given {x : NoteOutcome} {y : Option LastClosed} :
      ({ l.give m p x with cursor := l.cursor + 1, lastClosed := y } : Lane).outcomeAt l.cursor = x :=
    (Lane.outcomeAt_given rfl (h.notes ▸ hc) l.cursor).trans (if_pos rfl)
  cases hout : l.outcomeAt l.cursor
  case pending =>
    have hpend := hv.pending l.cursor
    have hscored : (passVerdict m p live).pending l.cursor ≠ .scored := by rcases hpend with hpend | hpend <;> simp [hpend]
    refine Lane.Decided.passesOne ?_ rfl hend fun _ _ => ?_ <;> rw [passNote_pending live hout]
    · exact (h.decided_give hc hv (.inl ⟨hout, rfl⟩)).lastClosed _
    · rw [given, if_neg hscored]
  case opened =>
    obtain ⟨o, ho, hi⟩ := h.open_of hout
    refine Lane.Decided.passesOne ?_ rfl hend fun _ _ => ?_ <;> rw [passNote_opened live hout ho hi]
    · exact (h.decided_give hc hv (.inr ⟨o, ho, rfl⟩)).lastClosed _
    · rw [given, ho]
      rfl
  case void =>
    refine Lane.Decided.passesOne ?_ rfl hend fun _ _ => ?_ <;> rw [passNote_void live hout]
    · exact (h.decided_moveOn (.inr (.inr hout))).lastClosed _
    · have kept : ({ l with cursor := l.cursor + 1, lastClosed := some ⟨l.cursor, .void, none⟩ } : Lane).outcomeAt l.cursor =
          .void := hout
      rw [kept]
      rfl
  case scored =>
    refine Lane.Decided.passesOne ?_ rfl hend fun hne => absurd hout hne
    rw [passNote_counted live (.inl hout)]
    exact h.decided_moveOn (.inl hout)
  case empty =>
    refine Lane.Decided.passesOne ?_ rfl hend fun _ hne => absurd hout hne
    rw [passNote_counted live (.inr hout)]
    exact h.decided_moveOn (.inr (.inl hout))

/-- After one note is passed, the rest are PENDING. -/
theorem Lane.Passed.step (hu : l.Passed m p c live u) (hmoved : l.cursor < u.cursor) (ht : u.Passed m p c live t) :
    l.Passed m p c live t := by
  refine { hu.toDecided.trans ht.toDecided with
    ended := fun i hle hlt => ?_
    lastKept := fun heq => absurd heq (hmoved.trans_le ht.cursor).ne'
    lastClosed := fun _ hscored hempty => ?_ }
  · rcases Nat.lt_or_ge i u.cursor with hi | hi
    · exact hu.ended i hle hi
    · exact ht.ended i hi hlt
  · rcases Nat.eq_or_lt_of_le ht.cursor with heq | hlt
    · obtain ⟨houtcome, _, _⟩ := ht.still heq.symm
      rw [ht.lastKept heq.symm, houtcome, ← heq]
      rw [← heq] at hscored hempty
      exact hu.lastClosed hmoved hscored hempty
    · have hpending : u.outcomeAt (t.cursor - 1) = .pending := by
        rw [hu.outside _ (.inr (by omega))]
        exact h.after _ (by omega)
      have hlast := ht.pending (t.cursor - 1) (by omega) (by omega) hpending
      have hnot : t.outcomeAt (t.cursor - 1) ≠ .scored := by
        rcases (passVerdict_lawful m p live).pending (t.cursor - 1) with hv | hv <;> simp [hlast, hv]
      rw [ht.lastClosed hlt (by simp [hpending]) (by simp [hpending]), if_neg hnot, if_neg hnot]

end

theorem Lane.Passed.refl {m : ImageMemory} {p : Nat} {c : Int} {live : Bool} {l : Lane} (h : l.lawful) :
    l.Passed m p c live l :=
  { Lane.Decided.refl h with
    ended := fun _ hle hlt => absurd hlt hle.not_gt
    lastKept := fun _ => rfl
    lastClosed := fun hlt => absurd hlt (Nat.lt_irrefl _) }

/-- The notes that end at or before the compensated position are passed (R127). -/
theorem passNotes_passed {m : ImageMemory} {p : Nat} {c : Int} {live : Bool} (fuel : Nat) {l : Lane} (h : l.lawful) :
    l.Passed m p c live (Lane.passNotes m p c live fuel l) := by
  induction fuel generalizing l with
  | zero => exact .refl h
  | succ fuel ih =>
    rw [Lane.passNotes]
    split
    · next hpass =>
      have hone := passNote_passed (live := live) h hpass.1 hpass.2
      exact hone.step h (Nat.lt_succ_self _) (ih hone.lawful)
    · exact .refl h

/-- The cursor stops at a note that ends after the compensated position (R127). -/
theorem passNotes_stops {m : ImageMemory} {p : Nat} {c : Int} {live : Bool} (fuel : Nat) {l : Lane} (h : l.lawful)
    (hfuel : l.noteCount ≤ l.cursor + fuel) : (Lane.passNotes m p c live fuel l).cursor < l.noteCount →
      c < (noteAt m p (Lane.passNotes m p c live fuel l).cursor).stop := by
  induction fuel generalizing l with
  | zero => exact fun hlt => absurd hlt hfuel.not_gt
  | succ fuel ih =>
    rw [Lane.passNotes]
    split
    · next hpass =>
      have hone := passNote_passed (live := live) h hpass.1 hpass.2
      have hcount : (l.passNote (noteAt m p l.cursor) live).noteCount = l.noteCount := hone.sameSong.noteCount
      rw [← hcount]
      refine ih hone.lawful ?_
      rw [hcount, passNote_cursor]
      omega
    · next hstop => exact fun hlt => Int.not_le.1 fun hle => hstop ⟨hlt, hle⟩

end Sys2Proof.Machine

namespace Sys2Proof.Machine

/-! ### The steps of a block (R125, R126, R128, R129) -/

/-- The lane with the state its record's presence and stamp lead to (R125). -/
def Lane.followed (l : Lane) (r : BlockRecord) : Lane := { l with state := l.follow r }

theorem Lane.follow_absent {l : Lane} {r : BlockRecord} (hl : l.live = true) (h : r.presence = .absent) :
    l.follow r = .suspended := by
  cases hs : l.state <;> simp [Lane.live, hs] at hl <;> simp [Lane.follow, hs, h]

theorem Lane.follow_suspended {l : Lane} {r : BlockRecord} (hs : l.state = .suspended) (h : r.presence = .present) :
    l.follow r = if r.stamp.state = .cued then .armed else .scoring := by simp [Lane.follow, hs, h]

theorem Lane.follow_armed {l : Lane} {r : BlockRecord} (hs : l.state = .armed) (h : r.presence = .present) :
    l.follow r = if r.stamp.state = .play then .scoring else .armed := by simp [Lane.follow, hs, h]

theorem Lane.follow_scoring {l : Lane} {r : BlockRecord} (hs : l.state = .scoring) (h : r.presence = .present) :
    l.follow r = .scoring := by simp [Lane.follow, hs, h]

theorem Lane.live_iff {l : Lane} : l.live = true ↔ l.state = .armed ∨ l.state = .scoring ∨ l.state = .suspended := by
  simp [Lane.live, or_assoc]

/-- A live lane stays live. -/
theorem Lane.live_followed {l : Lane} (r : BlockRecord) (hl : l.live = true) : (l.followed r).live = true := by
  rw [Lane.live_iff, Lane.followed]
  cases hp : r.presence
  case absent => exact .inr (.inr (Lane.follow_absent hl hp))
  case present =>
    rcases Lane.live_iff.1 hl with hs | hs | hs
    · simp only [Lane.follow_armed hs hp]
      split <;> simp
    · exact .inr (.inl (Lane.follow_scoring hs hp))
    · simp only [Lane.follow_suspended hs hp]
      split <;> simp

section
variable {m : ImageMemory} {p : Nat} {l : Lane}

/-! #### An interrupting block (R126) -/

/-- Nothing is interrupted by a block that does not, or where no note is open. -/
theorem interrupt_kept {st : Stamp} (hcut : interrupts l st = false ∨ l.openNote = none) :
    l.interrupt st = { l with lastEpoch := st.epoch } := by
  rcases hcut with hcut | hcut <;> simp [Lane.interrupt, hcut]

/-! #### The note reached (R128) -/

/-- The compensated position lies in the window of the cursor's note, which is PENDING. -/
def Lane.reaches (l : Lane) (m : ImageMemory) (p : Nat) (c : Int) : Prop :=
  l.cursor < l.noteCount ∧ ((noteAt m p l.cursor).start : Int) ≤ c ∧ c < ((noteAt m p l.cursor).stop : Int) ∧
    l.outcomeAt l.cursor = .pending

/-- The cursor's note opened (R128). -/
def Lane.opening (l : Lane) : Lane :=
  { l with outcomes := l.outcomes.set l.cursor .opened, openNote := some ⟨l.cursor, 0, 0, 0⟩ }

theorem reachNote_opens {c : Int} {live : Bool} (hr : l.reaches m p c) (hopens : noteOpens m p live l.cursor = true) :
    l.reachNote m p c live = l.opening := by
  rw [Lane.reaches] at hr
  rw [noteOpens, Bool.and_eq_true, decide_eq_true_iff] at hopens
  simp [Lane.reachNote, hr, hopens, Lane.opening]

theorem reachNote_voids {c : Int} {live : Bool} (hr : l.reaches m p c)
    (hopens : noteOpens m p live l.cursor = false) : l.reachNote m p c live = l.voidNote l.cursor := by
  rw [Lane.reaches] at hr
  rw [noteOpens, ← Bool.not_eq_true, Bool.and_eq_true, decide_eq_true_iff] at hopens
  simp only [Lane.reachNote, hr, and_self, if_true, if_neg hopens]

theorem reachNote_kept {c : Int} (live : Bool) (hr : ¬ l.reaches m p c) : l.reachNote m p c live = l := if_neg hr

/-! #### The block counted (R129, R131) -/

theorem pointsOf_le (tolerance : Nat) (d : Int) : pointsOf tolerance d ≤ 4 := by
  unfold pointsOf
  split_ifs <;> decide

theorem blockPoints_le (note : NoteRec) (r : BlockRecord) : blockPoints l note r ≤ 4 := by
  unfold blockPoints
  split
  · exact pointsOf_le ..
  · decide

/-- The open note once it has taken a block (R129). -/
def OpenNote.taking (l : Lane) (m : ImageMemory) (p : Nat) (r : BlockRecord) (o : OpenNote) : OpenNote :=
  if r.overload = true ∨ (r.mode = .blank ∧ o.windowBlocks + 1 ≤ r.count) then { o with windowBlocks := o.windowBlocks + 1 }
  else ⟨o.index, o.counted + 1, o.points + blockPoints l (noteAt m p o.index) r, o.windowBlocks + 1⟩

theorem countBlock_open {r : BlockRecord} {o : OpenNote} (ho : l.openNote = some o) :
    l.countBlock m p r = { l with openNote := some (o.taking l m p r) } := by
  simp only [Lane.countBlock, ho, OpenNote.taking]
  split <;> rfl

theorem countBlock_none (r : BlockRecord) (ho : l.openNote = none) : l.countBlock m p r = l := by
  simp [Lane.countBlock, ho]

theorem OpenNote.taking_index (l : Lane) (r : BlockRecord) (o : OpenNote) : (o.taking l m p r).index = o.index := by
  unfold OpenNote.taking
  split <;> rfl

/-! #### The steps keep a lane lawful -/

variable (h : l.lawful)
include h

/-- A lane that takes part in the song has a part. -/
theorem Lane.lawful.part_of_live (hl : l.live = true) : ∃ q, l.part = some q :=
  Option.ne_none_iff_exists'.1 fun hnone => by
    have hidle := h.idle.2 hnone
    simp [Lane.live, hidle] at hl

/-- A live lane may go to another state in which it is not IDLE. -/
theorem Lane.lawful.withState (hl : l.live = true) {st : LaneState} (hst : st ≠ .idle) : Lane.lawful { l with state := st } := by
  obtain ⟨q, hq⟩ := h.part_of_live hl
  exact { h with idle := iff_of_false hst (by simp [hq]) }

theorem Lane.lawful.followed (r : BlockRecord) (hl : l.live = true) : (l.followed r).lawful :=
  h.withState hl fun hidle => by
    have := Lane.live_followed r hl
    simp [Lane.live, Lane.followed, hidle] at this

theorem interrupt_voids (m : ImageMemory) (p : Nat) {st : Stamp} {o : OpenNote} (hcut : interrupts l st = true)
    (ho : l.openNote = some o) : l.interrupt st = { l.give m p .void with
      lastEpoch := st.epoch, lastClosed := some ⟨l.cursor, .void, none⟩ } := by
  simp [Lane.interrupt, hcut, ho, (h.open_at ho).1, Lane.voidNote_eq m p]

/-- The open note made VOID. -/
theorem Lane.lawful.giveOpen {o : OpenNote} (ho : l.openNote = some o) {x : NoteOutcome} (hx : x.final) :
    (l.give m p x).lawful := by
  have hout := (h.open_at ho).2
  exact h.give (h.cursor_lt (by simp [hout])) (by simp [NoteOutcome.final_iff, hout]) hx

theorem interrupt_lawful (st : Stamp) : (l.interrupt st).lawful := by
  cases hcut : interrupts l st
  case false =>
    rw [interrupt_kept (.inl hcut)]
    exact { h with }
  case true =>
    cases ho : l.openNote with
    | none =>
      rw [interrupt_kept (.inr ho)]
      exact { h with }
    | some o =>
      rw [interrupt_voids h [] 0 hcut ho]
      exact { h.giveOpen ho (.inr (.inr rfl)) with }

theorem Lane.lawful.opening (hc : l.cursor < l.noteCount) (hout : l.outcomeAt l.cursor = .pending) : l.opening.lawful := by
  have hlen : l.cursor < l.outcomes.length := h.notes ▸ hc
  have hu : ¬ (l.outcomeAt l.cursor).final := by simp [NoteOutcome.final_iff, hout]
  have hclosed : l.openNote = none := h.not_open (by simp [hout])
  have houtcome (i : Nat) : l.opening.outcomeAt i = if i = l.cursor then .opened else l.outcomeAt i :=
    Lane.outcomeAt_given rfl hlen i
  refine { h with
    notes := (List.length_set ..).trans h.notes
    before := fun i (hi : i < l.cursor) => ?_
    after := fun i (hi : l.cursor < i) => ?_
    opened := fun i => ?_
    openAtCursor := ?_
    scored := ?_
    empty := ?_
    void := ?_ }
  · rw [houtcome, if_neg (Nat.ne_of_lt hi)]
    exact h.before i hi
  · rw [houtcome, if_neg (Nat.ne_of_gt hi)]
    exact h.after i hi
  · rw [houtcome]
    split
    · next hi => simp [Lane.opening, hi]
    · next hi => simp [Lane.opening, h.opened i, hclosed, Ne.symm hi]
  · rintro o ho
    cases ho
    exact ⟨rfl, Nat.le_refl _, Nat.le_refl _⟩
  · simp [Lane.opening, h.count_given hc hu (.inl rfl), h.scored]
  · simp [Lane.opening, h.count_given hc hu (.inr (.inl rfl)), h.empty]
  · simp [Lane.opening, h.count_given hc hu (.inr (.inr rfl)), h.void]

theorem reachNote_lawful (c : Int) (live : Bool) : (l.reachNote m p c live).lawful := by
  by_cases hr : l.reaches m p c
  · have ⟨hc, _, _, hout⟩ := hr
    cases hopens : noteOpens m p live l.cursor
    case true =>
      rw [reachNote_opens hr hopens]
      exact h.opening hc hout
    case false =>
      rw [reachNote_voids hr hopens, Lane.voidNote_eq m p]
      exact { h.give (m := m) (p := p) hc (by simp [NoteOutcome.final_iff, hout]) (.inr (.inr rfl)) with }
  · rwa [reachNote_kept live hr]

theorem countBlock_lawful (r : BlockRecord) : (l.countBlock m p r).lawful := by
  cases ho : l.openNote with
  | none => rwa [countBlock_none r ho]
  | some o =>
    rw [countBlock_open ho]
    refine { h with
      opened := fun i => (h.opened i).trans (by simp [ho, OpenNote.taking_index])
      openAtCursor := ?_ }
    rintro _ ⟨⟩
    obtain ⟨hindex, hcounted, hpoints⟩ := h.openAtCursor o ho
    have hfour := blockPoints_le (l := l) (noteAt m p o.index) r
    refine ⟨(OpenNote.taking_index l r o).trans hindex, ?_⟩
    unfold OpenNote.taking
    split
    · exact ⟨hcounted.trans (Nat.le_succ _), hpoints⟩
    · constructor <;> simp only <;> omega

end

/-! ### A block, whole (R125 to R129) -/

section
variable {m : ImageMemory} {l : Lane} {r : BlockRecord}

/-- The position a lane hears, compensated for its latency (R127). -/
def Lane.heard (l : Lane) (r : BlockRecord) : Int := (r.stamp.position : Int) - l.latency

/-- Whether notes are sung for points: the block is stamped PLAY and the lane is SCORING (R127, R128). -/
def Lane.sings (l : Lane) (r : BlockRecord) : Bool := r.stamp.state == .play && l.state == .scoring

/-- The lane once a block's interruption and the notes that have ended are taken (R126, R127). -/
def Lane.heardUpTo (l : Lane) (m : ImageMemory) (p : Nat) (r : BlockRecord) : Lane :=
  Lane.passNotes m p (l.heard r) (l.sings r) (l.noteCount - l.cursor) (l.interrupt r.stamp)

theorem interrupt_frame (l : Lane) (st : Stamp) : (l.interrupt st).cursor = l.cursor ∧ (l.interrupt st).noteCount = l.noteCount ∧
    (l.interrupt st).part = l.part ∧ (l.interrupt st).state = l.state := by
  unfold Lane.interrupt
  simp only
  repeat' split
  all_goals exact ⟨rfl, rfl, rfl, rfl⟩

/-- A lane left IDLE, CLOSED or ARMED does nothing more. -/
theorem block_still (h : (l.followed r).state = .idle ∨ (l.followed r).state = .closed ∨ (l.followed r).state = .armed) :
    l.block m r = l.followed r := by
  rw [Lane.followed] at h ⊢
  rcases h with h | h | h <;> simp only at h <;> simp [Lane.block, h]

theorem block_hears {p : Nat} (hp : l.part = some p) (h : (l.followed r).state = .scoring ∨ (l.followed r).state = .suspended) :
    l.block m r = (((l.followed r).heardUpTo m p r).reachNote m p ((l.followed r).heard r) ((l.followed r).sings r)).countBlock m p r := by
  obtain ⟨hcursor, hcount, _⟩ := interrupt_frame (l.followed r) r.stamp
  simp only [Lane.heardUpTo, ← hcursor, ← hcount]
  rw [Lane.followed] at h
  rcases h with h | h <;> simp only at h <;> simp only [Lane.block, h, hp] <;> simp only [Lane.followed, h, hp] <;> rfl

theorem heardUpTo_passed (h : l.lawful) (p : Nat) :
    (l.interrupt r.stamp).Passed m p (l.heard r) (l.sings r) (l.heardUpTo m p r) :=
  passNotes_passed _ (interrupt_lawful h r.stamp)

/-- What a lane makes of a block is lawful. -/
theorem block_lawful (h : l.lawful) (m : ImageMemory) (r : BlockRecord) : (l.block m r).lawful := by
  cases hl : l.live
  case false => rwa [Lane.block_done hl]
  case true =>
    obtain ⟨p, hp⟩ := h.part_of_live hl
    have hfollowed := h.followed r hl
    rcases Lane.live_iff.1 (Lane.live_followed r hl) with hs | hs
    · rw [block_still (.inr (.inr hs))]
      exact hfollowed
    · rw [block_hears hp hs]
      exact countBlock_lawful (reachNote_lawful (heardUpTo_passed hfollowed p).lawful _ _) r

end

end Sys2Proof.Machine

namespace Sys2Proof.Machine

/-! ### The close (R134) -/

/-- Notes decided at the close: the open one by R132 for COMPLETED; it and every PENDING one VOID else (R134). -/
def closeVerdict (kind : FinishKind) : Verdict where
  pending _ := .void
  opened o := if kind = .completed then o.atEnd else .void

theorem closeVerdict_lawful (kind : FinishKind) : (closeVerdict kind).lawful where
  pending _ := .inr rfl
  opened o := by
    simp only [closeVerdict]
    split
    · exact o.atEnd_final
    · exact .inr (.inr rfl)

section
variable {m : ImageMemory} {p : Nat} {kind : FinishKind} {l : Lane}

/-- What is left of a note at the close does not depend on where the cursor stands. -/
theorem closeRest_cursor (l : Lane) (i j k : Nat) : { Lane.closeRest m p kind { l with cursor := j } i with cursor := k } =
    { Lane.closeRest m p kind l i with cursor := k } := by
  have hout : ({ l with cursor := j } : Lane).outcomeAt i = l.outcomeAt i := rfl
  unfold Lane.closeRest
  rw [hout]
  cases l.outcomeAt i
  case opened =>
    cases l.openNote <;> cases kind <;> simp only [Lane.closeNote, Lane.voidNote, Lane.emptyNote]
    split <;> rfl
  all_goals rfl

/-- The close decides one note. -/
theorem closeRest_decided (h : l.lawful) (hc : l.cursor < l.noteCount) :
    l.Decided m p (closeVerdict kind) { l.closeRest m p kind l.cursor with cursor := l.cursor + 1 } := by
  have hv := closeVerdict_lawful kind
  cases hout : l.outcomeAt l.cursor
  case pending =>
    simp only [Lane.closeRest, hout]
    exact (h.decided_give hc hv (.inl ⟨hout, rfl⟩)).lastClosed _
  case opened =>
    obtain ⟨o, ho, hi⟩ := h.open_of hout
    have decided := h.decided_give (m := m) (p := p) hc hv (.inr ⟨o, ho, rfl⟩)
    cases kind
    case completed =>
      simp only [Lane.closeRest, hout, ho, Lane.closeNote_eq m p ho hi]
      exact decided.lastClosed _
    all_goals
      simp only [Lane.closeRest, hout, ho]
      exact decided.lastClosed _
  case void =>
    simp only [Lane.closeRest, hout]
    exact h.decided_moveOn (.inr (.inr hout))
  case scored =>
    simp only [Lane.closeRest, hout]
    exact h.decided_moveOn (.inl hout)
  case empty =>
    simp only [Lane.closeRest, hout]
    exact h.decided_moveOn (.inr (.inl hout))

/-- The close of the first `n` notes from the cursor on. -/
def Lane.closeFirst (m : ImageMemory) (p : Nat) (kind : FinishKind) (l : Lane) (n : Nat) : Lane :=
  { ((List.range n).map (l.cursor + ·)).foldl (Lane.closeRest m p kind) l with cursor := l.cursor + n }

theorem closeFirst_decided (h : l.lawful) {n : Nat} (hn : l.cursor + n ≤ l.noteCount) :
    l.Decided m p (closeVerdict kind) (l.closeFirst m p kind n) := by
  induction n with
  | zero => exact .refl h
  | succ n ih =>
    have hfirst := ih (by omega)
    have hnext := closeRest_decided (m := m) (p := p) (kind := kind) hfirst.lawful
      (by rw [hfirst.sameSong.noteCount]; exact hn)
    have hsucc : { (l.closeFirst m p kind n).closeRest m p kind (l.closeFirst m p kind n).cursor with
        cursor := (l.closeFirst m p kind n).cursor + 1 } = l.closeFirst m p kind (n + 1) := by
      simp only [Lane.closeFirst, closeRest_cursor, List.range_succ, List.map_append, List.foldl_append, List.map_cons,
        List.map_nil, List.foldl_cons, List.foldl_nil, Nat.add_assoc]
    exact hfirst.trans (hsucc ▸ hnext)

/-- A lane that takes part in the song is closed with every note from the cursor on decided (R134). -/
theorem close_decided (h : l.lawful) (hl : l.live = true) (m : ImageMemory) (kind : FinishKind) :
    ∃ t, l.Decided m (l.part.getD 0) (closeVerdict kind) t ∧ t.cursor = l.noteCount ∧ t.openNote = none ∧
      l.close m kind = { t with state := .closed } := by
  have hn : l.cursor + (l.noteCount - l.cursor) = l.noteCount := by
    have := h.cursor
    omega
  have hdecided := closeFirst_decided (m := m) (p := l.part.getD 0) (kind := kind) h hn.le
  have hclosed : (l.closeFirst m (l.part.getD 0) kind (l.noteCount - l.cursor)).openNote = none :=
    hdecided.lawful.not_open_end (hn.trans hdecided.sameSong.noteCount.symm)
  refine ⟨_, hdecided, hn, hclosed, ?_⟩
  rw [Lane.close, if_pos hl]
  simp only [Lane.closeFirst] at hclosed
  simp only [Lane.closeFirst, hn, hclosed]

theorem close_lawful (h : l.lawful) (m : ImageMemory) (kind : FinishKind) : (l.close m kind).lawful := by
  cases hl : l.live
  case false => simpa [Lane.close, hl] using h
  case true =>
    obtain ⟨t, hdecided, _, _, heq⟩ := close_decided h hl m kind
    rw [heq]
    refine hdecided.lawful.withState ?_ nofun
    rwa [Lane.live, hdecided.sameSong.state]

end

/-- Settles O50: the close decides every note the cursor has not passed. -/
theorem lanesCloseEveryNote : Obligations.LanesCloseEveryNote := by
  intro m l kind h
  refine ⟨fun hs => ?_, fun hs => ?_⟩
  · obtain ⟨t, hd, hcursor, hopen, heq⟩ := close_decided h (Lane.live_iff.2 hs) m kind
    rw [heq]
    have htotals := hd.totals
    have hempty := hd.empty fun _ => rfl
    rw [hcursor] at htotals hempty
    refine ⟨rfl, hd.sameSong.part, hd.sameSong.noteCount, hcursor, hopen, fun i hi hp => ?_, hd.final, fun hnone => ?_,
      fun o ho => ?_⟩
    · refine hd.pending i (Nat.le_of_not_lt fun hlt => ?_) (hcursor ▸ hi) hp
      exact (NoteOutcome.final_iff.1 (h.before i hlt)).1 hp
    · rw [Lane.totalsAfter_closed hnone, ite_self] at htotals
      simp only [hnone, Lane.totals, Prod.mk.injEq] at htotals hempty
      exact ⟨htotals.1, htotals.2.1, htotals.2.2, by simpa using hempty⟩
    · obtain ⟨hindex, hout⟩ := h.open_at ho
      have hc : l.cursor < l.noteCount := h.cursor_lt (by simp [hout])
      have hopened := hd.opened o ho (hcursor ▸ hc)
      rw [if_pos hc] at htotals
      simp only [ho, hc, true_and, Option.map_some, Option.some.injEq] at hempty
      simp only [Lane.totalsAfter, ho, OpenNote.earned, hindex] at htotals
      refine ⟨fun hk => ?_, fun hk h0 => ?_, fun hk h0 => ?_⟩
      · simp only [closeVerdict, if_neg hk, Lane.totals, reduceCtorEq, if_false, Prod.mk.injEq] at hopened htotals hempty
        exact ⟨hopened, htotals.1, htotals.2.1, htotals.2.2, hempty⟩
      · simp only [closeVerdict, if_pos hk, OpenNote.atEnd, if_pos h0, Lane.totals, reduceCtorEq, if_false, if_true,
          Prod.mk.injEq] at hopened htotals hempty
        exact ⟨hopened, htotals.1, htotals.2.1, htotals.2.2, hempty⟩
      · simp only [closeVerdict, if_pos hk, OpenNote.atEnd, if_neg h0, Lane.totals, reduceCtorEq, if_false, if_true,
          Prod.mk.injEq] at hopened htotals hempty
        exact ⟨hopened, htotals.1, htotals.2.1, htotals.2.2, hempty⟩
  · rw [Lane.close, if_neg]
    rw [Lane.live_iff]
    rcases hs with hs | hs <;> simp [hs]

end Sys2Proof.Machine

namespace Sys2Proof.Machine

/-! ## Every lane kept lawful (R122, R125, R130)

Cueing arms the lanes, a block and the close decide their notes, a finish and a reset clear them; nothing else changes a
lane. -/

/-- An armed lane has every note PENDING (R124). -/
theorem armLane_lawful (u : ScoringUnit) (m : ImageMemory) (list : List Requester) (channels : Quad Channel) (k : Fin 4) :
    (armLane u m list channels k).lawful := by
  have pending (i : Nat) : (armLane u m list channels k).outcomeAt i = .pending := by
    simp [Lane.outcomeAt, armLane, List.getElem?_replicate, apply_ite (Option.getD · NoteOutcome.pending)]
  refine
    { idle := ?_
      notes := List.length_replicate
      cursor := Nat.zero_le _
      before := nofun
      after := fun i _ => pending i
      opened := fun i => iff_of_false (by simp [pending]) (by simp [armLane])
      openAtCursor := nofun
      scored := ?_
      empty := ?_
      void := ?_
      accuracy := Nat.le_refl _ }
  · simp only [armLane]
    cases resolvePart (u.bindings.get k) (imgParts m) list k.val with
    | none => simp
    | some q =>
      simp only
      split <;> simp
  all_goals simp [armLane, List.count_replicate]

theorem arm_lawful (u : ScoringUnit) (m : ImageMemory) (list : List Requester) (channels : Quad Channel) :
    (u.arm m list channels).lawful := fun k => by
  rw [armed_lane]
  exact armLane_lawful ..

theorem cleared_lawful (u : ScoringUnit) : u.cleared.lawful := fun k => by
  have : u.cleared.lanes.get k = Lane.reset := Quad.get_const ..
  exact this ▸ Lane.reset_lawful

/-! ### Operations that keep the lanes -/

section
variable (s : State)

@[simp] theorem rebuild_su : s.rebuild.su = s.su := by
  unfold State.rebuild
  split <;> rfl

@[simp] theorem newEntry_su (song : Nat) (lane : QueueLane) (origin : Origin) (list : List Requester) (p : Nat) :
    (s.newEntry song lane origin list p).su = s.su := by simp [State.newEntry]

@[simp] theorem setEntryState_su (id : Nat) (st : EntryState) : (s.setEntryState id st).su = s.su := rfl

theorem takeRequest_su (pad song part : Nat) (rush : Bool) : (takeRequest s pad song part rush).1.su = s.su := by
  unfold takeRequest
  simp only
  repeat' split
  all_goals simp

theorem joinFrame_su (ex : Exchange) (f : UplinkFrame) : (s.joinFrame ex f).su = s.su := by
  unfold State.joinFrame takeJoin
  simp only
  repeat' split
  all_goals rfl

theorem frameStart_su : (frameStart s).su = s.su := by
  have rows : s.settleRows.su = s.su := by
    unfold State.settleRows
    split <;> rfl
  simp [frameStart, rows]

end

/-! ### Songs cued and finished (R74, R76, R96, R134) -/

section
variable {s : State} (h : s.su.lawful)
include h

theorem lanes_cue (e : Entry) : (s.cue e).su.lawful := by
  cases hn : s.slotHolding e.id with
  | none => rwa [cue_unheld hn]
  | some n =>
    rw [cue_eq hn]
    exact arm_lawful s.su (s.slot n).image e.requesters s.mfe.channels

theorem lanes_autoAdvance : s.autoAdvance.su.lawful := by
  rcases autoAdvance_cases s with hsame | ⟨e, _, _, _, _, hcue⟩
  · rwa [hsame]
  · rw [hcue]
    exact lanes_cue h e

/-- Auto-advance after a change that keeps the lanes. -/
theorem lanes_advanced {t : State} (ht : t.su = s.su) : t.autoAdvance.su.lawful := lanes_autoAdvance (ht ▸ h)

theorem lanes_closeLanes (k : FinishKind) : (s.closeLanes k).su.lawful := fun i => by
  have : (s.closeLanes k).su.lanes.get i = (s.su.lanes.get i).close s.songImage k := Quad.get_map ..
  exact this ▸ close_lawful (h i) _ k

omit h in
theorem lanes_finish (s : State) (k : FinishKind) : (s.finish k).su.lawful :=
  lanes_autoAdvance (s := s.finishSong k) (by simpa [State.finishSong] using cleared_lawful s.su)

theorem lanes_finishAtOnce (k : FinishKind) : (s.finishAtOnce k).su.lawful := by
  unfold State.finishAtOnce
  split
  · exact lanes_finish s k
  · exact h

theorem lanes_enterResult (k : FinishKind) : (s.enterResult k).su.lawful :=
  lanes_finishAtOnce (s := s.resultEntry k) (lanes_closeLanes h k) k

theorem lanes_releasePad (pad : Nat) : (s.releasePad pad).su.lawful := lanes_advanced h (padReleased_frame s pad).2.2.1

/-! ### Messages and records -/

theorem lanes_takeWithdraw (pad song : Nat) : (takeWithdraw s pad song).1.su.lawful := by
  unfold takeWithdraw
  simp only
  repeat' split
  · exact h
  · exact lanes_advanced h (by simp)
  · simpa using h

theorem lanes_takeResolve (id verdict parts : Nat) (title : List Nat) :
    (takeResolve s id verdict parts title).state.su.lawful := by
  unfold takeResolve
  simp only
  repeat' split
  · exact h
  · exact h
  · exact h
  · exact h
  · exact lanes_advanced h (by simp)

theorem lanes_takeQueueMove (id lane lanePos : Nat) : (takeQueueMove s id lane lanePos).state.su.lawful := by
  unfold takeQueueMove
  simp only
  repeat' split
  · exact h
  · exact h
  · exact h
  · exact h
  · exact lanes_advanced h (by simp)

theorem lanes_takeQueueCancel (id : Nat) : (takeQueueCancel s id).state.su.lawful := by
  unfold takeQueueCancel
  repeat' split
  · exact h
  · exact h
  · exact lanes_advanced h (by simp)

theorem lanes_takePadRelease (a : Nat) : (takePadRelease s a).state.su.lawful := by
  unfold takePadRelease
  repeat' split
  · exact h
  · exact h
  · exact lanes_releasePad (s := s.setPad _ freeRecord) h a

theorem lanes_takeStart (id : Nat) : (takeStart s id).state.su.lawful := by
  unfold takeStart
  repeat' split
  · exact h
  · exact h
  · exact lanes_cue h _

theorem lanes_takeStop (flag : Nat) : (takeStop s flag).state.su.lawful := by
  unfold takeStop
  split_ifs
  · exact h
  · exact h
  · exact lanes_enterResult h _
  · exact lanes_finish _ _

theorem lanes_takeTransportSet (a y e l r : Nat) : (takeTransportSet s a y e l r).state.su.lawful := by
  unfold takeTransportSet
  split
  · exact h
  · exact lanes_advanced h rfl

/-- The messages that cue, close or finish keep the lanes lawful; every other leaves them. -/
theorem lanes_handle (r : Request) : (handle s r).state.su.lawful := by
  cases r with
  | resolve i v p t => exact lanes_takeResolve h _ _ _ _
  | queueMove i l p => exact lanes_takeQueueMove h _ _ _
  | queueCancel i => exact lanes_takeQueueCancel h _
  | padRelease a => exact lanes_takePadRelease h _
  | start i => exact lanes_takeStart h _
  | stop f => exact lanes_takeStop h _
  | transportSet a y e l r => exact lanes_takeTransportSet h _ _ _ _ _
  | echo | softReset | attentionRead | transportRead | layoutRead | rate | key | layoutSet => exact h
  | bind | scoreSet =>
    -- bindings and scoring settings are no part of a lane
    simp only [handle, takeBind, takeScoreSet]
    repeat' split
    all_goals exact h
  | _ =>
    -- the owners of the rest leave the Scoring Unit alone
    simp only [handle, takeAttentionAck, takeAttentionMask, takeQueueAdd, takeQueueRead, takeHistoryRead, takePolicy,
      takePadAdmit, takePadRead, takePadBus, takeSlotOpen, takeSlotData, takeSlotSeal, takeSlotDiscard, takeSlotRead, takeSync,
      syncRunning, takePause, takeResume, takeMicSet, takeMicRead, takeLaneRead, takeBandMap, takeRowPlace, takePalette,
      takeBannerSet, takeGlyphLoad, takeGlyphDrop, takeGlyphClear, takeCompositorRead, accept, refuse]
    repeat' split
    all_goals simpa using h

/-! ### Events -/

theorem lanes_completeValidation (n : SlotName) : (completeValidation s n).su.lawful := by
  unfold completeValidation
  simp only
  split
  · refine lanes_advanced h ?_
    split <;> simp
  · exact h

theorem lanes_resultEntry {t : State} (ht : t.su = s.su) (k : FinishKind) : (t.resultEntry k).su.lawful :=
  lanes_closeLanes (s := t) (ht ▸ h) k

theorem lanes_transportBlock : (transportBlock s).su.lawful := by
  cases hs : s.tr.state
  case idle => rwa [transportBlock_still (.inl hs)]
  case paused => rwa [transportBlock_still (.inr hs)]
  case cued => simpa [transportBlock_cued hs] using h
  case hold =>
    cases hg : s.tr.givesUp
    · rwa [transportBlock_holding hs hg]
    · rw [transportBlock_holdLimit s hg]
      exact lanes_resultEntry h rfl _
  case result =>
    cases hr : s.tr.resultSpent
    · rwa [transportBlock_showing hs hr]
    · rw [transportBlock_resultSpent hr]
      exact lanes_finish _ _
  all_goals
    simp only [transportBlock, hs]
    repeat' split
    · exact lanes_resultEntry h rfl _
    all_goals exact h

theorem lanes_blockEvent (x : BlockInput) : (blockEvent x s).su.lawful := by
  have records : (recordsTaken x s).su.lawful := fun k => by
    rw [recordsTaken_su, Quad.get_mapIdx]
    exact block_lawful (lanes_transportBlock h k) _ _
  rw [blockEvent_su]
  rcases finishOwed_cases s.tr (recordsTaken x s) with ⟨k, _, _, hfinish⟩ | ⟨_, hsame⟩
  · rw [hfinish]
    exact lanes_finish _ k
  · rwa [hsame]

theorem lanes_goodCompletion (i : Fin 8) (r : UplinkRecord) : (s.goodCompletion i r).su.lawful := by
  unfold State.goodCompletion State.filterRecord
  simp only
  split
  · split
    · simpa [takeRequest_su] using h
    · exact h
  · split
    · exact lanes_takeWithdraw (s := s.setPad i (s.pbc.registry.get i).forgive) h _ _
    · exact h
  · exact h

theorem lanes_completeExchange (ex : Exchange) (r : Reception) : (s.completeExchange ex r).su.lawful := by
  unfold State.completeExchange
  repeat' split
  · exact h
  · exact h
  · simpa [joinFrame_su] using h
  · simpa using h
  · simpa [State.faultyCompletion] using h
  · simpa using lanes_goodCompletion h _ _
  · simpa [State.faultyCompletion] using h

end

/-- Settles O51: every block's operations keep the lanes lawful. -/
theorem lanesStayLawful : Obligations.LanesStayLawful := by
  have kept : KeptByBlocks (·.su.lawful) :=
    { waits := fun _ _ h => h
      link := fun _ _ h => h
      attention := fun _ _ h => h
      counts := fun _ _ _ h => h
      poweredUp := fun _ _ _ => cleared_lawful ScoringUnit.reset
      resetAsserted := fun _ h => h
      request := fun _ r h => lanes_handle h r
      softReset := fun s _ => cleared_lawful s.su
      validation := fun _ n h => lanes_completeValidation h n
      block := fun _ x h => lanes_blockEvent h x
      bus := fun _ _ _ h => h
      exchange := fun _ ex r h => lanes_completeExchange h ex r
      frame := fun s h => (frameStart_su s).symm ▸ h
      inputFrame := fun _ _ h => h }
  exact fun _ _ hs h => kept.stepped hs h

end Sys2Proof.Machine

namespace Sys2Proof.Machine

/-! ## The frame start (R145, R167, R172, R178, R179) -/

/-! ### The video state (R178) -/

section
variable {c : Compositor}

/-- A frame start's step of the video state changes nothing that the screen shows, and takes the input frame's mark away. -/
theorem videoStep_frame (c : Compositor) : c.videoStep.bands = c.bands ∧ c.videoStep.palette = c.palette ∧
    c.videoStep.heldFrame = c.heldFrame ∧ c.videoStep.freshInput = false := by
  unfold Compositor.videoStep
  split
  case h_2 _ hfresh => split <;> exact ⟨rfl, rfl, rfl, hfresh⟩
  case h_4 _ hfresh => exact ⟨rfl, rfl, rfl, hfresh⟩
  case h_3 => split <;> exact ⟨rfl, rfl, rfl, rfl⟩
  case h_1 => exact ⟨rfl, rfl, rfl, rfl⟩

theorem videoStep_kept (hv : c.video = .locked) (hf : c.freshInput = true) :
    c.videoStep = { c with staleCount := 0, freshInput := false } := by
  simp [Compositor.videoStep, hv, hf]

theorem videoStep_stale (hv : c.video = .locked) (hf : c.freshInput = false) (hs : c.staleCount < 2) :
    c.videoStep = { c with staleCount := c.staleCount + 1 } := by
  simp [Compositor.videoStep, hv, hf, hs]

theorem videoStep_lost (hv : c.video = .locked) (hf : c.freshInput = false) (hs : 2 ≤ c.staleCount) :
    c.videoStep = { c with staleCount := 3, video := .unlocked, freshRun := 0 } := by
  simp [Compositor.videoStep, hv, hf, hs]

theorem videoStep_first (hv : c.video = .unlocked) (hf : c.freshInput = true) (hr : c.freshRun = 0) :
    c.videoStep = { c with freshRun := 1, freshInput := false } := by
  simp [Compositor.videoStep, hv, hf, hr]

theorem videoStep_restored (hv : c.video = .unlocked) (hf : c.freshInput = true) (hr : 1 ≤ c.freshRun) :
    c.videoStep = { c with freshRun := 2, video := .locked, staleCount := 0, freshInput := false } := by
  simp [Compositor.videoStep, hv, hf, Nat.ne_of_gt hr]

theorem videoStep_none (hv : c.video = .unlocked) (hf : c.freshInput = false) : c.videoStep = { c with freshRun := 0 } := by
  simp [Compositor.videoStep, hv, hf]

theorem losesVideo_iff : c.losesVideo = true ↔ c.video = .locked ∧ c.freshInput = false ∧ 2 ≤ c.staleCount := by
  simp [Compositor.losesVideo, and_assoc]

theorem restoresVideo_iff : c.restoresVideo = true ↔ c.video = .unlocked ∧ c.freshInput = true ∧ 1 ≤ c.freshRun := by
  simp [Compositor.restoresVideo, and_assoc]

end

/-! ### The banner (R172) -/

theorem bannerTime_iff (t : Transport) (window : Nat) : bannerTime t window = true ↔ t.state = .idle ∨ t.state = .result ∨
    (t.state = .play ∧ 256 * (t.duration - window) ≤ t.t) := by
  cases h : t.state <;> simp [bannerTime, h]

theorem bannerTitle_iff (s : State) (title : List Nat) : s.bannerTitle = some title ↔ title ≠ [] ∧
    ∃ e c, (waiting s.rq.entries).head? = some e ∧ e.catalogue = some c ∧ c.title = title := by
  unfold State.bannerTitle
  cases waiting s.rq.entries with
  | nil => simp
  | cons e rest =>
    cases hc : e.catalogue with
    | none => simp [hc]
    | some c =>
      by_cases htitle : c.title = []
      · simp only [hc, htitle, if_true, reduceCtorEq, List.head?_cons, Option.some.injEq, false_iff, not_and]
        rintro hne ⟨_, _, rfl, hcat, rfl⟩
        cases hc.symm.trans hcat
        exact hne htitle
      · simp only [hc, htitle, if_false, List.head?_cons, Option.some.injEq]
        constructor
        · rintro rfl
          exact ⟨htitle, e, c, rfl, hc, rfl⟩
        · rintro ⟨_, _, _, rfl, hcat, rfl⟩
          cases hc.symm.trans hcat
          rfl

theorem banner_iff (s : State) (title : List Nat) : s.banner = some title ↔ title ≠ [] ∧
    (∃ e c, (waiting s.rq.entries).head? = some e ∧ e.catalogue = some c ∧ c.title = title) ∧
    (s.tr.state = .idle ∨ s.tr.state = .result ∨
      (s.tr.state = .play ∧ 256 * (s.tr.duration - s.cmp.bannerWindow) ≤ s.tr.t)) := by
  rw [State.banner, ← bannerTime_iff, ← and_assoc, ← bannerTitle_iff]
  by_cases h : bannerTime s.tr s.cmp.bannerWindow = true <;> simp [h]

/-! ### What a frame start leaves -/

/-- The Attention Unit at a frame start: the VIDEO_LOST condition given, and the member raised at a loss (R179). -/
def Attention.videoGiven (a : Attention) (holds lost : Bool) : Attention :=
  if lost then { a with videoLostHolds := holds }.raise .videoLost else { a with videoLostHolds := holds }

theorem Attention.videoGiven_holds (a : Attention) (holds lost : Bool) : (a.videoGiven holds lost).videoLostHolds = holds := by
  cases lost
  · rfl
  · unfold Attention.videoGiven Attention.raise
    simp only [if_true]
    split_ifs <;> rfl

theorem Attention.videoGiven_kept (a : Attention) (holds : Bool) : (a.videoGiven holds false).latched = a.latched := rfl

theorem Attention.videoGiven_lost (a : Attention) (holds : Bool) :
    (a.videoGiven holds true).latched = (a.raise .videoLost).latched := by
  unfold Attention.videoGiven Attention.raise
  simp only [if_true]
  split_ifs <;> rfl

/-- The state at a frame start up to the fixing of the frame's content (R145, R178, R179). -/
def State.frameSettled (s : State) : State :=
  { s with
    llu := s.settleRows.llu
    cmp := s.cmp.videoStep
    att := s.att.videoGiven (s.cmp.videoStep.video == .unlocked) s.cmp.losesVideo }

theorem frameStart_eq (s : State) : frameStart s = s.frameSettled.setCmp { s.cmp.videoStep with
    bannerShown := s.frameSettled.banner.isSome, frame := some s.frameSettled.frameContent } := by
  have rows : s.settleRows = s.setLlu s.settleRows.llu := by
    unfold State.settleRows
    split <;> rfl
  rw [frameStart, rows]
  cases h : s.cmp.losesVideo <;> simp only [State.frameSettled, Attention.videoGiven, h] <;> rfl

theorem settleRows_lyrics {s : State} (h : s.llu.mode = .lyrics) : s.settleRows.llu =
    { s.llu with rows := s.llu.rows.mapIdx fun k r => settleRow s.lineView k.val 1536 r } := by
  rw [State.settleRows, if_pos h]
  rfl

theorem settleRows_other {s : State} (h : s.llu.mode ≠ .lyrics) : s.settleRows.llu = s.llu := by
  rw [State.settleRows, if_neg h]

theorem settleRows_mode (s : State) : s.settleRows.llu.mode = s.llu.mode := by
  unfold State.settleRows
  split <;> rfl

@[simp] theorem chooseNext_videoLostHolds (s : State) : (chooseNext s).att.videoLostHolds = s.att.videoLostHolds := by
  rcases chooseNext_cases s with h | h | h <;> rw [h] <;> rfl

theorem frameContent_rows (s : State) (k : Fin 4) : s.frameContent.rows.get k = s.rowRecord k := by
  fin_cases k <;> rfl

/-- An input frame of 1,080 lines of 1,920 pixels (R178). -/
theorem validInput_iff (f : InputFrame) : validInput f = true ↔ f.length = 1080 ∧ ∀ l ∈ f, l.length = 1920 := by
  simp [validInput]

/-- What a frame start leaves alone: every block but the Lyric Layout Unit, the Compositor and the Attention Unit, and the
control link but for what is begun to be sent. -/
theorem frameStart_others (s : State) : let t := chooseNext (frameStart s)
    t.rq = s.rq ∧ t.pbc = s.pbc ∧ t.slotA = s.slotA ∧ t.slotB = s.slotB ∧ t.tr = s.tr ∧ t.mfe = s.mfe ∧ t.su = s.su ∧
      t.blocks = s.blocks ∧ s.sameLink t := by
  simp [frameStart_eq, State.frameSettled, State.sameLink]

/-- What a frame start makes of the Lyric Layout Unit, the Compositor and the Attention Unit. -/
theorem frameStart_made (s : State) : let t := chooseNext (frameStart s)
    let given := s.att.videoGiven (s.cmp.videoStep.video == .unlocked) s.cmp.losesVideo
    t.llu = s.settleRows.llu ∧
      t.cmp = { s.cmp.videoStep with
        bannerShown := s.frameSettled.banner.isSome, frame := some s.frameSettled.frameContent } ∧
      t.att.latched = given.latched ∧ t.att.videoLostHolds = given.videoLostHolds := by
  simp [frameStart_eq, State.frameSettled]

/-- The record of a row slot in a frame's content (R136, R161). -/
theorem frameSettled_row (s : State) (k : Fin 4) : s.frameSettled.rowRecord k = match s.llu.mode with
    | .none => .empty
    | .results => .result (s.su.lanes.get k).shownResult
    | .lyrics => match (s.settleRows.llu.rows.get k).shown with
      | none => .empty
      | some l => .line l.glyphs (wipedSyllables s.songImage s.tr.t l) := by
  rw [← settleRows_mode]
  rfl

theorem inputFrame_completed {s : State} {f : InputFrame} (hlow : s.resetLow = false) :
    exec (.inputFrameCompletion f) s = .next (chooseNext (s.setCmp (s.cmp.inputCompleted f))) :=
  arrival_awake (fun s => s.setCmp (s.cmp.inputCompleted f)) s hlow

/-- Settles O56: the frame start taken apart into the row slots' steps, the video step, the member and the content. -/
theorem frameStartFixesContent : Obligations.FrameStartFixesContent := by
  refine ⟨fun s hlow => ?_, fun s frame hlow => ⟨fun hlines hpixels => ?_, fun hbad => ?_⟩⟩
  · obtain ⟨hplacement, hwindow, hbase, hglyphs⟩ := videoStep_settings s.cmp
    obtain ⟨hbands, hpalette, hheld, hfresh⟩ := videoStep_frame s.cmp
    obtain ⟨hrq, hpbc, hslotA, hslotB, htr, hmfe, hsu, hblocks, hlink⟩ := frameStart_others s
    obtain ⟨hllu, hcmp, hlatched, hholds⟩ := frameStart_made s
    have unlost (h : s.cmp.video = .unlocked ∨ s.cmp.freshInput = true ∨ s.cmp.staleCount < 2) : s.cmp.losesVideo = false := by
      refine Bool.eq_false_iff.2 fun hlost => ?_
      obtain ⟨hv, hf, hs⟩ := losesVideo_iff.1 hlost
      rcases h with h | h | h
      · simp [hv] at h
      · simp [hf] at h
      · omega
    refine ⟨chooseNext (frameStart s), s.frameSettled.frameContent, arrival_awake _ _ hlow, by rw [hcmp], hrq, hpbc, hslotA,
      hslotB, htr, hmfe, hsu, hblocks, hlink, ?_⟩
    rw [hcmp, hllu, hlatched, hholds, Attention.videoGiven_holds]
    refine ⟨settleRows_other, settleRows_lyrics, hbands, hplacement, hpalette, hglyphs, hwindow, hbase, hheld, hfresh,
      fun hv hf => ?_, fun hv hf hs => ?_, fun hv hf hs => ?_, fun hv hf hr => ?_, fun hv hf hr => ?_, fun hv hf => ?_,
      fun hkept => ?_, beq_iff_eq, hbands, hplacement, hpalette, hbase, hglyphs, fun hv => ?_, fun hv => ?_, fun k => ?_, rfl,
      fun title => ?_⟩
    · rw [videoStep_kept hv hf]
      exact ⟨hv, rfl⟩
    · rw [videoStep_stale hv hf hs]
      exact ⟨hv, rfl⟩
    · have hlost := losesVideo_iff.2 ⟨hv, hf, hs⟩
      rw [hlost, Attention.videoGiven_lost, videoStep_lost hv hf hs]
      exact ⟨rfl, rfl, rfl, (occurrence_due _ _ _ hlost).trans (arrival_awake _ _ hlow), rfl⟩
    · rw [videoStep_first hv hf hr]
      exact ⟨hv, rfl⟩
    · rw [videoStep_restored hv hf hr]
      exact ⟨rfl, rfl, rfl, (occurrence_due _ _ _ (restoresVideo_iff.2 ⟨hv, hf, hr⟩)).trans (arrival_awake _ _ hlow)⟩
    · rw [videoStep_none hv hf]
      exact ⟨hv, rfl⟩
    · rw [unlost hkept, Attention.videoGiven_kept]
    · exact (if_pos hv).trans hheld
    · have hunlocked : s.frameSettled.cmp.video = .unlocked := hv
      exact if_neg (by simp [hunlocked])
    · rw [frameContent_rows, frameSettled_row]
      cases s.llu.mode
      case results =>
        unfold Lane.shownResult Lane.score
        rfl
      all_goals rfl
    · refine (banner_iff s.frameSettled title).trans ?_
      simp only [State.frameSettled, hwindow]
  · have hcmp : s.cmp.inputCompleted frame = { s.cmp with heldFrame := some frame, freshInput := true } :=
      if_pos ((validInput_iff frame).2 ⟨hlines, hpixels⟩)
    rw [inputFrame_completed hlow, hcmp]
    rfl
  · have hcmp : s.cmp.inputCompleted frame = s.cmp := by
      refine if_neg fun hvalid => ?_
      obtain ⟨hlines, hpixels⟩ := (validInput_iff frame).1 hvalid
      rcases hbad with hbad | ⟨l, hl, hbad⟩
      · exact hbad hlines
      · exact hbad (hpixels l hl)
    rw [inputFrame_completed hlow, hcmp]
    rfl

end Sys2Proof.Machine

namespace Sys2Proof.Machine

/-! ## A block, note by note (R126 to R132) -/

/-! ### The note at which the cursor stops (R126, R127) -/

/-- A note SCORED where none was open had been SCORED. -/
theorem Lane.Decided.was_scored {m : ImageMemory} {p : Nat} {v : Verdict} {l t : Lane} (h : l.Decided m p v t) (hl : l.lawful)
    (hv : v.lawful) (hopen : l.openNote = none) {j : Nat} (hj : t.outcomeAt j = .scored) : l.outcomeAt j = .scored := by
  cases hout : l.outcomeAt j
  case scored => rfl
  case empty => simp [h.final j (.inr (.inl hout)), hout] at hj
  case void => simp [h.final j (.inr (.inr hout)), hout] at hj
  case opened =>
    obtain ⟨o, ho, _⟩ := (hl.opened j).1 hout
    simp [hopen] at ho
  case pending =>
    by_cases hin : l.cursor ≤ j ∧ j < t.cursor
    · rw [h.pending j hin.1 hin.2 hout] at hj
      rcases hv.pending j with hp | hp <;> simp [hp] at hj
    · rw [h.outside j (by omega), hout] at hj
      cases hj

/-- The lane `u` is `l` once a block has interrupted it, if it does (`cut`), and the cursor has stopped at the first note that
ends after the compensated position `c`; the last epoch follows the stamp (R126, R127). -/
structure Lane.StopsAt (m : ImageMemory) (p : Nat) (c : Int) (live cut : Bool) (epoch : Nat) (l u : Lane) : Prop where
  lawful : u.lawful
  sameSong : Lane.sameSong { l with lastEpoch := epoch } u
  cursor : l.cursor ≤ u.cursor
  ended : ∀ i, l.cursor ≤ i → i < u.cursor → ((noteAt m p i).stop : Int) ≤ c
  stops : u.cursor < l.noteCount → c < (noteAt m p u.cursor).stop
  outside : ∀ i, i < l.cursor ∨ u.cursor < i → u.outcomeAt i = l.outcomeAt i
  pending : ∀ i, l.cursor ≤ i → i < u.cursor → l.outcomeAt i = .pending → u.outcomeAt i = (passVerdict m p live).pending i
  void : ∀ i, l.outcomeAt i = .void → u.outcomeAt i = .void
  opened : ∀ o, l.openNote = some o → l.cursor < u.cursor → u.outcomeAt l.cursor = if cut then .void else o.atEnd
  stillOpen : ∀ o, l.openNote = some o → u.cursor = l.cursor → u.outcomeAt u.cursor = if cut then .void else .opened
  stillPending : u.outcomeAt u.cursor = .pending ↔ l.outcomeAt u.cursor = .pending
  openNote : u.openNote = if l.cursor < u.cursor ∨ cut = true then none else l.openNote
  totals : u.totals = if l.cursor < u.cursor ∧ cut = false then l.totalsAfter m p (passVerdict m p live) else l.totals
  voidCount : l.void + (if cut = true ∧ l.openNote ≠ none then 1 else 0) ≤ u.void
  lastKept : u.cursor = l.cursor →
    u.lastClosed = if cut = true ∧ l.openNote ≠ none then some ⟨l.cursor, .void, none⟩ else l.lastClosed
  lastClosed : l.cursor < u.cursor → l.outcomeAt (u.cursor - 1) ≠ .scored → l.outcomeAt (u.cursor - 1) ≠ .empty →
    u.lastClosed = some ⟨u.cursor - 1, u.outcomeAt (u.cursor - 1),
      if u.outcomeAt (u.cursor - 1) = .scored then l.openNote.map OpenNote.accuracy else none⟩

section
variable {m : ImageMemory} {p : Nat} {c : Int} {live cut : Bool} {l u : Lane} (h : l.lawful)
include h

/-- Where nothing is interrupted, the notes are passed alone. -/
theorem Lane.Passed.stopsAt_kept (hu : l.Passed m p c live u) (hstop : u.cursor < l.noteCount → c < (noteAt m p u.cursor).stop)
    (hcut : cut = false ∨ l.openNote = none) : l.StopsAt m p c live cut l.lastEpoch u where
  lawful := hu.lawful
  sameSong := hu.sameSong
  cursor := hu.cursor
  ended := hu.ended
  stops := hstop
  outside i hi := hu.outside i (hi.imp_right Nat.le_of_lt)
  pending := hu.pending
  void i hi := (hu.final i (.inr (.inr hi))).trans hi
  opened o ho hlt := by
    rw [hcut.resolve_right (by simp [ho])]
    exact hu.opened o ho hlt
  stillOpen o ho hk := by
    rw [hcut.resolve_right (by simp [ho]), hu.outside _ (.inr (Nat.le_refl _)), hk]
    exact (h.open_at ho).2
  stillPending := by rw [hu.outside _ (.inr (Nat.le_refl _))]
  openNote := by
    rw [hu.openNote]
    rcases hcut with rfl | hnone
    · simp
    · simp [hnone]
  totals := by
    rw [hu.totals]
    rcases hcut with rfl | hnone
    · simp
    · simp [Lane.totalsAfter_closed hnone]
  voidCount := by
    have := hu.void
    rcases hcut with rfl | hnone
    · simpa using this
    · simpa [hnone] using this
  lastKept hk := by
    rw [hu.lastKept hk]
    rcases hcut with rfl | hnone
    · simp
    · simp [hnone]
  lastClosed := hu.lastClosed

/-- An interrupting block makes the open note VOID before the notes are passed. -/
theorem Lane.Passed.stopsAt_cut {i : Lane} {o : OpenNote} {e : Nat} (ho : l.openNote = some o)
    (hi : i = { l.give m p .void with lastEpoch := e, lastClosed := some ⟨l.cursor, .void, none⟩ })
    (hu : i.Passed m p c live u) (hstop : u.cursor < l.noteCount → c < (noteAt m p u.cursor).stop) :
    l.StopsAt m p c live true e u := by
  obtain ⟨hindex, hout⟩ := h.open_at ho
  have hcursor : i.cursor = l.cursor := by rw [hi]; rfl
  have hnone : i.openNote = none := by rw [hi]; rfl
  have htotals : i.totals = l.totals := by rw [hi]; rfl
  have hlen : l.cursor < l.outcomes.length := h.notes ▸ h.cursor_lt (by simp [hout])
  have houtcome (j : Nat) : i.outcomeAt j = if j = l.cursor then .void else l.outcomeAt j :=
    Lane.outcomeAt_given (by rw [hi]; rfl) hlen j
  have hvoid : i.outcomeAt l.cursor = .void := by rw [houtcome, if_pos rfl]
  have hstays : u.outcomeAt l.cursor = .void := (hu.final _ (.inr (.inr hvoid))).trans hvoid
  have hlawful : i.lawful := by
    rw [hi]
    exact { h.giveOpen ho (.inr (.inr rfl)) with }
  have hpass := hu.cursor
  rw [hcursor] at hpass
  exact
    { lawful := hu.lawful
      sameSong := by
        rw [hi] at hu
        exact { hu.sameSong with }
      cursor := hpass
      ended := by simpa only [hcursor] using hu.ended
      stops := hstop
      outside := fun j hj => by
        rw [hu.outside j (by omega), houtcome, if_neg (by omega)]
      pending := fun j hle hlt hp => by
        have hne : j ≠ l.cursor := by rintro rfl; simp [hout] at hp
        exact hu.pending j (hcursor ▸ hle) hlt (by rw [houtcome, if_neg hne, hp])
      void := fun j hj => by
        have : i.outcomeAt j = .void := by rw [houtcome, hj, ite_self]
        exact (hu.final j (.inr (.inr this))).trans this
      opened := fun _ _ _ => hstays
      stillOpen := fun _ _ hk => hk ▸ hstays
      stillPending := by
        rw [hu.outside _ (.inr (Nat.le_refl _)), houtcome]
        split
        · next hk => simp [hk, hout]
        · rfl
      openNote := by rw [hu.openNote, hnone]; simp
      totals := by rw [hu.totals, Lane.totalsAfter_closed hnone, ite_self, htotals]; simp
      voidCount := by
        have hgiven : l.void + 1 ≤ u.void := by
          rw [hi] at hu
          exact hu.void
        simpa [ho] using hgiven
      lastKept := fun hk => by rw [hu.lastKept (hk.trans hcursor.symm), hi]; simp [ho]
      lastClosed := fun hlt hscored hempty => by
        have hwas : i.outcomeAt (u.cursor - 1) ≠ .scored ∧ i.outcomeAt (u.cursor - 1) ≠ .empty := by
          rw [houtcome]
          split
          · simp
          · exact ⟨hscored, hempty⟩
        have hnot : u.outcomeAt (u.cursor - 1) ≠ .scored := fun hs =>
          hwas.1 (hu.was_scored hlawful (passVerdict_lawful m p live) hnone hs)
        rw [hu.lastClosed (hcursor ▸ hlt) hwas.1 hwas.2, if_neg hnot, if_neg hnot] }

/-- The lane a block has been heard up to is where the cursor stops. -/
theorem heardUpTo_stopsAt (m : ImageMemory) (p : Nat) (r : BlockRecord) :
    l.StopsAt m p (l.heard r) (l.sings r) (interrupts l r.stamp) r.stamp.epoch (l.heardUpTo m p r) := by
  obtain ⟨hcursor, hcount, _⟩ := interrupt_frame l r.stamp
  have hpassed := heardUpTo_passed (m := m) (r := r) h p
  have hstop := passNotes_stops (m := m) (p := p) (c := l.heard r) (live := l.sings r) (l.noteCount - l.cursor)
    (interrupt_lawful h r.stamp) (by omega)
  rw [hcount] at hstop
  have kept (hcut : interrupts l r.stamp = false ∨ l.openNote = none) : l.StopsAt m p (l.heard r) (l.sings r)
      (interrupts l r.stamp) r.stamp.epoch (l.heardUpTo m p r) := by
    rw [interrupt_kept hcut] at hpassed
    exact { Lane.Passed.stopsAt_kept (l := { l with lastEpoch := r.stamp.epoch }) { h with } hpassed hstop hcut with }
  cases hcut : interrupts l r.stamp
  case false => exact hcut ▸ kept (.inl hcut)
  case true =>
    cases ho : l.openNote with
    | none => exact hcut ▸ kept (.inr ho)
    | some o => exact Lane.Passed.stopsAt_cut h ho (interrupt_voids h m p hcut ho) hpassed hstop

end

end Sys2Proof.Machine

namespace Sys2Proof.Machine

/-! ### The block at that note (R128, R129) -/

/-- The lane `t` is `u`, whose cursor has stopped, once the note there is opened or made VOID, if the compensated position `c`
lies in its window, and the note then open has taken the block (R128, R129). -/
structure Lane.TakesAt (m : ImageMemory) (p : Nat) (r : BlockRecord) (c : Int) (live : Bool) (u t : Lane) : Prop where
  lawful : t.lawful
  sameSong : u.sameSong t
  cursor : t.cursor = u.cursor
  others : ∀ i, i ≠ u.cursor → t.outcomeAt i = u.outcomeAt i
  totals : t.totals = u.totals
  void : u.void ≤ t.void
  opens : u.cursor < u.noteCount → u.outcomeAt u.cursor = .pending → (noteAt m p u.cursor).start ≤ c →
    noteOpens m p live u.cursor = true →
    t.outcomeAt u.cursor = .opened ∧ t.openNote = some (OpenNote.taking u m p r ⟨u.cursor, 0, 0, 0⟩)
  voids : u.cursor < u.noteCount → u.outcomeAt u.cursor = .pending → (noteAt m p u.cursor).start ≤ c →
    noteOpens m p live u.cursor = false →
    t.outcomeAt u.cursor = .void ∧ t.openNote = none ∧ t.lastClosed = some ⟨u.cursor, .void, none⟩
  still : ¬ (u.outcomeAt u.cursor = .pending ∧ (noteAt m p u.cursor).start ≤ c) →
    t.outcomeAt u.cursor = u.outcomeAt u.cursor ∧ t.openNote = u.openNote.map (OpenNote.taking u m p r)
  lastKept : ¬ (u.cursor < u.noteCount ∧ u.outcomeAt u.cursor = .pending ∧ (noteAt m p u.cursor).start ≤ c ∧
    noteOpens m p live u.cursor = false) → t.lastClosed = u.lastClosed

section
variable {m : ImageMemory} {p : Nat} {r : BlockRecord} {c : Int} {live : Bool} {u : Lane} (h : u.lawful)
  (hstop : u.cursor < u.noteCount → c < (noteAt m p u.cursor).stop)
include h hstop

theorem takesAt : u.TakesAt m p r c live ((u.reachNote m p c live).countBlock m p r) := by
  have hlawful := countBlock_lawful (m := m) (p := p) (reachNote_lawful (m := m) (p := p) h c live) r
  by_cases hr : u.reaches m p c
  · have ⟨hc, hstart, _, hpending⟩ := hr
    have hclosed : u.openNote = none := h.not_open (by simp [hpending])
    have given {t : Lane} {x : NoteOutcome} (ht : t.outcomes = u.outcomes.set u.cursor x) (i : Nat) :
        t.outcomeAt i = if i = u.cursor then x else u.outcomeAt i := Lane.outcomeAt_given ht (h.notes ▸ hc) i
    cases hopens : noteOpens m p live u.cursor
    case true =>
      rw [reachNote_opens hr hopens, countBlock_open rfl] at hlawful ⊢
      exact
        { lawful := hlawful
          sameSong := ⟨rfl, rfl, rfl, rfl, rfl, rfl, rfl⟩
          cursor := rfl
          others := fun i hi => (given rfl i).trans (if_neg hi)
          totals := rfl
          void := Nat.le_refl _
          opens := fun _ _ _ _ => ⟨(given rfl _).trans (if_pos rfl), rfl⟩
          voids := fun _ _ _ hno => by simp [hopens] at hno
          still := fun hno => absurd ⟨hpending, hstart⟩ hno
          lastKept := fun _ => rfl }
    case false =>
      rw [reachNote_voids hr hopens, countBlock_none r rfl] at hlawful ⊢
      exact
        { lawful := hlawful
          sameSong := ⟨rfl, rfl, rfl, rfl, rfl, rfl, rfl⟩
          cursor := rfl
          others := fun i hi => (given rfl i).trans (if_neg hi)
          totals := rfl
          void := Nat.le_succ _
          opens := fun _ _ _ hyes => by simp [hopens] at hyes
          voids := fun _ _ _ _ => ⟨(given rfl _).trans (if_pos rfl), rfl, rfl⟩
          still := fun hno => absurd ⟨hpending, hstart⟩ hno
          lastKept := fun hno => absurd ⟨hc, hpending, hstart, hopens⟩ hno }
  · have beyond (hc : u.cursor < u.noteCount) (hpending : u.outcomeAt u.cursor = .pending)
        (hstart : (noteAt m p u.cursor).start ≤ c) : False := hr ⟨hc, hstart, hstop hc, hpending⟩
    rw [reachNote_kept live hr] at hlawful ⊢
    have hcount : u.countBlock m p r = { u with openNote := u.openNote.map (OpenNote.taking u m p r) } := by
      cases ho : u.openNote with
      | none => rw [countBlock_none r ho, Option.map_none, ← ho]
      | some o => rw [countBlock_open ho]; rfl
    rw [hcount] at hlawful ⊢
    exact
      { lawful := hlawful
        sameSong := ⟨rfl, rfl, rfl, rfl, rfl, rfl, rfl⟩
        cursor := rfl
        others := fun _ _ => rfl
        totals := rfl
        void := Nat.le_refl _
        opens := fun hc hpending hstart => (beyond hc hpending hstart).elim
        voids := fun hc hpending hstart => (beyond hc hpending hstart).elim
        still := fun _ => ⟨rfl, rfl⟩
        lastKept := fun _ => rfl }

end

/-! ### A lane that has left ARMED takes a block -/

theorem OpenNote.taking_congr {m : ImageMemory} {p : Nat} {r : BlockRecord} {l u : Lane} (htolerance : u.tolerance = l.tolerance)
    (hfold : u.fold = l.fold) (o : OpenNote) : o.taking u m p r = o.taking l m p r := by
  simp only [OpenNote.taking, blockPoints, htolerance, hfold]

section
variable {m : ImageMemory} {p : Nat} {r : BlockRecord} {c : Int} {live cut : Bool} {e : Nat} {l u t : Lane} (h : l.lawful)
  (hs : l.StopsAt m p c live cut e u) (ht : u.TakesAt m p r c live t)

section
include hs ht

/-- The notes that the cursor neither passes nor stops at stand. -/
theorem taken_outside (i : Nat) (hi : i < l.cursor ∨ t.cursor < i) : t.outcomeAt i = l.outcomeAt i := by
  have hle := hs.cursor
  rw [ht.cursor] at hi
  rw [ht.others i (by omega), hs.outside i hi]

/-- The sums: only an open note passed uninterrupted adds to them (R132). -/
theorem taken_totals : t.totals =
    if l.cursor < t.cursor ∧ cut = false then l.totalsAfter m p (passVerdict m p live) else l.totals := by
  rw [ht.totals, hs.totals, ht.cursor]

/-- The last closed note (R122). -/
theorem taken_lastClosed :
    let voided := t.cursor < l.noteCount ∧ l.outcomeAt t.cursor = .pending ∧ (noteAt m p t.cursor).start ≤ c ∧
      noteOpens m p live t.cursor = false
    (voided → t.lastClosed = some ⟨t.cursor, .void, none⟩) ∧
    (¬ voided → l.cursor < t.cursor → l.outcomeAt (t.cursor - 1) ≠ .scored → l.outcomeAt (t.cursor - 1) ≠ .empty →
      t.lastClosed = some ⟨t.cursor - 1, t.outcomeAt (t.cursor - 1),
        if t.outcomeAt (t.cursor - 1) = .scored then l.openNote.map OpenNote.accuracy else none⟩) ∧
    (¬ voided → t.cursor = l.cursor →
      t.lastClosed = if cut = true ∧ l.openNote ≠ none then some ⟨t.cursor, .void, none⟩ else l.lastClosed) := by
  have hcount : u.noteCount = l.noteCount := hs.sameSong.noteCount
  have hlast := ht.lastKept
  rw [hcount, hs.stillPending] at hlast
  simp only
  rw [ht.cursor]
  refine ⟨fun ⟨hk, hp, hstart, hopens⟩ => ?_, fun hno hlt hscored hempty => ?_, fun hno hk => ?_⟩
  · exact (ht.voids (hcount.symm ▸ hk) (hs.stillPending.2 hp) hstart hopens).2.2
  · rw [hlast hno, ht.others _ (by omega)]
    exact hs.lastClosed hlt hscored hempty
  · rw [hlast hno, hs.lastKept hk, hk]

end

include h hs ht

/-- Each note passed is given its final outcome (R127, R132). -/
theorem taken_passed {i : Nat} (hi : l.cursor ≤ i) (hlt : i < t.cursor) :
    (l.outcomeAt i = .pending → t.outcomeAt i = if noteOpens m p live i then .empty else .void) ∧
    (l.outcomeAt i = .void → t.outcomeAt i = .void) ∧
    (∀ o, l.openNote = some o → o.index = i →
      t.outcomeAt i = if cut then .void else if o.counted = 0 then .empty else .scored) := by
  rw [ht.cursor] at hlt
  rw [ht.others i hlt.ne]
  refine ⟨hs.pending i hi hlt, hs.void i, fun o ho hindex => ?_⟩
  obtain rfl : i = l.cursor := hindex.symm.trans (h.open_at ho).1
  exact hs.opened o ho hlt

/-- The note at which the cursor stops, and the open note (R126, R128, R129). -/
theorem taken_stop (hk : t.cursor < l.noteCount) :
    (l.outcomeAt t.cursor = .pending → (noteAt m p t.cursor).start ≤ c → noteOpens m p live t.cursor = true →
      t.outcomeAt t.cursor = .opened ∧ t.openNote = some (OpenNote.taking l m p r ⟨t.cursor, 0, 0, 0⟩)) ∧
    (l.outcomeAt t.cursor = .pending → (noteAt m p t.cursor).start ≤ c → noteOpens m p live t.cursor = false →
      t.outcomeAt t.cursor = .void ∧ t.openNote = none) ∧
    (l.outcomeAt t.cursor = .pending → c < (noteAt m p t.cursor).start → t.outcomeAt t.cursor = .pending ∧ t.openNote = none) ∧
    (l.outcomeAt t.cursor = .void → t.outcomeAt t.cursor = .void ∧ t.openNote = none) ∧
    (∀ o, l.openNote = some o → o.index = t.cursor →
      (cut = true → t.outcomeAt t.cursor = .void ∧ t.openNote = none) ∧
      (cut = false → t.outcomeAt t.cursor = .opened ∧ t.openNote = some (o.taking l m p r))) := by
  rw [ht.cursor] at hk ⊢
  have hcount : u.cursor < u.noteCount := hs.sameSong.noteCount.symm ▸ hk
  have taking (o : OpenNote) : o.taking u m p r = o.taking l m p r :=
    OpenNote.taking_congr hs.sameSong.tolerance hs.sameSong.fold o
  -- a note there that is neither PENDING in its window nor OPEN keeps its outcome, and none is open
  have stays {x : NoteOutcome} (hx : u.outcomeAt u.cursor = x) (hopen : x ≠ .opened)
      (hno : ¬ (x = .pending ∧ (noteAt m p u.cursor).start ≤ c)) : t.outcomeAt u.cursor = x ∧ t.openNote = none := by
    obtain ⟨hout, hnote⟩ := ht.still (hx ▸ hno)
    exact ⟨hout.trans hx, by rw [hnote, hs.lawful.not_open (hx ▸ hopen)]; rfl⟩
  refine ⟨fun hp hstart hopens => ?_, fun hp hstart hopens => ?_, fun hp hstart => ?_, fun hv => ?_, fun o ho hindex => ?_⟩
  · rw [← taking]
    exact ht.opens hcount (hs.stillPending.2 hp) hstart hopens
  · obtain ⟨hout, hnote, _⟩ := ht.voids hcount (hs.stillPending.2 hp) hstart hopens
    exact ⟨hout, hnote⟩
  · exact stays (hs.stillPending.2 hp) nofun fun hno => absurd hno.2 hstart.not_ge
  · exact stays (hs.void _ hv) nofun nofun
  · have hat := hindex.symm.trans (h.open_at ho).1
    have hstill := hs.stillOpen o ho hat
    have hopen := hs.openNote
    refine ⟨fun hcut => ?_, fun hcut => ?_⟩
    · rw [if_pos hcut] at hstill
      exact stays hstill nofun nofun
    · rw [hcut, if_neg (by decide)] at hstill
      rw [hcut, hat, if_neg (by simp), ho] at hopen
      obtain ⟨hout, hnote⟩ := ht.still (by simp [hstill])
      exact ⟨hout.trans hstill, by rw [hnote, hopen, Option.map_some, taking]⟩

/-- The two sums (R132). -/
theorem taken_sums :
    (∀ o, l.openNote = some o → o.index < t.cursor → cut = false → o.counted ≠ 0 →
      t.sumAw = l.sumAw + o.accuracy * min (noteAt m p o.index).duration 2000 ∧
      t.sumW = l.sumW + min (noteAt m p o.index).duration 2000) ∧
    ((∀ o, l.openNote = some o → o.index < t.cursor → cut = true ∨ o.counted = 0) → t.sumAw = l.sumAw ∧ t.sumW = l.sumW) := by
  have htotals := taken_totals hs ht
  refine ⟨fun o ho hlt hcut hcounted => ?_, fun hno => ?_⟩
  · rw [(h.open_at ho).1] at hlt
    rw [if_pos ⟨hlt, hcut⟩] at htotals
    simp only [Lane.totalsAfter, ho, passVerdict, OpenNote.atEnd, if_neg hcounted, if_true, Lane.totals, Prod.mk.injEq] at htotals
    exact ⟨htotals.1, htotals.2.1⟩
  · have hsame : t.totals = l.totals := by
      rw [htotals]
      split
      · next hpassed =>
        cases ho : l.openNote with
        | none => exact Lane.totalsAfter_closed ho
        | some o =>
          have hcounted := (hno o ho ((h.open_at ho).1 ▸ hpassed.1)).resolve_left (by simp [hpassed.2])
          simp [Lane.totalsAfter, ho, passVerdict, OpenNote.atEnd, hcounted]
      · rfl
    simp only [Lane.totals, Prod.mk.injEq] at hsame
    exact ⟨hsame.1, hsame.2.1⟩

end

/-- Where the cursor stops in a lane that has left ARMED, and what is made of the note there (R125 to R132). -/
theorem block_takes {m : ImageMemory} {p : Nat} {l : Lane} {r : BlockRecord} (h : l.lawful) (hl : l.live = true)
    (hp : l.part = some p) (harmed : (l.followed r).state ≠ .armed) :
    ∃ u, (l.followed r).StopsAt m p (l.heard r) ((l.followed r).sings r) (interrupts (l.followed r) r.stamp) r.stamp.epoch u ∧
      u.TakesAt m p r (l.heard r) ((l.followed r).sings r) (l.block m r) := by
  have hstops := heardUpTo_stopsAt (h.followed r hl) m p r
  refine ⟨_, hstops, ?_⟩
  rw [block_hears hp ((Lane.live_iff.1 (Lane.live_followed r hl)).resolve_left harmed)]
  exact takesAt hstops.lawful fun hk => hstops.stops (hstops.sameSong.noteCount ▸ hk)

end Sys2Proof.Machine

namespace Sys2Proof.Machine

/-! ### The block a SCORING lane's open note takes (R126, R129, R131) -/

section
variable {m : ImageMemory} {p : Nat} {l : Lane} {r : BlockRecord} {o : OpenNote} (h : l.lawful)

theorem interrupts_iff {st : Stamp} : interrupts l st = true ↔
    st.state ≠ .play ∨ l.state = .suspended ∨ st.epoch ≠ l.lastEpoch := by
  simp [interrupts, or_assoc]

theorem sings_eq (l : Lane) (r : BlockRecord) :
    l.sings r = (decide (r.stamp.state = .play) && decide (l.state = .scoring)) := by
  simp [Lane.sings, beq_eq_decide]

theorem followed_scoring (hs : l.state = .scoring) (hp : r.presence = .present) : l.followed r = l := by
  rw [Lane.followed, Lane.follow_scoring hs hp, ← hs]

theorem NoteRec.stop_cast (n : NoteRec) : (n.stop : Int) = n.start + n.duration := Nat.cast_add ..

/-- The points of a voiced block (R131). -/
theorem blockPoints_voiced (l : Lane) (n : NoteRec) {pitch : Nat} (hv : r.voiced = true) (hpitch : r.pitch = some pitch) :
    blockPoints l n r = pointsOf l.tolerance (if l.fold then foldDeviation ((pitch : Int) - 16 * ((n.code : Int) + r.stamp.key))
      else (pitch : Int) - 16 * ((n.code : Int) + r.stamp.key)) := by
  simp only [blockPoints, hv, hpitch]

theorem blockPoints_unvoiced (l : Lane) (n : NoteRec) (hv : r.voiced = false) : blockPoints l n r = 0 := by
  simp only [blockPoints, hv]

/-- The cursor stays before a note that has not ended. -/
theorem passNotes_stay {c : Int} {live : Bool} (fuel : Nat) (hend : c < (noteAt m p l.cursor).stop) :
    Lane.passNotes m p c live fuel l = l := by
  cases fuel with
  | zero => rfl
  | succ fuel => exact if_neg fun hpass => hpass.2.not_gt hend

include h

/-- A block of PLAY and of the same epoch, before the open note's end, is taken by that note alone. -/
theorem block_taken (hs : l.state = .scoring) (hpart : l.part = some p) (ho : l.openNote = some o) (hp : r.presence = .present)
    (hplay : r.stamp.state = .play) (hepoch : r.stamp.epoch = l.lastEpoch) (hend : l.heard r < (noteAt m p l.cursor).stop) :
    l.block m r = { l with openNote := some (o.taking l m p r) } := by
  have hfollowed := followed_scoring hs hp
  have hcut : interrupts l r.stamp = false :=
    Bool.eq_false_iff.2 fun hcut => by simp [interrupts_iff, hplay, hs, hepoch] at hcut
  have hsame : l.interrupt r.stamp = l := by rw [interrupt_kept (.inl hcut), hepoch]
  have hscoring : (l.followed r).state = .scoring := Lane.follow_scoring hs hp
  rw [block_hears hpart (.inl hscoring), hfollowed, Lane.heardUpTo, hsame, passNotes_stay _ hend, reachNote_kept _ fun hr => ?_,
    countBlock_open ho]
  obtain ⟨_, _, _, hpending⟩ := hr
  simp [(h.open_at ho).2] at hpending

/-- Any other block makes the open note VOID. -/
theorem block_voids (hs : l.state = .scoring) (hpart : l.part = some p) (ho : l.openNote = some o)
    (hcut : r.presence = .absent ∨ r.stamp.state ≠ .play ∨ r.stamp.epoch ≠ l.lastEpoch) :
    (l.block m r).outcomeAt l.cursor = .void ∧ l.void + 1 ≤ (l.block m r).void ∧
      (l.block m r).sumAw = l.sumAw ∧ (l.block m r).sumW = l.sumW := by
  have hl : l.live = true := Lane.live_iff.2 (.inr (.inl hs))
  have hinterrupts : interrupts (l.followed r) r.stamp = true := by
    rw [interrupts_iff]
    rcases hcut with hp | hplay | hepoch
    · exact .inr (.inl (Lane.follow_absent hl hp))
    · exact .inl hplay
    · exact .inr (.inr hepoch)
  have harmed : (l.followed r).state ≠ .armed := by
    cases hp : r.presence
    · simp [Lane.followed, Lane.follow_absent hl hp]
    · simp [followed_scoring hs hp, hs]
  obtain ⟨u, hstops, htakes⟩ := block_takes (m := m) h hl hpart harmed
  rw [hinterrupts] at hstops
  have hf := h.followed r hl
  obtain ⟨hindex, hout⟩ := h.open_at ho
  have hcursor : l.cursor ≤ (l.block m r).cursor := htakes.cursor ▸ hstops.cursor
  have hcount : (l.followed r).void + 1 ≤ u.void := by
    have hvoid := hstops.voidCount
    rwa [if_pos ⟨rfl, fun hnone => by cases ho.symm.trans hnone⟩] at hvoid
  obtain ⟨_, hsums⟩ := taken_sums hf hstops htakes
  obtain ⟨haw, hw⟩ := hsums fun _ _ _ => .inl rfl
  refine ⟨?_, hcount.trans htakes.void, haw, hw⟩
  rcases Nat.eq_or_lt_of_le hcursor with heq | hlt
  · have hk : (l.block m r).cursor < l.noteCount := heq ▸ h.cursor_lt (by simp [hout])
    obtain ⟨_, _, _, _, hopen⟩ := taken_stop hf hstops htakes hk
    exact heq ▸ ((hopen o ho (hindex.trans heq)).1 rfl).1
  · obtain ⟨_, _, hopen⟩ := taken_passed hf hstops htakes (Nat.le_refl _) hlt
    exact hopen o ho hindex

end

/-- A block changes what the song and the cueing fixed of a lane by its state alone (R125). -/
theorem block_sameSong {l : Lane} (h : l.lawful) (hl : l.live = true) (m : ImageMemory) (r : BlockRecord) :
    (l.followed r).sameSong { l.block m r with lastEpoch := l.lastEpoch } := by
  obtain ⟨p, hp⟩ := h.part_of_live hl
  by_cases harmed : (l.followed r).state = .armed
  · rw [block_still (.inr (.inr harmed))]
    exact .refl _
  · obtain ⟨u, hstops, htakes⟩ := block_takes (m := m) h hl hp harmed
    exact { hstops.sameSong.trans htakes.sameSong with lastEpoch := rfl }

/-- Settles O49: the record moves the lane's state, the cursor stops, and the note there takes the block. -/
theorem openNoteTakesBlock : Obligations.OpenNoteTakesBlock := by
  refine ⟨fun m l r h => ⟨fun hs => ?_, fun hs => ?_⟩, fun m l r p o h hs hpart ho => ⟨fun hp hplay hepoch hend => ?_, fun hcut => ?_⟩⟩
  · refine Lane.block_done (Bool.eq_false_iff.2 fun hl => ?_) m r
    rcases hs with hs | hs <;> simp [Lane.live, hs] at hl
  · have hl := Lane.live_iff.2 hs
    have hframe := block_sameSong h hl m r
    refine ⟨block_lawful h m r, hframe.part, hframe.noteCount, hframe.tolerance, hframe.fold, hframe.latency, fun hp => ?_,
      fun hp => ⟨fun hs => ?_, fun hs => ?_, fun hs => ?_⟩, fun harmed => ?_, fun p hpart harmed => ?_⟩
    · exact hframe.state.trans (Lane.follow_absent hl hp)
    · exact hframe.state.trans (Lane.follow_suspended hs hp)
    · exact hframe.state.trans (Lane.follow_armed hs hp)
    · exact hframe.state.trans (Lane.follow_scoring hs hp)
    · have hfollow : l.follow r = .armed := hframe.state.symm.trans harmed
      rw [block_still (.inr (.inr hfollow)), Lane.followed, hfollow]
    · intro c starts ends live cut opens points counted accuracy k
      have hstate : (l.block m r).state = (l.followed r).state := hframe.state
      obtain ⟨u, hstops, htakes⟩ := block_takes (m := m) h hl hpart (hstate ▸ harmed)
      have hlive : (l.followed r).sings r = live := by rw [sings_eq, ← hstate]
      have hcut : interrupts (l.followed r) r.stamp = cut := by
        rw [Bool.eq_iff_iff, interrupts_iff, ← hstate]
        exact decide_eq_true_iff.symm
      rw [hlive, hcut] at hstops
      rw [hlive] at htakes
      have hf := h.followed r hl
      have hcount : u.noteCount = l.noteCount := hstops.sameSong.noteCount
      have hends (i : Nat) : ends i = (noteAt m p i).stop := ((noteAt m p i).stop_cast).symm
      have hcounted (o : OpenNote) : counted o = o.taking l m p r := rfl
      obtain ⟨hsumsMore, hsumsSame⟩ := taken_sums hf hstops htakes
      obtain ⟨hlastVoided, hlastPassed, hlastKept⟩ := taken_lastClosed hstops htakes
      refine ⟨htakes.sameSong.lastEpoch.trans hstops.sameSong.lastEpoch, ?_, ?_, fun i hi hlt => ?_, fun hk => ?_,
        taken_outside (l := l.followed r) hstops htakes, fun i hi hlt => taken_passed hf hstops htakes hi hlt, fun hk => ?_, fun hk => ?_,
        hsumsMore, hsumsSame, hlastVoided, hlastPassed, hlastKept⟩
      · exact hstops.cursor.trans htakes.cursor.ge
      · exact htakes.cursor.le.trans (hstops.lawful.cursor.trans hcount.le)
      · exact hends i ▸ hstops.ended i hi (htakes.cursor ▸ hlt)
      · have hstop := hstops.stops
        rw [← htakes.cursor] at hstop
        exact hends k ▸ hstop hk
      · exact htakes.lawful.not_open_end (hk.trans hframe.noteCount.symm)
      · simp only [hcounted]
        exact taken_stop (l := l.followed r) hf hstops htakes hk
  · have hindex := (h.open_at ho).1
    have htaken := block_taken h hs hpart ho hp hplay hepoch ((NoteRec.stop_cast _).symm ▸ hend)
    rw [htaken]
    refine ⟨fun hleft => ?_, fun hcounts => ⟨fun hv => ?_, fun pitch hv hpitch => ?_⟩⟩
    · rw [OpenNote.taking, if_pos hleft]
    · rw [OpenNote.taking, if_neg hcounts, blockPoints_unvoiced l _ hv]
      rfl
    · rw [OpenNote.taking, if_neg hcounts, blockPoints_voiced l _ hv hpitch, hindex]
      rfl
  · exact block_voids h hs hpart ho hcut

end Sys2Proof.Machine

namespace Sys2Proof.Machine

/-! ## Lines laid out and wiped (R155 to R157, R159) -/

/-- A glyph placed at a left edge: its width is its code's, and it is drawn when it ends by column 1,860 (R156, R157). -/
structure PlacedGlyph.standsAt (g : GlyphStore) (left : Nat) (p : PlacedGlyph) : Prop where
  left : p.left = left
  width : p.width = glyphWidth g p.code
  drawn : p.drawn = true ↔ p.left + p.width ≤ 1860

section
variable (g : GlyphStore)

theorem runWidth_append (a b : List Nat) : runWidth g (a ++ b) = runWidth g a + runWidth g b := by
  simp [runWidth]

theorem runWidth_flatten (runs : List (List Nat)) : runWidth g runs.flatten = (runs.map (runWidth g)).sum := by
  induction runs with
  | nil => rfl
  | cons run rest ih => rw [List.flatten_cons, runWidth_append, ih, List.map_cons, List.sum_cons]

theorem placeRun_codes (s left : Nat) (run : List Nat) : (placeRun g s left run).map (·.code) = run := by
  induction run generalizing left with
  | nil => rfl
  | cons c rest ih => exact congrArg (c :: ·) (ih _)

theorem placeRun_length (s left : Nat) (run : List Nat) : (placeRun g s left run).length = run.length := by
  rw [← List.length_map, placeRun_codes]

/-- The glyphs of a run stand edge to edge (R156). -/
theorem placeRun_standsAt {s left n : Nat} {run : List Nat} {p : PlacedGlyph} (h : (placeRun g s left run)[n]? = some p) :
    p.standsAt g (left + runWidth g (run.take n)) := by
  induction run generalizing left n with
  | nil => simp [placeRun] at h
  | cons c rest ih =>
    cases n with
    | zero =>
      cases Option.some.inj h
      exact ⟨rfl, rfl, decide_eq_true_iff⟩
    | succ n =>
      rw [List.take_succ_cons, show runWidth g (c :: rest.take n) = glyphWidth g c + runWidth g (rest.take n) by
        simp [runWidth], ← Nat.add_assoc]
      exact ih h

theorem placeSyllables_codes (n left : Nat) (runs : List (List Nat)) :
    (placeSyllables g n left runs).1.map (·.code) = runs.flatten := by
  induction runs generalizing n left with
  | nil => rfl
  | cons run rest ih => simp only [placeSyllables, List.map_append, placeRun_codes, ih, List.flatten_cons]

/-- The glyphs of a line stand edge to edge across its syllables (R156). -/
theorem placeSyllables_standsAt {s left n : Nat} {runs : List (List Nat)} {p : PlacedGlyph}
    (h : (placeSyllables g s left runs).1[n]? = some p) : p.standsAt g (left + runWidth g (runs.flatten.take n)) := by
  induction runs generalizing s left n with
  | nil => simp [placeSyllables] at h
  | cons run rest ih =>
    rw [placeSyllables, List.getElem?_append, placeRun_length] at h
    rw [List.flatten_cons, List.take_append, runWidth_append]
    split at h
    next hn =>
      rw [Nat.sub_eq_zero_of_le hn.le, List.take_zero]
      exact placeRun_standsAt g h
    next hn =>
      rw [List.take_of_length_le (Nat.not_lt.1 hn), ← Nat.add_assoc]
      exact ih h

theorem placeSyllables_length (s left : Nat) (runs : List (List Nat)) :
    (placeSyllables g s left runs).2.length = runs.length := by
  induction runs generalizing s left with
  | nil => rfl
  | cons run rest ih => exact congrArg (· + 1) (ih _ _)

/-- The syllables of a line stand edge to edge, each as wide as its run (R156). -/
theorem placeSyllables_syllable (s left n : Nat) (runs : List (List Nat)) : (placeSyllables g s left runs).2[n]? =
    runs[n]?.map fun run => ⟨left + runWidth g (runs.take n).flatten, runWidth g run⟩ := by
  induction runs generalizing s left n with
  | nil => rfl
  | cons run rest ih =>
    cases n with
    | zero => rfl
    | succ n =>
      rw [List.take_succ_cons, List.flatten_cons, runWidth_append, ← Nat.add_assoc]
      exact ih _ _ _

end

/-- The glyph runs of a line's syllables. -/
def lineRuns (m : ImageMemory) (i : Nat) : List (List Nat) := (lineSyllables m i).map fun j => (syllableAt m j).run

theorem lineRuns_flatten (m : ImageMemory) (i : Nat) :
    (lineRuns m i).flatten = (lineSyllables m i).flatMap fun j => (syllableAt m j).run := by
  rw [lineRuns, List.flatMap_def]

theorem layLine_eq (m : ImageMemory) (g : GlyphStore) (i : Nat) :
    let w := runWidth g (lineRuns m i).flatten
    layLine m g i = ⟨i, runLeft w, w, (placeSyllables g 0 (runLeft w) (lineRuns m i)).1,
      (placeSyllables g 0 (runLeft w) (lineRuns m i)).2⟩ := by
  simp only [runWidth_flatten]
  rfl

section
variable {t : Nat} {y : SyllableRec} (p : PlacedSyllable)

theorem wipeColumn_before (h : t < 256 * y.start) : wipeColumn t y p = p.left := if_pos h

theorem wipeColumn_after (h : 256 * (y.start + y.duration) ≤ t) : wipeColumn t y p = p.left + p.width := by
  rw [wipeColumn, if_neg (by omega), if_pos (show 256 * y.stop ≤ t from h)]

theorem wipeColumn_between (hs : 256 * y.start ≤ t) (hd : t < 256 * (y.start + y.duration)) :
    wipeColumn t y p = p.left + p.width * (t - 256 * y.start) / (256 * y.duration) := by
  rw [wipeColumn, if_neg (Nat.not_lt.2 hs), if_neg (Nat.not_le.2 (show t < 256 * y.stop from hd))]

/-- The wipe column lies within its syllable (R159). -/
theorem wipeColumn_range (t : Nat) (y : SyllableRec) :
    p.left ≤ wipeColumn t y p ∧ wipeColumn t y p ≤ p.left + p.width := by
  rcases Nat.lt_or_ge t (256 * y.start) with hs | hs
  · rw [wipeColumn_before p hs]
    omega
  rcases Nat.lt_or_ge t (256 * (y.start + y.duration)) with hd | hd
  · rw [wipeColumn_between p hs hd]
    have hquotient : p.width * (t - 256 * y.start) / (256 * y.duration) ≤ p.width := by
      refine Nat.div_le_of_le_mul ?_
      rw [Nat.mul_comm (256 * y.duration)]
      exact Nat.mul_le_mul_left _ (by omega)
    exact ⟨Nat.le_add_right .., Nat.add_le_add_left hquotient _⟩
  · rw [wipeColumn_after p hd]
    omega

/-- The wipe column never goes back as the clock runs on. -/
theorem wipeColumn_mono {t' : Nat} (h : t ≤ t') : wipeColumn t y p ≤ wipeColumn t' y p := by
  rcases Nat.lt_or_ge t (256 * y.start) with hs | hs
  · rw [wipeColumn_before p hs]
    exact (wipeColumn_range p t' y).1
  rcases Nat.lt_or_ge t' (256 * (y.start + y.duration)) with hd | hd
  · rw [wipeColumn_between p hs (h.trans_lt hd), wipeColumn_between p (hs.trans h) hd]
    exact Nat.add_le_add_left (Nat.div_le_div_right (Nat.mul_le_mul_left _ (Nat.sub_le_sub_right h _))) _
  · rw [wipeColumn_after p hd]
    exact (wipeColumn_range p t y).2

end

/-- Settles O53: the layout read syllable by syllable and glyph by glyph, and the wipe column's three spans. -/
theorem linesAreLaidOutAndWiped : Obligations.LinesAreLaidOutAndWiped := by
  refine ⟨fun m g i => ?_, fun t y p hduration => ⟨wipeColumn_before p, wipeColumn_after p, fun hs hd => ?_,
    fun t' => wipeColumn_mono p⟩⟩
  · simp only [layLine_eq, ← lineRuns_flatten]
    refine ⟨trivial, rfl, rfl, placeSyllables_codes g _ _ _, ?_, fun n p hp => ?_, fun n j p hj hp => ?_⟩
    · rw [placeSyllables_length, lineRuns, List.length_map]
    · obtain ⟨hleft, hwidth, hdrawn⟩ := placeSyllables_standsAt g hp
      exact ⟨hleft, hwidth, hdrawn⟩
    · rw [placeSyllables_syllable, lineRuns, List.getElem?_map, hj] at hp
      cases Option.some.inj hp
      refine ⟨rfl, ?_⟩
      rw [← List.map_take, ← List.flatMap_def]
      rfl
  · have hquotient : wipeColumn t y p - p.left = p.width * (t - 256 * y.start) / (256 * y.duration) := by
      rw [wipeColumn_between p hs hd, Nat.add_sub_cancel_left]
    rw [hquotient]
    exact ⟨(wipeColumn_range p t y).1, Nat.div_mul_le_self _ _, (Nat.div_lt_iff_lt_mul (by omega)).1 (Nat.lt_succ_self _)⟩

end Sys2Proof.Machine

namespace Sys2Proof.Machine

/-! ## The row slots against the clock (R142 to R151) -/

/-- The last of rising numbers is the greatest. -/
theorem getLast?_of_greatest {l : List Nat} (hrising : l.Pairwise (· < ·)) {i : Nat} (hi : i ∈ l) (h : ∀ j ∈ l, j ≤ i) :
    l.getLast? = some i := by
  have hle : l.Pairwise (· ≤ ·) := hrising.imp Nat.le_of_lt
  have hne := List.ne_nil_of_mem hi
  rw [List.getLast?_eq_some_getLast hne]
  exact congrArg some (Nat.le_antisymm (h _ (List.getLast_mem hne)) (hle.rel_getLast hi))

theorem mem_slotLines {m : ImageMemory} {k i : Nat} : i ∈ slotLines m k ↔ i < imgLines m ∧ (lineAt m i).hint = k := by
  simp [slotLines]

/-- The lowest line of a row slot that passes a test. -/
theorem slotLines_find? {m : ImageMemory} {k i : Nat} {p : Nat → Bool} : (slotLines m k).find? p = some i ↔
    (i < imgLines m ∧ (lineAt m i).hint = k) ∧ p i = true ∧ ∀ j < i, (lineAt m j).hint = k → ¬ p j = true := by
  rw [slotLines, List.find?_filter, List.find?_range_eq_some]
  simp only [List.mem_range, Bool.not_eq_true', decide_eq_true_eq, decide_eq_false_iff_not, not_and]
  tauto

theorem lineAfter_follows (v : LineView) (k n : Nat) : v.follows k n (lineAfter v.image k n) := by
  intro j
  rw [lineAfter, slotLines_find?]
  simp only [decide_eq_true_eq]
  constructor
  · rintro ⟨⟨hj, hhint⟩, hn, hfirst⟩
    exact ⟨hn, hj, hhint, fun i hi hij hk => hfirst i hij hk hi⟩
  · rintro ⟨hn, hj, hhint, hfirst⟩
    exact ⟨⟨hj, hhint⟩, hn, fun i hij hk hi => hfirst i hi hij hk⟩

section
variable {v : LineView}

theorem reached_iff {tick : Nat} : v.reached tick = true ↔ 256 * tick ≤ v.t := decide_eq_true_iff

theorem not_reached_iff {tick : Nat} : ¬ v.reached tick = true ↔ v.t < 256 * tick := reached_iff.not.trans Nat.not_le

end

/-! ### The three steps are `RowStep` (R145 to R148) -/

section
variable {v : LineView} {k : Nat} {r r' : RowSlot}

theorem promote_step (h : promote v r = some r') : RowStep v k r r' := by
  obtain ⟨_ | l, _ | d, next, late⟩ := r
  case some.some =>
    obtain ⟨hended, htaken⟩ := Option.ite_none_right_eq_some.1 h
    cases Option.some.inj htaken
    exact .promotion l d late next (reached_iff.1 hended)
  all_goals cases h

theorem remove_step (h : remove v r = some r') : RowStep v k r r' := by
  obtain ⟨_ | l, _ | d, next, late⟩ := r
  case some.none =>
    obtain ⟨hhidden, hgone⟩ := Option.ite_none_right_eq_some.1 h
    cases Option.some.inj hgone
    exact .removal l late next (reached_iff.1 hhidden)
  all_goals cases h

/-- Once removal has been tried, the next line's step finds no shown line at its hide tick. -/
theorem reachNext_step (hkept : remove v r = none) (h : reachNext v k r = some r') : RowStep v k r r' := by
  obtain ⟨shown, _ | d, _ | n, late⟩ := r
  case none.some =>
    obtain ⟨hshow, htaken⟩ := Option.ite_none_right_eq_some.1 h
    have hfollows := lineAfter_follows v k n
    cases shown with
    | none =>
      cases Option.some.inj htaken
      exact .nextShown none n late _ hfollows (reached_iff.1 hshow) nofun
    | some l =>
      have hhide : ¬ v.reached (v.hideTick l.index) = true := fun hhidden => by simp [remove, hhidden] at hkept
      by_cases hended : v.reached (lineEnd v.image l.index) = true
      · cases Option.some.inj ((if_pos hended).symm.trans htaken)
        refine .nextShown (some l) n late _ hfollows (reached_iff.1 hshow) fun x hx => ?_
        cases hx
        exact ⟨reached_iff.1 hended, not_reached_iff.1 hhide⟩
      · cases Option.some.inj ((if_neg hended).symm.trans htaken)
        exact .nextDeferred l n late _ hfollows (reached_iff.1 hshow) (not_reached_iff.1 hended)
  all_goals cases h

theorem remove_shown (h : remove v r = some r') : r'.shown = none := by
  obtain ⟨_ | l, _ | d, next, late⟩ := r
  case some.none =>
    obtain ⟨_, hgone⟩ := Option.ite_none_right_eq_some.1 h
    exact Option.some.inj hgone ▸ rfl
  all_goals cases h

theorem remove_tried (r : RowSlot) : remove v ((remove v r).getD r) = none := by
  cases h : remove v r with
  | none => exact h
  | some r' => simp [remove, remove_shown h]

theorem reachNext_due {n late : Nat} (shown : Option ShownLine) (hshow : v.reached (v.showTick n) = true) :
    (reachNext v k ⟨shown, none, some n, late⟩).isSome = true := by
  simp only [reachNext, hshow, if_true]
  cases shown with
  | none => rfl
  | some l =>
    dsimp only
    split <;> rfl

/-- A slot at which a step applies is one at which the three steps change something. -/
theorem RowStep.applies (h : RowStep v k r r') :
    (promote v r).isSome = true ∨ (remove v r).isSome = true ∨ (reachNext v k r).isSome = true := by
  cases h with
  | promotion l d late next hended => exact .inl (by simp [promote, reached_iff.2 hended])
  | removal l late next hhidden =>
    have hhide : v.reached (v.hideTick l.index) = true := reached_iff.2 hhidden
    exact .inr (.inl (by simp [remove, hhide]))
  | nextShown shown n late after _ hshow _ => exact .inr (.inr (reachNext_due shown (reached_iff.2 hshow)))
  | nextDeferred l n late after _ hshow _ => exact .inr (.inr (reachNext_due (some l) (reached_iff.2 hshow)))

theorem rowPass_none (h : rowPass v k r = none) (r' : RowSlot) : ¬ RowStep v k r r' := by
  intro hstep
  have happlies := hstep.applies
  obtain ⟨⟨hpromote, hremove⟩, hreach⟩ : (promote v r = none ∧ remove v ((promote v r).getD r) = none) ∧
      reachNext v k ((remove v ((promote v r).getD r)).getD ((promote v r).getD r)) = none := by simpa [rowPass] using h
  rw [hpromote, Option.getD_none] at hremove hreach
  rw [hremove, Option.getD_none] at hreach
  simp [hpromote, hremove, hreach] at happlies

end

/-! ### The steps come to an end (R145) -/

/-- What a next line still has before it: lines are numbered below 512. -/
def linesAhead : Option Nat → Nat
  | none => 0
  | some n => 512 - min n 511

theorem linesAhead_le (next : Option Nat) : linesAhead next ≤ 512 := by
  cases next <;> simp [linesAhead]

theorem LineView.follows.linesAhead_lt {v : LineView} {k n : Nat} {after : Option Nat} (h : v.follows k n after)
    (hlines : imgLines v.image ≤ 512) : linesAhead after < linesAhead (some n) := by
  cases after with
  | none => simp only [linesAhead]; omega
  | some j =>
    obtain ⟨hn, hj, _⟩ := (h j).1 rfl
    simp only [linesAhead]
    omega

/-- A bound on the steps a row slot can still take: each line ahead may be taken and then go, the lines held may go. -/
def RowSlot.stepsLeft (r : RowSlot) : Nat := 2 * linesAhead r.next + r.deferred.toList.length + r.shown.toList.length

theorem RowSlot.stepsLeft_le (r : RowSlot) : r.stepsLeft ≤ 1026 := by
  have hnext := linesAhead_le r.next
  have hdeferred : r.deferred.toList.length ≤ 1 := by cases r.deferred <;> simp
  have hshown : r.shown.toList.length ≤ 1 := by cases r.shown <;> simp
  simp only [RowSlot.stepsLeft]
  omega

section
variable {v : LineView} {k : Nat} {r r' : RowSlot} (hlines : imgLines v.image ≤ 512)
include hlines

theorem RowStep.stepsLeft_lt (h : RowStep v k r r') : r'.stepsLeft < r.stepsLeft := by
  cases h with
  | promotion => simp [RowSlot.stepsLeft]
  | removal => simp [RowSlot.stepsLeft]
  | nextShown shown n late after hfollows =>
    have := hfollows.linesAhead_lt hlines
    simp only [RowSlot.stepsLeft, Option.toList_some, List.length_singleton]
    omega
  | nextDeferred l n late after hfollows =>
    have := hfollows.linesAhead_lt hlines
    simp only [RowSlot.stepsLeft, Option.toList_some, List.length_singleton, Option.toList_none, List.length_nil]
    omega

/-- One of the three steps tried: it is taken or leaves the slot, and a step taken counts. -/
theorem tried_steps {a : Option RowSlot} (h : ∀ x, a = some x → RowStep v k r x) :
    Relation.ReflTransGen (RowStep v k) r (a.getD r) ∧ (a.getD r).stepsLeft + a.isSome.toNat ≤ r.stepsLeft := by
  cases a with
  | none => exact ⟨.refl, le_rfl⟩
  | some x => exact ⟨.single (h x rfl), (h x rfl).stepsLeft_lt hlines⟩

/-- A pass over the three steps is made of frame steps, at least one of them. -/
theorem rowPass_steps (h : rowPass v k r = some r') :
    Relation.ReflTransGen (RowStep v k) r r' ∧ r'.stepsLeft < r.stepsLeft := by
  obtain ⟨hany, hr'⟩ := Option.ite_none_right_eq_some.1 h
  cases Option.some.inj hr'
  obtain ⟨hpromote, hpromoted⟩ := tried_steps hlines fun x hx => promote_step (r := r) (k := k) hx
  obtain ⟨hremove, hremoved⟩ := tried_steps hlines fun x hx => remove_step (r := (promote v r).getD r) (k := k) hx
  obtain ⟨hreach, hreached⟩ := tried_steps hlines fun x hx => reachNext_step (k := k) (remove_tried ((promote v r).getD r)) hx
  refine ⟨hpromote.trans (hremove.trans hreach), ?_⟩
  have hcount : ∀ a b c : Bool, (a || b || c) = true → 1 ≤ a.toNat + b.toNat + c.toNat := by decide
  have := hcount _ _ _ hany
  omega

/-- The steps repeated with fuel for all that can still be taken: none applies any more. -/
theorem settleRow_steps {fuel : Nat} (hfuel : r.stepsLeft ≤ fuel) :
    Relation.ReflTransGen (RowStep v k) r (settleRow v k fuel r) ∧ ∀ r', ¬ RowStep v k (settleRow v k fuel r) r' := by
  induction fuel generalizing r with
  | zero =>
    refine ⟨.refl, fun r' hstep => ?_⟩
    have : r'.stepsLeft < r.stepsLeft := RowStep.stepsLeft_lt hlines hstep
    omega
  | succ fuel ih =>
    rw [settleRow]
    cases hpass : rowPass v k r with
    | none => exact ⟨.refl, rowPass_none hpass⟩
    | some r1 =>
      obtain ⟨hsteps, hless⟩ := rowPass_steps hlines hpass
      obtain ⟨hmore, hdone⟩ := ih (r := r1) (by omega)
      exact ⟨hsteps.trans hmore, hdone⟩

end

/-- The three ticks still ahead of a slot at which no step applies (R146 to R148). -/
theorem ticks_ahead {v : LineView} {k : Nat} {r : RowSlot} (hdone : ∀ r', ¬ RowStep v k r r') :
    (∀ l d, r.shown = some l → r.deferred = some d → v.t < 256 * lineEnd v.image l.index) ∧
    (∀ l, r.shown = some l → r.deferred = none → v.t < 256 * (lineEnd v.image l.index + v.linger)) ∧
    (∀ n, r.next = some n → r.deferred = none → v.t < 256 * (lineStart v.image n - v.leadIn)) := by
  obtain ⟨shown, deferred, next, late⟩ := r
  refine ⟨?_, ?_, ?_⟩
  · rintro l d rfl rfl
    exact Nat.lt_of_not_le fun hended => hdone _ (.promotion l d late next hended)
  · rintro l rfl rfl
    exact Nat.lt_of_not_le fun hhidden => hdone _ (.removal l late next hhidden)
  · rintro n rfl rfl
    refine Nat.lt_of_not_le fun hshow => ?_
    have hfollows := lineAfter_follows v k n
    cases shown with
    | none => exact hdone _ (.nextShown none n late _ hfollows hshow nofun)
    | some l =>
      have hhide := Nat.lt_of_not_le fun hhidden => hdone _ (.removal l late _ hhidden)
      have hended := Nat.le_of_not_lt fun hopen => hdone _ (.nextDeferred l n late _ hfollows hshow hopen)
      refine hdone _ (.nextShown (some l) n late _ hfollows hshow fun x hx => ?_)
      cases hx
      exact ⟨hended, hhide⟩

/-! ### Rebuild (R151) -/

/-- The lines of a row slot that are due and not yet hidden. -/
def dueLines (v : LineView) (k : Nat) : List Nat :=
  (slotLines v.image k).filter fun i => v.reached (v.showTick i) && !v.reached (v.hideTick i)

theorem rebuildRow_shown (v : LineView) (k : Nat) (r : RowSlot) :
    (rebuildRow v k r).shown = (dueLines v k).getLast?.map (layLine v.image v.glyphs) := rfl

theorem dueLines_rising (v : LineView) (k : Nat) : (dueLines v k).Pairwise (· < ·) :=
  (List.pairwise_lt_range.filter _).filter _

theorem mem_dueLines {v : LineView} {k i : Nat} : i ∈ dueLines v k ↔ i < imgLines v.image ∧ (lineAt v.image i).hint = k ∧
    256 * (lineStart v.image i - v.leadIn) ≤ v.t ∧ v.t < 256 * (lineEnd v.image i + v.linger) := by
  rw [dueLines, List.mem_filter, mem_slotLines, and_assoc, Bool.and_eq_true, Bool.not_eq_true', ← Bool.not_eq_true, reached_iff,
    not_reached_iff]
  rfl

/-- The slot's first line not yet due, as a rebuild finds it. -/
theorem rebuildRow_next (v : LineView) (k : Nat) (r : RowSlot) (i : Nat) : (rebuildRow v k r).next = some i ↔
    (i < imgLines v.image ∧ (lineAt v.image i).hint = k ∧ v.t < 256 * (lineStart v.image i - v.leadIn)) ∧
      ∀ j < i, (lineAt v.image j).hint = k → 256 * (lineStart v.image j - v.leadIn) ≤ v.t := by
  refine slotLines_find?.trans ?_
  simp only [Bool.not_eq_true', ← Bool.not_eq_true, reached_iff, Nat.not_le, Nat.not_lt, and_assoc]
  rfl

/-- Settles O52: the fuel suffices for every step a slot can take, and a rebuild reads the slot's lines in order. -/
theorem rowSlotsFollowClock : Obligations.RowSlotsFollowClock := by
  refine ⟨fun v k r hlines => ?_, fun v k r => ⟨rfl, rfl, fun i hi hlast => ?_, fun hnone => ?_, fun i hi hfirst => ?_,
    fun hnone => ?_⟩⟩
  · obtain ⟨hsteps, hdone⟩ := settleRow_steps (k := k) hlines (r.stepsLeft_le.trans (by decide : 1026 ≤ 1536))
    exact ⟨hsteps, hdone, ticks_ahead hdone⟩
  · rw [rebuildRow_shown, getLast?_of_greatest (dueLines_rising v k) (mem_dueLines.2 hi) fun j hj => hlast j (mem_dueLines.1 hj)]
    rfl
  · have hempty : dueLines v k = [] := List.eq_nil_iff_forall_not_mem.2 fun i hi => hnone i (mem_dueLines.1 hi)
    rw [rebuildRow_shown, hempty]
    rfl
  · refine (rebuildRow_next v k r i).2 ⟨hi, fun j hj hk => Nat.le_of_not_lt fun hsoon => ?_⟩
    obtain ⟨hlt, _⟩ := hi
    exact Nat.not_le.2 hj (hfirst j ⟨hj.trans hlt, hk, hsoon⟩)
  · refine Option.eq_none_iff_forall_ne_some.2 fun i hi => hnone i ?_
    obtain ⟨hnotYet, _⟩ := (rebuildRow_next v k r i).1 hi
    exact hnotYet

end Sys2Proof.Machine

namespace Sys2Proof.Machine

/-! ## The screen's messages (R162, R163, R180 to R182) -/

/-! ### What a byte names -/

theorem Oct.mem_toList {α : Type} {o : Oct α} {x : α} : x ∈ o.toList ↔ ∃ i, o.get i = x := by
  constructor
  · simp only [Oct.toList, List.mem_cons, List.not_mem_nil, or_false]
    rintro (rfl | rfl | rfl | rfl | rfl | rfl | rfl | rfl)
    exacts [⟨0, rfl⟩, ⟨1, rfl⟩, ⟨2, rfl⟩, ⟨3, rfl⟩, ⟨4, rfl⟩, ⟨5, rfl⟩, ⟨6, rfl⟩, ⟨7, rfl⟩]
  · rintro ⟨i, rfl⟩
    fin_cases i <;> simp [Oct.toList, Oct.get]

theorem Oct.ext_get {α : Type} {a b : Oct α} (h : ∀ i, a.get i = b.get i) : a = b := by
  obtain ⟨a0, a1, a2, a3, a4, a5, a6, a7⟩ := a
  obtain ⟨b0, b1, b2, b3, b4, b5, b6, b7⟩ := b
  exact congr (congr (congr (congr (congr (congr (congr (congrArg Oct.mk (h 0)) (h 1)) (h 2)) (h 3)) (h 4)) (h 5)) (h 6)) (h 7)

theorem flag_byte (b : Bool) : let x : Byte := if b then 1 else 0
    (x = 0 ∨ x = 1) ∧ (x = 1 ↔ b = true) := by cases b <;> decide

theorem n16_toNat (h : Half) : n16 h.toNat = le16 h := by simp [n16]

theorem half_eq_zero {h : Half} : h.toNat = 0 ↔ h = 0 := by bv_omega

theorem entryNamed_place (i : Fin 8) : entryNamed i.val = some i := by fin_cases i <;> rfl

theorem entryNamed_bad {n : Nat} (h : 7 < n) : entryNamed n = none := by
  simp only [entryNamed, List.find?_eq_none, beq_iff_eq]
  omega

theorem rowNumbers_place (k : Fin 4) : (rowNumbers.find? fun j => j.val == k.val) = some k := by fin_cases k <;> rfl

theorem rowNumbers_bad {n : Nat} (h : 3 < n) : (rowNumbers.find? fun j => j.val == n) = none := by
  simp only [List.find?_eq_none, beq_iff_eq]
  omega

/-- The band code of a byte 0 to 4 (R168, R212). -/
def bandOf (b : Byte) : BandCode :=
  if b = 0 then .pass else if b = 1 then .lyric else if b = 2 then .dim else if b = 3 then .banner else .blank

theorem bandNamed_bandOf {b : Byte} (h : b.toNat ≤ 4) : bandNamed b = some (bandOf b) ∧ n8 (bandOf b).value = [b] := by
  obtain rfl | rfl | rfl | rfl | rfl : b = 0 ∨ b = 1 ∨ b = 2 ∨ b = 3 ∨ b = 4 := by bv_omega
  all_goals exact ⟨rfl, rfl⟩

theorem bandNamed_bad {b : Byte} (h : 4 < b.toNat) : bandNamed b = none := by
  unfold bandNamed
  split
  case h_6 => rfl
  all_goals omega

theorem SlotName.exists_iff {p : SlotName → Prop} : (∃ n, p n) ↔ p .a ∨ p .b :=
  ⟨fun ⟨n, h⟩ => by cases n; exacts [.inl h, .inr h], fun h => h.elim (⟨.a, ·⟩) (⟨.b, ·⟩)⟩

/-! ### Settings applied together (R162, R180, R181) -/

section
variable {s : State}

theorem takeBandMap_badValue {codes : Oct Byte} {i : Fin 8} (h : 4 < (codes.get i).toNat) :
    takeBandMap s codes = refuse s .badValue := by
  refine if_neg fun hall => ?_
  have := List.all_eq_true.1 hall _ (Oct.mem_toList.2 ⟨i, rfl⟩)
  simp [bandNamed_bad h] at this

theorem takeBandMap_named {codes : Oct Byte} (h : ∀ i, (codes.get i).toNat ≤ 4) :
    takeBandMap s codes = accept (s.setCmp { s.cmp with bands := codes.map bandOf }) codes.toList := by
  have hall : (codes.toList.all fun b => (bandNamed b).isSome) = true := by
    refine List.all_eq_true.2 fun b hb => ?_
    obtain ⟨i, rfl⟩ := Oct.mem_toList.1 hb
    simp [(bandNamed_bandOf (h i)).1]
  have hbands : (codes.map fun b => (bandNamed b).getD .pass) = codes.map bandOf := by
    refine Oct.ext_get fun i => ?_
    rw [Oct.get_map, Oct.get_map, (bandNamed_bandOf (h i)).1, Option.getD_some]
  have hdata : bandData (codes.map bandOf) = codes.toList := by
    have hbytes : bandData (codes.map bandOf) = codes.toList.flatMap fun b => n8 (bandOf b).value := rfl
    rw [hbytes, List.flatMap_congr (g := fun b => [b]), List.flatMap_singleton']
    intro b hb
    obtain ⟨i, rfl⟩ := Oct.mem_toList.1 hb
    exact (bandNamed_bandOf (h i)).2
  rw [takeBandMap, if_pos hall]
  simp only [hbands, hdata]

theorem takeRowPlace_badValue {slot band : Nat} (h : 3 < slot ∨ 7 < band) (offset : Nat) :
    takeRowPlace s slot band offset = refuse s .badValue := by
  unfold takeRowPlace
  split
  next => rfl
  next k hk =>
    refine if_pos (h.resolve_left fun hslot => ?_)
    simp [rowNumbers_bad hslot] at hk

theorem takeRowPlace_named (k : Fin 4) {band : Nat} (h : band ≤ 7) (offset : Nat) : takeRowPlace s k.val band offset =
    accept (s.setCmp { s.cmp with placement := s.cmp.placement.set k ⟨band, min 87 offset⟩ })
      (n8 band ++ n8 (min 87 offset)) := by
  simp only [takeRowPlace, rowNumbers_place, if_neg (Nat.not_lt.2 h), clamp, Nat.zero_max]

theorem takePalette_badValue {entry : Nat} (h : 7 < entry) (c : RGB) : takePalette s entry c = refuse s .badValue := by
  simp only [takePalette, entryNamed_bad h]

theorem takePalette_named (i : Fin 8) (c : RGB) : takePalette s i.val c =
    accept (s.setCmp { s.cmp with palette := s.cmp.palette.set i c }) (n8 i.val ++ [c.red, c.green, c.blue]) := by
  simp only [takePalette, entryNamed_place, RGB.data]

theorem takeBannerSet_badValue {base : Nat} (h : 4084 < base) (window : Nat) :
    takeBannerSet s window base = refuse s .badValue := if_pos h

theorem takeBannerSet_base {base : Nat} (h : base ≤ 4084) (window : Nat) : takeBannerSet s window base =
    accept (s.setCmp { s.cmp with bannerWindow := min 60000 window, digitBase := base })
      (n16 (min 60000 window) ++ n16 base) := by
  simp only [takeBannerSet, if_neg (Nat.not_lt.2 h), clamp, Nat.zero_max]

theorem takeLayoutSet_eq (a b : Nat) : takeLayoutSet s a b =
    accept (s.setLlu { s.llu with leadIn := max 500 (min 10000 a), linger := min 3000 b })
      (n16 (max 500 (min 10000 a)) ++ n16 (min 3000 b)) := by
  simp only [takeLayoutSet, clamp, Nat.zero_max]

end

/-! ### LAYOUT_READ (R163, R214) -/

theorem LayoutMode.value_byte (x : LayoutMode) : BitVec.ofNat 8 x.value =
    (match x with | .none => 0 | .lyrics => 1 | .results => 2) := by cases x <;> rfl

/-- The bytes of a shown line in a row slot's record (R214). -/
def shownLineData (v : LineView) (l : ShownLine) : List Byte :=
  n16 l.index ++ (n8 (lineAt v.image l.index).mask ++ (n32 (lineStart v.image l.index) ++ (n32 (lineEnd v.image l.index) ++
    (n32 (v.showTick l.index) ++ (n32 (v.hideTick l.index) ++ (n16 l.x0 ++ (n16 l.width ++ (n16 l.glyphs.length ++
      n16 (l.glyphs.filter (·.drawn)).length))))))))

/-- The bytes that follow the shown line in a row slot's record (R214). -/
def rowSlotRest (r : RowSlot) : List Byte := n16 (r.deferred.getD 0xFFFF) ++ (n16 (r.next.getD 0xFFFF) ++ n16 r.late)

/-- The bytes of a row slot's shown line, or of none (R214). -/
def shownData (v : LineView) : Option ShownLine → List Byte
  | none => n16 0xFFFF ++ List.replicate 25 0
  | some l => shownLineData v l

theorem rowSlotData_eq (v : LineView) (r : RowSlot) : rowSlotData v r = shownData v r.shown ++ rowSlotRest r := by
  obtain ⟨_ | l, deferred, next, late⟩ := r <;>
    simp only [rowSlotData, shownData, shownLineData, rowSlotRest, List.append_assoc]

theorem shownData_length (v : LineView) (shown : Option ShownLine) : (shownData v shown).length = 27 := by
  cases shown <;> rfl

theorem rowSlotData_length (v : LineView) (r : RowSlot) : (rowSlotData v r).length = 33 := by
  rw [rowSlotData_eq, List.length_append, shownData_length]
  rfl

/-- The bytes of a LAYOUT_READ's reply data before the row slots' records (R214). -/
def layoutHead (l : LayoutUnit) : List Byte :=
  n16 l.leadIn ++ (n16 l.linger ++ (n16 l.songLeadIn ++ (n16 l.songLinger ++ n8 l.mode.value)))

/-- The bytes of a LAYOUT_READ's reply data (R214). -/
def layoutReading (s : State) : List Byte := layoutHead s.llu ++ s.llu.rows.toList.flatMap (rowSlotData s.lineView)

theorem takeLayoutRead_eq (s : State) : takeLayoutRead s = accept s (layoutReading s) := by
  simp only [takeLayoutRead, layoutReading, layoutHead, List.append_assoc]

theorem layoutReading_length (s : State) : (layoutReading s).length = 141 := by
  rw [layoutReading, List.length_append, flatMap_length (rowSlotData_length s.lineView)]
  rfl

theorem layoutReading_settings (s : State) : let data := layoutReading s
    u16 data 0 = BitVec.ofNat 16 s.llu.leadIn ∧ u16 data 2 = BitVec.ofNat 16 s.llu.linger ∧
    u16 data 4 = BitVec.ofNat 16 s.llu.songLeadIn ∧ u16 data 6 = BitVec.ofNat 16 s.llu.songLinger ∧
    u8 data 8 = BitVec.ofNat 8 s.llu.mode.value := by
  have hlength : (layoutHead s.llu).length = 9 := rfl
  have half {i : Nat} (hi : i + 1 < 9) : u16 (layoutReading s) i = u16 (layoutHead s.llu) i :=
    u16_append_left _ _ _ (hlength ▸ hi)
  refine ⟨(half (by decide)).trans (join16 _), (half (by decide)).trans (join16 _), (half (by decide)).trans (join16 _),
    (half (by decide)).trans (join16 _), ?_⟩
  exact u8_append_left (layoutHead s.llu) _ _ (hlength ▸ by decide)

section
variable (v : LineView) (r : RowSlot)

theorem rowSlotData_shown {j : Nat} (hj : j < 27) : u8 (rowSlotData v r) j = u8 (shownData v r.shown) j := by
  rw [rowSlotData_eq, u8_append_left _ _ _ (by rwa [shownData_length])]

theorem rowSlotData_rest (j : Nat) : u16 (rowSlotData v r) (27 + j) = u16 (rowSlotRest r) j := by
  rw [rowSlotData_eq, u16_append_right _ _ _ (by rw [shownData_length]; omega), shownData_length, Nat.add_sub_cancel_left]

theorem shownData_index (shown : Option ShownLine) :
    u16 (shownData v shown) 0 = BitVec.ofNat 16 ((shown.map (·.index)).getD 0xFFFF) := by
  cases shown <;> exact join16 _

/-- With no shown line its fields are zero (R214). -/
theorem shownData_none {j : Nat} (h : 2 ≤ j) : u8 (shownData v none) j = 0 := by
  rw [shownData, u8_append_right _ _ _ h, u8_replicate_zero]

/-- The fields of a shown line (R163). -/
theorem shownLineData_fields (l : ShownLine) : let data := shownLineData v l
    u8 data 2 = BitVec.ofNat 8 (lineAt v.image l.index).mask ∧
    u32 data 3 = BitVec.ofNat 32 (lineStart v.image l.index) ∧ u32 data 7 = BitVec.ofNat 32 (lineEnd v.image l.index) ∧
    u32 data 11 = BitVec.ofNat 32 (lineStart v.image l.index - v.leadIn) ∧
    u32 data 15 = BitVec.ofNat 32 (lineEnd v.image l.index + v.linger) ∧
    u16 data 19 = BitVec.ofNat 16 l.x0 ∧ u16 data 21 = BitVec.ofNat 16 l.width ∧
    u16 data 23 = BitVec.ofNat 16 l.glyphs.length ∧
    u16 data 25 = BitVec.ofNat 16 (l.glyphs.filter (·.drawn)).length :=
  ⟨rfl, join32 _, join32 _, join32 _, join32 _, join16 _, join16 _, join16 _, join16 _⟩

end

section
variable {s : State} (k : Fin 4)

theorem layoutReading_u8 {j : Nat} (hj : j < 33) :
    u8 (layoutReading s) (9 + 33 * k.val + j) = u8 (rowSlotData s.lineView (s.llu.rows.get k)) j := by
  have hrow : s.llu.rows.toList[k.val]? = some (s.llu.rows.get k) := by fin_cases k <;> rfl
  rw [Nat.add_assoc, layoutReading, u8_append_right _ _ _ (Nat.le_add_right 9 _)]
  exact (congrArg _ (Nat.add_sub_cancel_left 9 _)).trans (u8_flatMap (rowSlotData_length s.lineView) hrow hj)

section
variable {i : Nat} (j : Nat) (hi : i = 9 + 33 * k.val + j)
include hi

theorem layoutReading_shown8 (hj : j < 27) :
    u8 (layoutReading s) i = u8 (shownData s.lineView (s.llu.rows.get k).shown) j := by
  rw [hi, layoutReading_u8 k (by omega), rowSlotData_shown _ _ hj]

theorem layoutReading_shown16 (hj : j + 1 < 27) :
    u16 (layoutReading s) i = u16 (shownData s.lineView (s.llu.rows.get k).shown) j :=
  u16_congr fun m hm => layoutReading_shown8 k (j + m) (by omega) (by omega)

theorem layoutReading_shown32 (hj : j + 3 < 27) :
    u32 (layoutReading s) i = u32 (shownData s.lineView (s.llu.rows.get k).shown) j :=
  u32_congr fun m hm => layoutReading_shown8 k (j + m) (by omega) (by omega)

end

theorem layoutReading_rest {i : Nat} (j : Nat) (hi : i = 36 + 33 * k.val + j) (hj : j < 5) :
    u16 (layoutReading s) i = u16 (rowSlotRest (s.llu.rows.get k)) j := by
  rw [← rowSlotData_rest s.lineView]
  refine u16_congr fun m hm => ?_
  rw [← layoutReading_u8 k (by omega)]
  congr 1
  omega

theorem layoutReading_absent (h : (s.llu.rows.get k).shown = none) {i : Nat} (hlo : 11 + 33 * k.val ≤ i)
    (hhi : i < 36 + 33 * k.val) : u8 (layoutReading s) i = 0 := by
  rw [layoutReading_shown8 k (i - (9 + 33 * k.val)) (by omega) (by omega), h, shownData_none _ (by omega)]

theorem layoutReading_line {l : ShownLine} (h : (s.llu.rows.get k).shown = some l) : let data := layoutReading s
    u8 data (11 + 33 * k.val) = BitVec.ofNat 8 (lineAt s.songImage l.index).mask ∧
    u32 data (12 + 33 * k.val) = BitVec.ofNat 32 (lineStart s.songImage l.index) ∧
    u32 data (16 + 33 * k.val) = BitVec.ofNat 32 (lineEnd s.songImage l.index) ∧
    u32 data (20 + 33 * k.val) = BitVec.ofNat 32 (lineStart s.songImage l.index - s.llu.songLeadIn) ∧
    u32 data (24 + 33 * k.val) = BitVec.ofNat 32 (lineEnd s.songImage l.index + s.llu.songLinger) ∧
    u16 data (28 + 33 * k.val) = BitVec.ofNat 16 l.x0 ∧ u16 data (30 + 33 * k.val) = BitVec.ofNat 16 l.width ∧
    u16 data (32 + 33 * k.val) = BitVec.ofNat 16 l.glyphs.length ∧
    u16 data (34 + 33 * k.val) = BitVec.ofNat 16 (l.glyphs.filter (·.drawn)).length := by
  have fields := shownLineData_fields s.lineView l
  intro data
  rw [layoutReading_shown8 k 2 (by omega) (by decide), layoutReading_shown32 k 3 (by omega) (by decide),
    layoutReading_shown32 k 7 (by omega) (by decide), layoutReading_shown32 k 11 (by omega) (by decide),
    layoutReading_shown32 k 15 (by omega) (by decide), layoutReading_shown16 k 19 (by omega) (by decide),
    layoutReading_shown16 k 21 (by omega) (by decide), layoutReading_shown16 k 23 (by omega) (by decide),
    layoutReading_shown16 k 25 (by omega) (by decide), h]
  exact fields

end

/-! ### COMPOSITOR_READ (R182, R214) -/

theorem BandCode.value_byte (x : BandCode) : BitVec.ofNat 8 x.value = (match x with
    | .pass => 0 | .lyric => 1 | .dim => 2 | .banner => 3 | .blank => 4) := by cases x <;> rfl

theorem VideoState.value_byte (x : VideoState) : BitVec.ofNat 8 x.value = (match x with | .unlocked => 0 | .locked => 1) := by
  cases x <;> rfl

/-- The bytes of a COMPOSITOR_READ's reply data, of the glyph held for the code and the code's being referenced (R214). -/
def compositorReading (c : Compositor) (held : Option Glyph) (used : Bool) : List Byte :=
  bandData c.bands ++ (c.placement.toList.flatMap (fun p => n8 p.band ++ n8 p.offset) ++
    (c.palette.toList.flatMap RGB.data ++ (n16 c.bannerWindow ++ (n16 c.digitBase ++ (n8 c.video.value ++
      (n8 c.staleCount ++ (n8 c.freshRun ++ (flag8 c.bannerShown ++ (storeData c.glyphs ++ (flag8 held.isSome ++
        (n8 ((held.map (·.width)).getD 0) ++ flag8 used)))))))))))

theorem takeCompositorRead_badValue {s : State} {code : Nat} (h : 4095 < code) :
    takeCompositorRead s code = refuse s .badValue := if_pos h

theorem takeCompositorRead_eq (s : State) {code : Half} (h : code.toNat ≤ 4095) : takeCompositorRead s code.toNat =
    accept s (compositorReading s.cmp (if code = 0 then none else glyphOf s.cmp.glyphs code.toNat)
      (decide (code ≠ 0) && s.references code.toNat)) := by
  simp only [takeCompositorRead, if_neg (Nat.not_lt.2 h), half_eq_zero, compositorReading, ne_eq, List.append_assoc]

theorem imgReferences_iff (m : ImageMemory) (code : Nat) :
    imgReferences m code = true ↔ ∃ j < imgSyllables m, code ∈ (syllableAt m j).run := by
  simp [imgReferences]

theorem references_iff (s : State) (code : Nat) : s.references code = true ↔
    ∃ n : SlotName, ((s.slot n).state = .staged ∨ (s.slot n).state = .active) ∧
      ∃ j < imgSyllables (s.slot n).image, code ∈ (syllableAt (s.slot n).image j).run := by
  have slot (n : SlotName) : ((((s.slot n).state == .staged || (s.slot n).state == .active) &&
      imgReferences (s.slot n).image code) = true) ↔ ((s.slot n).state = .staged ∨ (s.slot n).state = .active) ∧
        ∃ j < imgSyllables (s.slot n).image, code ∈ (syllableAt (s.slot n).image j).run := by
    simp [imgReferences_iff]
  rw [State.references, List.any_cons, List.any_cons, List.any_nil, Bool.or_false, Bool.or_eq_true]
  rw [SlotName.exists_iff]
  exact (slot .a).or (slot .b)


section
variable (c : Compositor) (held : Option Glyph) (used : Bool)

theorem compositorReading_length : (compositorReading c held used).length = 57 := rfl

theorem compositorReading_bands (i : Fin 8) : u8 (compositorReading c held used) i.val = (match c.bands.get i with
    | .pass => 0 | .lyric => 1 | .dim => 2 | .banner => 3 | .blank => 4) := by
  rw [← BandCode.value_byte]
  fin_cases i <;> rfl

theorem compositorReading_placement (k : Fin 4) :
    u8 (compositorReading c held used) (8 + 2 * k.val) = BitVec.ofNat 8 (c.placement.get k).band ∧
    u8 (compositorReading c held used) (9 + 2 * k.val) = BitVec.ofNat 8 (c.placement.get k).offset := by
  fin_cases k <;> exact ⟨rfl, rfl⟩

theorem compositorReading_palette (i : Fin 8) :
    u8 (compositorReading c held used) (16 + 3 * i.val) = (c.palette.get i).red ∧
    u8 (compositorReading c held used) (17 + 3 * i.val) = (c.palette.get i).green ∧
    u8 (compositorReading c held used) (18 + 3 * i.val) = (c.palette.get i).blue := by
  fin_cases i <;> exact ⟨rfl, rfl, rfl⟩

theorem compositorReading_fields : let data := compositorReading c held used
    u16 data 40 = BitVec.ofNat 16 c.bannerWindow ∧ u16 data 42 = BitVec.ofNat 16 c.digitBase ∧
    u8 data 44 = BitVec.ofNat 8 c.video.value ∧ u8 data 45 = BitVec.ofNat 8 c.staleCount ∧
    u8 data 46 = BitVec.ofNat 8 c.freshRun ∧ u8 data 47 = (if c.bannerShown then 1 else 0) ∧
    u16 data 48 = BitVec.ofNat 16 c.glyphs.length ∧ u32 data 50 = BitVec.ofNat 32 (glyphBytes c.glyphs) ∧
    u8 data 54 = (if held.isSome then 1 else 0) ∧ u8 data 55 = BitVec.ofNat 8 ((held.map (·.width)).getD 0) ∧
    u8 data 56 = (if used then 1 else 0) :=
  ⟨join16 _, join16 _, rfl, rfl, rfl, rfl, join16 _, join32 _, rfl, rfl, rfl⟩

end

/-- Settles O54: each setting applied clamped or refused, and the two readings field by field. -/
theorem screenMessages : Obligations.ScreenMessages := by
  refine ⟨fun s tag a b hlink => ⟨?_, fun hb => ?_, fun hb => ?_⟩, fun s tag codes hlink => ⟨fun ⟨i, hi⟩ => ?_,
    fun h => ⟨codes.map bandOf, fun i => Oct.get_map .., ?_⟩⟩,
    fun s tag slot band offset hlink => ⟨fun h => ?_, fun k hk h => ?_⟩,
    fun s tag entry c hlink => ⟨fun h => ?_, fun i hi => ?_⟩, fun s tag hlink => ?_,
    fun s tag code hlink => ⟨fun h => ?_, fun h => ?_⟩⟩
  · exact sendRequest_taken s tag (.layoutSet a b) _ .ok _ hlink nofun rfl (by simp [Request.payload, le16_length])
      (takeLayoutSet_eq ..) rfl
  · exact sendRequest_refused s tag (.bannerSet a b) .badValue hlink nofun rfl (by simp [Request.payload, le16_length])
      (takeBannerSet_badValue hb _)
  · have htaken := takeBannerSet_base (s := s) hb a.toNat
    rw [n16_toNat] at htaken
    exact sendRequest_taken s tag (.bannerSet a b) _ .ok _ hlink nofun rfl (by simp [Request.payload, le16_length]) htaken rfl
  · exact sendRequest_refused s tag (.bandMap codes) .badValue hlink nofun rfl (by simp [Request.payload, Oct.toList])
      (takeBandMap_badValue hi)
  · exact sendRequest_taken s tag (.bandMap codes) _ .ok _ hlink nofun rfl (by simp [Request.payload, Oct.toList])
      (takeBandMap_named h) rfl
  · exact sendRequest_refused s tag (.rowPlace slot band offset) .badValue hlink nofun rfl (by simp [Request.payload])
      (takeRowPlace_badValue h _)
  · have htaken := takeRowPlace_named (s := s) k h offset.toNat
    rw [← hk, n8_toNat] at htaken
    exact sendRequest_taken s tag (.rowPlace slot band offset) _ .ok _ hlink nofun rfl (by simp [Request.payload]) htaken rfl
  · exact sendRequest_refused s tag (.palette entry c) .badValue hlink nofun rfl (by simp [Request.payload])
      (takePalette_badValue h c)
  · have htaken := takePalette_named (s := s) i c
    rw [← hi, n8_toNat] at htaken
    exact sendRequest_taken s tag (.palette entry c) _ .ok _ hlink nofun rfl (by simp [Request.payload]) htaken rfl
  · obtain ⟨hleadIn, hlinger, hsongLeadIn, hsongLinger, hmode⟩ := layoutReading_settings s
    refine ⟨layoutReading s, sendRequest_taken s tag .layoutRead s .ok _ hlink nofun rfl (by simp [Request.payload])
      (takeLayoutRead_eq s) rfl, layoutReading_length s, hleadIn, hlinger, hsongLeadIn, hsongLinger,
      hmode.trans (LayoutMode.value_byte _), fun k => ?_⟩
    refine ⟨(layoutReading_shown16 k 0 rfl (by decide)).trans (shownData_index ..), ?_,
      (layoutReading_rest k 0 rfl (by decide)).trans (join16 _),
      (layoutReading_rest k 2 (by omega) (by decide)).trans (join16 _),
      (layoutReading_rest k 4 (by omega) (by decide)).trans (join16 _)⟩
    cases hshown : (s.llu.rows.get k).shown with
    | none => exact fun j => layoutReading_absent k hshown
    | some l => exact layoutReading_line k hshown
  · exact sendRequest_refused s tag (.compositorRead code) .badValue hlink nofun rfl
      (by simp [Request.payload, le16_length]) (takeCompositorRead_badValue h)
  · obtain ⟨hwindow, hbase, hvideo, hstale, hfresh, hbanner, hcount, hbytes, hheld, hwidth, hused⟩ :=
      compositorReading_fields s.cmp (if code = 0 then none else glyphOf s.cmp.glyphs code.toNat)
        (decide (code ≠ 0) && s.references code.toNat)
    refine ⟨_, sendRequest_taken s tag (.compositorRead code) s .ok _ hlink nofun rfl (by simp [Request.payload, le16_length])
      (takeCompositorRead_eq s h) rfl, compositorReading_length .., compositorReading_bands _ _ _,
      compositorReading_placement _ _ _, compositorReading_palette _ _ _, hwindow, hbase,
      hvideo.trans (VideoState.value_byte _), hstale, hfresh, hbanner, hcount, hbytes, hheld, hwidth, ?_⟩
    obtain ⟨hbit, hone⟩ := flag_byte (decide (code ≠ 0) && s.references code.toNat)
    rw [hused]
    exact ⟨hbit, hone.trans (by rw [Bool.and_eq_true, decide_eq_true_iff, references_iff])⟩

end Sys2Proof.Machine

namespace Sys2Proof.Machine

/-! ## Pixels (R168 to R173) -/

/-! ### Blending (R171) -/

theorem cover_cases (cover : BitVec 2) : cover.toNat = 0 ∨ cover.toNat = 1 ∨ cover.toNat = 2 ∨ cover.toNat = 3 := by
  have := cover.isLt
  omega

theorem blend_toNat (c v : Byte) (cover : BitVec 2) : (blend c v cover).toNat =
    (c.toNat * (85 * cover.toNat) + v.toNat * (255 - 85 * cover.toNat) + 127) / 255 := by
  have hc := c.isLt
  have hv := v.isLt
  rcases cover_cases cover with h | h | h | h <;>
    (simp only [blend, h, BitVec.toNat_ofNat]; omega)

/-- The blended component is the exact quotient to the nearest whole number (R171). -/
theorem blend_nearest (c v : Byte) (cover : BitVec 2) :
    let a : Int := 85 * cover.toNat
    let exact : Int := c.toNat * a + v.toNat * (255 - a)
    255 * ((blend c v cover).toNat : Int) - exact ≤ 127 ∧ exact - 255 * ((blend c v cover).toNat : Int) ≤ 127 := by
  rw [blend_toNat]
  rcases cover_cases cover with h | h | h | h <;>
    (rw [h]; dsimp only; omega)

theorem blend_full (c v : Byte) : blend c v 3 = c := by
  have hcover : (3 : BitVec 2).toNat = 3 := rfl
  refine BitVec.eq_of_toNat_eq ?_
  rw [blend_toNat, hcover]
  omega

theorem blend_none (c v : Byte) : blend c v 0 = v := by
  have hcover : (0 : BitVec 2).toNat = 0 := rfl
  refine BitVec.eq_of_toNat_eq ?_
  rw [blend_toNat, hcover]
  omega

theorem blendRGB_none (c v : RGB) : blendRGB c v 0 = v := by simp only [blendRGB, blend_none]

/-! ### Glyphs drawn over a pixel (R170) -/

section
variable {f : FrameContent} {row col : Nat}

theorem inkOver_off {k : Ink} (h : ¬ (k.left ≤ col ∧ col < k.left + k.width)) (under : RGB) :
    inkOver f row col under k = under := if_neg h

theorem inkOver_absent {k : Ink} (h : ∀ g, glyphOf f.glyphs k.code = some g → g.width ≤ col - k.left) (under : RGB) :
    inkOver f row col under k = under := by
  unfold inkOver
  split
  next =>
    split
    next => rfl
    next g hg => rw [Glyph.coverAt, if_neg (Nat.not_lt.2 (h g hg)), blendRGB_none]
  next => rfl

theorem inkOver_glyph {k : Ink} (hk : k.left ≤ col ∧ col < k.left + k.width) {g : Glyph}
    (hg : glyphOf f.glyphs k.code = some g) (hcol : col - k.left < g.width) {i : Fin 8}
    (hi : i.val = if col < k.wipe then k.entry else 0) (under : RGB) :
    inkOver f row col under k = blendRGB (f.palette.get i) under (g.coverage.getD (row * g.width + (col - k.left)) 0) := by
  have hentry : Fin.ofNat 8 (if col < k.wipe then k.entry else 0) = i := by
    rw [← hi]
    exact Fin.ofNat_val_eq_self i
  simp only [inkOver, if_pos hk, hg, hentry, Glyph.coverAt, if_pos hcol]

theorem inks_off {inks : List Ink} (h : ∀ k ∈ inks, ¬ (k.left ≤ col ∧ col < k.left + k.width)) (under : RGB) :
    inks.foldl (inkOver f row col) under = under := by
  induction inks with
  | nil => rfl
  | cons k rest ih =>
    rw [List.foldl_cons, inkOver_off (h k List.mem_cons_self), ih fun j hj => h j (List.mem_cons_of_mem _ hj)]

/-- A pixel covered by one glyph alone. -/
theorem inks_one {before after : List Ink} (k : Ink)
    (h : ∀ j ∈ before ++ after, ¬ (j.left ≤ col ∧ col < j.left + j.width)) (under : RGB) :
    (before ++ k :: after).foldl (inkOver f row col) under = inkOver f row col under k := by
  rw [List.foldl_append, List.foldl_cons, inks_off fun j hj => h j (List.mem_append_left _ hj),
    inks_off fun j hj => h j (List.mem_append_right _ hj)]

end

/-! ### What a row record draws (R160, R161, R173) -/

theorem mem_rowInk_line (f : FrameContent) {glyphs : List PlacedGlyph} {syllables : List WipedSyllable}
    (h : ∀ p ∈ glyphs, p.syllable < syllables.length) (k : Ink) :
    k ∈ rowInk f (.line glyphs syllables) ↔ ∃ p ∈ glyphs, ∃ y, p.drawn = true ∧ syllables[p.syllable]? = some y ∧
      k = ⟨p.code, p.left, p.width, y.wipe, y.colour⟩ := by
  simp only [rowInk, List.mem_map, List.mem_filter]
  constructor
  · rintro ⟨p, ⟨hp, hdrawn⟩, rfl⟩
    refine ⟨p, hp, _, hdrawn, List.getElem?_eq_getElem (h p hp), ?_⟩
    simp only [List.getD_eq_getElem?_getD, List.getElem?_eq_getElem (h p hp), Option.getD_some]
  · rintro ⟨p, hp, y, hdrawn, hy, rfl⟩
    refine ⟨p, ⟨hp, hdrawn⟩, ?_⟩
    simp only [List.getD_eq_getElem?_getD, hy, Option.getD_some]

theorem wipedSyllables_place {m : ImageMemory} {l : ShownLine} {n j : Nat} {p : PlacedSyllable} (t : Nat)
    (hj : (lineSyllables m l.index)[n]? = some j) (hp : l.syllables[n]? = some p) : (wipedSyllables m t l)[n]? =
      some ⟨p.left, p.width, wipeColumn t (syllableAt m j) p, sungColour (syllableAt m j).mask⟩ := by
  simp only [wipedSyllables, List.getElem?_zipWith, hj, hp]

theorem sungColour_one (q : Fin 4) : sungColour (2 ^ q.val) = q.val + 1 := by fin_cases q <;> rfl

theorem sungColour_several {mask : Nat} (h : ∀ q : Fin 4, mask ≠ 2 ^ q.val) : sungColour mask = 5 := by
  unfold sungColour
  split
  case h_5 => rfl
  · exact absurd rfl (h 0)
  · exact absurd rfl (h 1)
  · exact absurd rfl (h 2)
  · exact absurd rfl (h 3)

theorem rowInk_result {f : FrameContent} (h : f.digitBase ≠ 0) (part score : Nat) :
    rowInk f (.result (some ⟨part, some score⟩)) = centredRun f.glyphs (resultRun f.digitBase part score) := if_neg h

theorem resultRun_below {score : Nat} (h : score < 10000) (base part : Nat) : resultRun base part score =
    (base + 11, part) :: [score / 1000, score / 100 % 10, 10, score / 10 % 10, score % 10].map fun d => (base + d, 7) := by
  rw [resultRun, if_neg h.ne]

/-! ### A run laid out anew (R172, R173) -/

/-- The glyph at each place of a run, where it ends by column 1,859. -/
theorem mem_layRun {g : GlyphStore} {left : Nat} {run : List (Nat × Nat)} {k : Ink} : k ∈ layRun g left run ↔
    ∃ n c e, run[n]? = some (c, e) ∧
      left + ((run.map fun x => glyphWidth g x.1).take n).sum + glyphWidth g c ≤ 1860 ∧
      k = ⟨c, left + ((run.map fun x => glyphWidth g x.1).take n).sum, glyphWidth g c,
        left + ((run.map fun x => glyphWidth g x.1).take n).sum + glyphWidth g c, e⟩ := by
  induction run generalizing left with
  | nil => simp [layRun]
  | cons x rest ih =>
    obtain ⟨c, e⟩ := x
    rw [layRun, List.mem_append, ih]
    refine Iff.trans ?_ Nat.or_exists_add_one
    simp only [List.getElem?_cons_zero, List.getElem?_cons_succ, List.map_cons, List.take_zero, List.sum_nil, Nat.add_zero,
      List.take_succ_cons, List.sum_cons, ← Nat.add_assoc]
    refine or_congr ⟨fun h => ?_, ?_⟩ Iff.rfl
    · obtain ⟨hfits, hk⟩ := List.mem_ite_nil_right.1 h
      exact ⟨c, e, rfl, hfits, List.mem_singleton.1 hk⟩
    · rintro ⟨_, _, ⟨⟩, hfits, rfl⟩
      exact List.mem_ite_nil_right.2 ⟨hfits, List.mem_singleton_self _⟩

theorem mem_centredRun (g : GlyphStore) (run : List (Nat × Nat)) (k : Ink) :
    let kept := run.filter fun x => (glyphOf g x.1).isSome
    let widths := kept.map fun x => glyphWidth g x.1
    let left (n : Nat) := (if widths.sum ≤ 1800 then 60 + (1800 - widths.sum) / 2 else 60) + (widths.take n).sum
    k ∈ centredRun g run ↔ ∃ n c e, kept[n]? = some (c, e) ∧ left n + glyphWidth g c ≤ 1860 ∧
      k = ⟨c, left n, glyphWidth g c, left n + glyphWidth g c, e⟩ := by
  intro kept widths left
  have hwidth : runWidth g (kept.map (·.1)) = widths.sum := by
    rw [runWidth, List.map_map]
    rfl
  rw [centredRun, hwidth]
  exact mem_layRun

/-! ### Bands and what stands in them (R168, R169, R172) -/

/-- The input frame's pixel, black without one (R168). -/
def FrameContent.videoPixel (f : FrameContent) (col line : Nat) : RGB :=
  match f.video with
  | none => ⟨0, 0, 0⟩
  | some v => (v.getD line []).getD col ⟨0, 0, 0⟩

/-- A colour halved (R168). -/
def halved (c : RGB) : RGB := ⟨c.red >>> 1, c.green >>> 1, c.blue >>> 1⟩

/-- Row slot `k` stands in band `b` with one of its 48 lines on `line` (R169). -/
@[reducible] def FrameContent.standsOn (f : FrameContent) (b : Fin 8) (line : Nat) (k : Fin 4) : Prop :=
  (f.placement.get k).band = b.val ∧ 135 * b.val + (f.placement.get k).offset ≤ line ∧
    line < 135 * b.val + (f.placement.get k).offset + 48

section
variable {f : FrameContent} {col line : Nat} {b : Fin 8} (hlo : 135 * b.val ≤ line) (hhi : line < 135 * b.val + 135)
include hlo hhi

theorem band_of_line : Fin.ofNat 8 (line / 135) = b := by
  have hband : line / 135 = b.val := by omega
  rw [hband]
  exact Fin.ofNat_val_eq_self b

theorem backgroundPixel_band : backgroundPixel f col line = (match f.bands.get b with
    | .dim => halved (f.videoPixel col line)
    | .blank => ⟨0, 0, 0⟩
    | _ => f.videoPixel col line) := by
  simp only [backgroundPixel, band_of_line hlo hhi]
  rfl

theorem framePixel_banner (h : f.bands.get b = .banner) : framePixel f col line =
    if 135 * b.val + 43 ≤ line ∧ line < 135 * b.val + 91 then
      (bannerInk f).foldl (inkOver f (line - 135 * b.val - 43) col) (f.videoPixel col line)
    else f.videoPixel col line := by
  have hmod : line % 135 = line - 135 * b.val := by omega
  simp only [framePixel, band_of_line hlo hhi, backgroundPixel_band hlo hhi, h, if_true, hmod]
  congr 1
  rw [eq_iff_iff]
  omega

theorem framePixel_rows (h : f.bands.get b ≠ .banner) :
    framePixel f col line = rowNumbers.foldl (rowOver f col line) (backgroundPixel f col line) := by
  rw [framePixel, band_of_line hlo hhi, if_neg h]

omit hlo hhi in
/-- A row slot is drawn over the lines where it stands in a LYRIC or DIM band (R169). -/
theorem rowOver_stands {k : Fin 4} (hcode : f.bands.get b = .lyric ∨ f.bands.get b = .dim) (hk : f.standsOn b line k)
    (under : RGB) : rowOver f col line under k =
      (rowInk f (f.rows.get k)).foldl (inkOver f (line - 135 * b.val - (f.placement.get k).offset) col) under := by
  obtain ⟨hb, htop, hbottom⟩ := hk
  have hplace : Fin.ofNat 8 b.val = b := Fin.ofNat_val_eq_self b
  simp only [rowOver, hb, hplace]
  rw [if_pos ⟨hcode, htop, hbottom⟩, Nat.sub_sub]

section
variable (hplaced : ∀ k : Fin 4, (f.placement.get k).band ≤ 7 ∧ (f.placement.get k).offset ≤ 87)
include hplaced

/-- Placed at an offset of at most 87, a row slot stays within its band (R169). -/
theorem rowOver_other {k : Fin 4} (hk : ¬ ((f.bands.get b = .lyric ∨ f.bands.get b = .dim) ∧ f.standsOn b line k))
    (under : RGB) : rowOver f col line under k = under := by
  refine if_neg fun ⟨hcode, htop, hbottom⟩ => hk ?_
  obtain ⟨_, hoffset⟩ := hplaced k
  have hb : (f.placement.get k).band = b.val := by omega
  have hplace : Fin.ofNat 8 b.val = b := Fin.ofNat_val_eq_self b
  rw [hb, hplace] at hcode
  exact ⟨hcode, hb, by omega, by omega⟩

theorem framePixel_plain (h : f.bands.get b ≠ .banner)
    (hrows : ∀ k, ¬ ((f.bands.get b = .lyric ∨ f.bands.get b = .dim) ∧ f.standsOn b line k)) :
    framePixel f col line = backgroundPixel f col line := by
  rw [framePixel_rows hlo hhi h]
  exact List.foldl_fixed' (fun k => rowOver_other hlo hhi hplaced (hrows k) _) _

/-- The rows that stand on a line of a LYRIC or DIM band are drawn over it in slot order (R169). -/
theorem framePixel_standing (hcode : f.bands.get b = .lyric ∨ f.bands.get b = .dim) : framePixel f col line =
    (([0, 1, 2, 3] : List (Fin 4)).filter fun k => decide (f.standsOn b line k)).foldl (fun pixel k =>
      (rowInk f (f.rows.get k)).foldl (inkOver f (line - 135 * b.val - (f.placement.get k).offset) col) pixel)
      (backgroundPixel f col line) := by
  have hbanner : f.bands.get b ≠ .banner := by rcases hcode with h | h <;> simp [h]
  rw [framePixel_rows hlo hhi hbanner, List.foldl_filter, rowNumbers]
  congr 1
  funext under k
  by_cases hk : f.standsOn b line k
  · rw [rowOver_stands hcode hk, if_pos (decide_eq_true hk)]
  · rw [rowOver_other hlo hhi hplaced (fun h => hk h.2), if_neg (by simpa using hk)]

end

end

/-- Settles O57: the blend, one glyph over a pixel, what each record draws, and the bands. -/
theorem pixelsAreBlended : Obligations.PixelsAreBlended := by
  refine ⟨blend_nearest, fun c v => ⟨blend_full c v, blend_none c v⟩, ?_,
    fun f row col under inks => ⟨fun h => inks_off h under, ?_⟩, fun f glyphs syllables => mem_rowInk_line f,
    fun m t l n j p => wipedSyllables_place t, fun mask _ => ⟨fun q hq => hq ▸ sungColour_one q, fun i j hij hi hj => ?_⟩,
    fun f part score => ⟨rfl, rfl, rfl, fun h => if_pos h, fun h => ⟨fun hscore => ?_, fun hscore => ?_⟩⟩,
    mem_centredRun⟩
  · intro f col line _ hplaced video b hlo hhi
    have background := backgroundPixel_band (f := f) (col := col) hlo hhi
    have plain := framePixel_plain (col := col) hlo hhi hplaced
    have banner := framePixel_banner (f := f) (col := col) hlo hhi
    refine ⟨fun h => ?_, fun h => ?_, fun h hline => ?_, fun h hnone => ?_, fun h => ?_, fun h htop hbottom => ?_⟩
    · rw [plain (by simp [h]) (by simp [h]), background, h]
      rfl
    · rw [plain (by simp [h]) (by simp [h]), background, h]
    · rw [banner h, if_neg (by omega)]
      rfl
    · rw [plain (by simp [h]) fun k ⟨_, hb, hfrom, hto⟩ => by have := hnone k hb; omega, background, h]
      rfl
    · rw [framePixel_standing hlo hhi hplaced h, background]
      rcases h with h | h <;> rw [h] <;> rfl
    · rw [banner h, if_pos ⟨htop, hbottom⟩]
      exact ⟨fun hb => by rw [bannerInk, hb]; rfl, fun title hb => by rw [bannerInk, hb]; rfl⟩
  · rintro before k after rfl hk hothers
    rw [inks_one k hothers]
    exact ⟨fun g hg hcol i hi => inkOver_glyph hk hg hcol hi under, fun h => inkOver_absent h under⟩
  · refine sungColour_several fun q hq => ?_
    rw [hq, Nat.testBit_two_pow, decide_eq_true_iff] at hi hj
    omega
  · exact (rowInk_result h part score).trans (congrArg _ (resultRun_below hscore _ _))
  · subst hscore
    exact rowInk_result h part 10000

end Sys2Proof.Machine

namespace Sys2Proof.Machine

/-! ## The glyph store's messages (R174 to R177) -/

/-! ### What the store holds for a code (R174) -/

section
variable (g : GlyphStore)

theorem glyphOf_append (h : GlyphStore) (d : Nat) : glyphOf (g ++ h) d = (glyphOf g d).or (glyphOf h d) := by
  simp only [glyphOf, List.find?_append, Option.map_or]

theorem glyphOf_cons_same (c : Nat) (x : Glyph) : glyphOf ((c, x) :: g) c = some x := by simp [glyphOf]

theorem glyphOf_cons_other {c d : Nat} (h : d ≠ c) (x : Glyph) : glyphOf ((c, x) :: g) d = glyphOf g d := by
  simp [glyphOf, h.symm]

/-- A part of the store chosen by codes holds a chosen code's glyph and no other's. -/
theorem glyphOf_filter (p : Nat → Bool) (d : Nat) :
    glyphOf (g.filter fun e => p e.1) d = if p d then glyphOf g d else none := by
  have only (e : Nat × Glyph) : decide (p e.1 = true ∧ (e.1 == d) = true) = (p d && e.1 == d) := by
    by_cases h : e.1 = d <;> simp [h]
  rw [glyphOf, List.find?_filter, funext only]
  cases p d with
  | false => simp
  | true => rfl

theorem glyphOf_glyphRemove_same (c : Nat) : glyphOf (glyphRemove g c) c = none := by
  rw [glyphRemove, glyphOf_filter g (· != c)]
  simp

theorem glyphOf_glyphRemove_other {c d : Nat} (h : d ≠ c) : glyphOf (glyphRemove g c) d = glyphOf g d := by
  rw [glyphRemove, glyphOf_filter g (· != c)]
  simp [h]

theorem glyphOf_glyphPut_same (c : Nat) (x : Glyph) : glyphOf (glyphPut g c x) c = some x := by
  rw [glyphPut, glyphOf_append, glyphOf_filter g (decide <| · < c), glyphOf_cons_same]
  simp

theorem glyphOf_glyphPut_other {c d : Nat} (h : d ≠ c) (x : Glyph) : glyphOf (glyphPut g c x) d = glyphOf g d := by
  rw [glyphPut, glyphOf_append, glyphOf_cons_other _ h, glyphOf_filter g (decide <| · < c),
    glyphOf_filter g (decide <| c < ·)]
  rcases Nat.lt_or_gt_of_ne h with below | above
  · simp [below, below.not_gt]
  · simp [above, above.not_gt]

end

/-! ### Packed coverage (R213) -/

theorem unpackCoverage_cons (b : Byte) (rest : List Byte) : unpackCoverage (b :: rest) =
    [b.setWidth 2, (b >>> 2).setWidth 2, (b >>> 4).setWidth 2, (b >>> 6).setWidth 2] ++ unpackCoverage rest :=
  List.flatMap_cons

theorem unpackCoverage_length (bytes : List Byte) : (unpackCoverage bytes).length = 4 * bytes.length := by
  induction bytes with
  | nil => rfl
  | cons b rest ih =>
    simp only [unpackCoverage_cons, List.length_append, ih, List.length_cons, List.length_nil]
    omega

/-- Pixel j of byte k stands in its bits 2j + 1 and 2j. -/
theorem unpackCoverage_pixel {bytes : List Byte} {k j : Nat} (hk : k < bytes.length) (hj : j < 4) :
    (unpackCoverage bytes).getD (4 * k + j) 0 = ((bytes.getD k 0) >>> (2 * j)).setWidth 2 := by
  induction bytes generalizing k with
  | nil => exact absurd hk (Nat.not_lt_zero k)
  | cons b rest ih =>
    rw [unpackCoverage_cons]
    cases k with
    | zero =>
      rw [List.getD_append _ _ _ _ (by simpa using hj)]
      interval_cases j <;> simp
    | succ k =>
      rw [List.getD_append_right _ _ _ _ (by simp; omega), List.getD_cons_succ, ← ih (Nat.lt_of_succ_lt_succ hk)]
      congr 1
      simp
      omega

/-! ### The three messages as their owner takes them (R175 to R177) -/

theorem storeInUse_iff (s : State) :
    s.storeInUse = true ↔ ∃ n : SlotName, (s.slot n).state = .staged ∨ (s.slot n).state = .active := by
  rw [SlotName.exists_iff]
  simp [State.storeInUse, State.slot]

section
variable {s : State} {c : Nat}

theorem takeGlyphLoad_badValue {w : Nat} (bad : c < 1 ∨ 4095 < c ∨ w < 4 ∨ 64 < w) (v : List Byte) :
    takeGlyphLoad s c w v = refuse s .badValue := if_pos bad

section
variable {w : Nat} (good : ¬ (c < 1 ∨ 4095 < c ∨ w < 4 ∨ 64 < w))
include good

theorem takeGlyphLoad_full (full : glyphCapacity < glyphBytes (glyphRemove s.cmp.glyphs c) + 12 * w) (v : List Byte) :
    takeGlyphLoad s c w v = refuse s .full := (if_neg good).trans (if_pos full)

theorem takeGlyphLoad_held (fits : glyphBytes (glyphRemove s.cmp.glyphs c) + 12 * w ≤ glyphCapacity) (v : List Byte) :
    takeGlyphLoad s c w v =
      accept (s.setCmp { s.cmp with glyphs := glyphPut s.cmp.glyphs c ⟨w, unpackCoverage v⟩ })
        (flag8 (glyphOf s.cmp.glyphs c).isSome ++ storeData (glyphPut s.cmp.glyphs c ⟨w, unpackCoverage v⟩)) :=
  (if_neg good).trans (if_neg fits.not_gt)

end

theorem takeGlyphDrop_badValue (bad : c < 1 ∨ 4095 < c) : takeGlyphDrop s c = refuse s .badValue := if_pos bad

section
variable (good : ¬ (c < 1 ∨ 4095 < c))
include good

theorem takeGlyphDrop_notFound (absent : glyphOf s.cmp.glyphs c = none) : takeGlyphDrop s c = refuse s .notFound :=
  (if_neg good).trans (if_pos (Option.isNone_iff_eq_none.2 absent))

variable (held : glyphOf s.cmp.glyphs c ≠ none)
include held

theorem takeGlyphDrop_badState (used : s.references c = true) : takeGlyphDrop s c = refuse s .badState :=
  (if_neg good).trans ((if_neg (mt Option.isNone_iff_eq_none.1 held)).trans (if_pos used))

theorem takeGlyphDrop_dropped (free : ¬ s.references c = true) : takeGlyphDrop s c =
    accept (s.setCmp { s.cmp with glyphs := glyphRemove s.cmp.glyphs c }) (storeData (glyphRemove s.cmp.glyphs c)) :=
  (if_neg good).trans ((if_neg (mt Option.isNone_iff_eq_none.1 held)).trans (if_neg free))

end

theorem takeGlyphClear_badState (used : s.storeInUse = true) : takeGlyphClear s = refuse s .badState := if_pos used

theorem takeGlyphClear_cleared (free : ¬ s.storeInUse = true) :
    takeGlyphClear s = accept (s.setCmp { s.cmp with glyphs := [] }) [] := if_neg free

end

/-! ### The messages answered (R175 to R177) -/

theorem glyphLoad_payload_length {code : Half} {width : Byte} {coverage : List Byte}
    (h : coverage.length = 12 * width.toNat) (hw : width.toNat ≤ 91) :
    (Request.glyphLoad code width coverage).payload.length ≤ 1100 := by
  simp only [Request.payload, List.length_append, le16_length, List.length_singleton]
  omega

/-- Settles O55: what the owner does with each message, and what the changed store holds for each code. -/
theorem glyphMessages : Obligations.GlyphMessages := by
  refine ⟨fun s tag width code coverage hlink hlen hw => ?_, fun s tag code hlink => ?_, fun s tag hlink => ?_⟩
  · have keeps : (Request.glyphLoad code width coverage).keepsLength = true := beq_iff_eq.2 hlen
    have short := glyphLoad_payload_length (code := code) hlen hw
    refine ⟨fun bad => ?_, fun good full => ?_, fun good fits => ?_⟩
    · exact sendRequest_refused s tag _ .badValue hlink nofun keeps short (takeGlyphLoad_badValue bad coverage)
    · exact sendRequest_refused s tag _ .full hlink nofun keeps short (takeGlyphLoad_full good full coverage)
    · refine ⟨glyphPut s.cmp.glyphs code.toNat ⟨width.toNat, unpackCoverage coverage⟩, _, rfl,
        ?_, fun k hk j hj => unpackCoverage_pixel (hlen ▸ hk) hj, glyphOf_glyphPut_same .., fun d hd =>
        glyphOf_glyphPut_other _ hd _, glyphBytes_glyphPut ..,
        sendRequest_taken s tag _ _ .ok _ hlink nofun keeps short (takeGlyphLoad_held good fits coverage) rfl⟩
      rw [unpackCoverage_length, hlen]
      omega
  · have short : (Request.glyphDrop code).payload.length ≤ 1100 := by simp [Request.payload, le16_length]
    have good (hlo : 1 ≤ code.toNat) (hhi : code.toNat ≤ 4095) : ¬ (code.toNat < 1 ∨ 4095 < code.toNat) := by omega
    refine ⟨fun bad => ?_, fun hlo hhi absent => ?_, fun hlo hhi held used => ?_, fun hlo hhi held free =>
      ⟨glyphOf_glyphRemove_same .., fun d hd => glyphOf_glyphRemove_other _ hd, ?_⟩⟩
    · exact sendRequest_refused s tag _ .badValue hlink nofun rfl short (takeGlyphDrop_badValue bad)
    · exact sendRequest_refused s tag _ .notFound hlink nofun rfl short (takeGlyphDrop_notFound (good hlo hhi) absent)
    · exact sendRequest_refused s tag _ .badState hlink nofun rfl short
        (takeGlyphDrop_badState (good hlo hhi) held ((references_iff s _).2 used))
    · exact sendRequest_taken s tag _ _ .ok _ hlink nofun rfl short
        (takeGlyphDrop_dropped (good hlo hhi) held (mt (references_iff s _).1 free)) rfl
  · have short : Request.glyphClear.payload.length ≤ 1100 := Nat.zero_le _
    refine ⟨fun used => ?_, fun free => ?_⟩
    · exact sendRequest_refused s tag .glyphClear .badState hlink nofun rfl short
        (takeGlyphClear_badState ((storeInUse_iff s).2 used))
    · exact sendRequest_taken s tag .glyphClear _ .ok _ hlink nofun rfl short
        (takeGlyphClear_cleared (mt (storeInUse_iff s).1 free)) rfl

end Sys2Proof.Machine

namespace Sys2Proof.Machine

/-! ## The Control Link and the pending notice in step (R185, R191, R192, R196, R205)

Within an arrival the link is in step but for the transmitter's choice, which the arrival's end makes. The blocks leave the
link alone, but for the link error latch that ATTENTION_ACK may clear, and touch the Attention Unit by raises, which latch a
member with each notice they make pending. -/

/-! ### The pending notice (R202, R203, R205) -/

section
variable {a : Attention} (h : a.lawful)

theorem Member.single_ne_zero (m : Member) : m.single ≠ 0 := by cases m <;> decide

include h in
/-- A raise that makes a notice pending latches its member (R202). -/
@[simp] theorem Attention.lawful.raise (m : Member) : (a.raise m).lawful := by
  unfold Attention.raise
  split_ifs
  · exact h
  · exact h
  · exact fun _ hzero => m.single_ne_zero (BitVec.or_eq_zero_iff.1 hzero).2

theorem Attention.lawful_acknowledge (a : Attention) (named : AttentionSet) : (a.acknowledge named).lawful := fun hpending => by
  simp only [Attention.acknowledge, Attention.withLatched, Bool.and_eq_true, bne_iff_ne] at hpending
  exact hpending.2

theorem Attention.lawful_of_none (hnone : a.noticePending = false) : a.lawful := by simp [Attention.lawful, hnone]

end

section
variable {s : State} (h : s.att.lawful)
include h

@[simp] theorem notice_raiseIf (c : Bool) (m : Member) : (s.raiseIf c m).att.lawful := by
  cases c
  · exact h
  · exact h.raise m

/-! ### Songs cued and finished (R74, R76, R96) -/

theorem notice_cue (e : Entry) : (s.cue e).att.lawful := by
  cases hn : s.slotHolding e.id with
  | none => rwa [cue_unheld hn]
  | some n =>
    rw [cue_eq hn]
    exact (h.raise _).raise _

@[simp] theorem notice_autoAdvance : s.autoAdvance.att.lawful := by
  rcases autoAdvance_cases s with hsame | ⟨e, _, _, _, _, hcue⟩
  · rwa [hsame]
  · rw [hcue]
    exact notice_cue h e

theorem notice_shelve (k : FinishKind) : (s.shelve k).att.lawful := by
  unfold State.shelve
  split
  · exact h.raise _
  · exact h

@[simp] theorem notice_finish (k : FinishKind) : (s.finish k).att.lawful :=
  notice_autoAdvance (s := s.finishSong k) (by simpa [State.finishSong] using (notice_shelve h k).raise .songEnded)

@[simp] theorem notice_finishAtOnce (k : FinishKind) : (s.finishAtOnce k).att.lawful := by
  unfold State.finishAtOnce
  split
  · exact notice_finish h k
  · exact h

@[simp] theorem notice_enterResult (k : FinishKind) : (s.enterResult k).att.lawful :=
  notice_finishAtOnce (s := s.resultEntry k) h k

/-! ### Records and messages -/

@[simp] theorem notice_newEntry (song : Nat) (lane : QueueLane) (origin : Origin) (list : List Requester) (p : Nat) :
    (s.newEntry song lane origin list p).att.lawful :=
  (notice_raiseIf (s := s.setRq (s.rq.make song lane origin list p)) h _ _).raise _

@[simp] theorem notice_releasePad (pad : Nat) : (s.releasePad pad).att.lawful := by
  rw [releasePad_eq]
  refine notice_autoAdvance ?_
  rw [padReleased_att]
  split
  · exact h.raise _
  · exact h

theorem notice_takeRequest (pad song part : Nat) (rush : Bool) : (takeRequest s pad song part rush).1.att.lawful := by
  unfold takeRequest
  simp only
  repeat' split
  all_goals simp [h]

theorem notice_takeWithdraw (pad song : Nat) : (takeWithdraw s pad song).1.att.lawful := by
  unfold takeWithdraw
  simp only
  repeat' split
  all_goals simp [h]

theorem notice_takeAttentionAck (x : Half) : (takeAttentionAck s x).state.att.lawful := by
  unfold takeAttentionAck
  split
  · exact h
  · simp only
    split <;> exact Attention.lawful_acknowledge s.att _

omit h in
@[simp] theorem rebuild_att (s : State) : s.rebuild.att = s.att := by
  unfold State.rebuild
  split <;> rfl

omit h in
@[simp] theorem setEntryState_att (s : State) (id : Nat) (st : EntryState) : (s.setEntryState id st).att = s.att := rfl

theorem notice_takeResolve (id verdict parts : Nat) (title : List Nat) :
    (takeResolve s id verdict parts title).state.att.lawful := by
  unfold takeResolve
  simp only
  repeat' split
  · exact h
  · exact h
  · exact h
  · exact h.raise _
  · exact notice_autoAdvance (s := State.raise _ _) (h.raise _)

theorem notice_takeQueueMove (id lane lanePos : Nat) : (takeQueueMove s id lane lanePos).state.att.lawful := by
  unfold takeQueueMove
  simp only
  repeat' split
  · exact h
  · exact h
  · exact h
  · exact h
  · refine notice_autoAdvance (notice_raiseIf ?_ _ _)
    exact h

theorem notice_takePadRelease (a : Nat) : (takePadRelease s a).state.att.lawful := by
  unfold takePadRelease
  repeat' split
  · exact h
  · exact h
  · exact notice_releasePad (s := s.setPad _ freeRecord) h a

theorem notice_takeTransportSet (a y e l r : Nat) : (takeTransportSet s a y e l r).state.att.lawful := by
  unfold takeTransportSet
  split
  · exact h
  · exact notice_autoAdvance (s := s.setTr _) h

/-- ATTENTION_ACK cancels the notice with the last member; every other owner raises members or leaves the latched set. -/
theorem notice_handle (r : Request) : (handle s r).state.att.lawful := by
  cases r with
  | attentionAck x => exact notice_takeAttentionAck h x
  | attentionMask x =>
    simp only [handle, takeAttentionMask]
    split <;> exact h
  | resolve i v p t => exact notice_takeResolve h _ _ _ _
  | queueMove i l p => exact notice_takeQueueMove h _ _ _
  | padRelease a => exact notice_takePadRelease h _
  | transportSet a y e l r => exact notice_takeTransportSet h _ _ _ _ _
  | echo | softReset | attentionRead | transportRead | layoutRead | rate | key | layoutSet => exact h
  | _ =>
    -- the owners of the rest refuse, read, or change the state by operations that keep the notice lawful
    simp only [handle, takeQueueAdd, takeQueueCancel, takeQueueRead, takeHistoryRead, takePolicy, takePadAdmit, takePadRead,
      takePadBus, takeSlotOpen, takeSlotData, takeSlotSeal, takeSlotDiscard, takeSlotRead, takeStart, takeSync, syncRunning,
      takePause, takeResume, takeStop, takeMicSet, takeMicRead, takeBind, takeScoreSet, takeLaneRead, takeBandMap,
      takeRowPlace, takePalette, takeBannerSet, takeGlyphLoad, takeGlyphDrop, takeGlyphClear, takeCompositorRead, accept,
      refuse]
    repeat' split
    all_goals simp [h, notice_cue]

/-! ### Events -/

theorem notice_completeValidation (n : SlotName) : (completeValidation s n).att.lawful := by
  unfold completeValidation
  simp only
  split
  · refine notice_autoAdvance ?_
    split <;> simp [h]
  · exact h

theorem notice_transportBlock : (transportBlock s).att.lawful := by
  cases hs : s.tr.state
  case idle => rwa [transportBlock_still (.inl hs)]
  case paused => rwa [transportBlock_still (.inr hs)]
  case cued =>
    rw [transportBlock_cued hs]
    refine notice_raiseIf ?_ _ _
    exact h
  case hold =>
    cases hg : s.tr.givesUp
    · rwa [transportBlock_holding hs hg]
    · rwa [transportBlock_holdLimit s hg]
  case result =>
    cases hr : s.tr.resultSpent
    · rwa [transportBlock_showing hs hr]
    · rw [transportBlock_resultSpent hr]
      refine notice_finish ?_ _
      exact h
  all_goals
    simp only [transportBlock, hs]
    repeat' split
    all_goals simp [h]

theorem notice_recordsTaken (x : BlockInput) : (recordsTaken x s).att.lawful := by
  have given (b : Bool) : ({ (transportBlock s).att with micAbsentHolds := b } : Attention).lawful := notice_transportBlock h
  simp only [recordsTaken, scoringBlock_att, micBlock]
  exact notice_raiseIf (notice_raiseIf (s := State.setAtt _ _) (given _) _ _) _ _

theorem notice_blockEvent (x : BlockInput) : (blockEvent x s).att.lawful := by
  rw [blockEvent_att]
  rcases finishOwed_cases s.tr (recordsTaken x s) with ⟨k, _, _, hfinish⟩ | ⟨_, hsame⟩
  · rw [hfinish]
    exact notice_finish (notice_recordsTaken h x) k
  · rw [hsame]
    exact notice_recordsTaken h x

theorem notice_goodCompletion (i : Fin 8) (r : UplinkRecord) : (s.goodCompletion i r).att.lawful := by
  unfold State.goodCompletion State.filterRecord
  simp only
  split
  · split
    · exact notice_takeRequest (s := s.setPad i _) h _ _ _ _
    · exact h
  · split
    · exact notice_takeWithdraw (s := s.setPad i _) h _ _
    · exact h
  · exact h

theorem notice_faultyCompletion (i : Fin 8) : (s.faultyCompletion i).att.lawful := notice_raiseIf (s := s.setPad i _) h _ _

theorem notice_joinFrame (ex : Exchange) (f : UplinkFrame) : (s.joinFrame ex f).att.lawful := by
  unfold State.joinFrame takeJoin
  simp only
  repeat' split
  all_goals simp [h]

theorem notice_completeExchange (ex : Exchange) (r : Reception) : (s.completeExchange ex r).att.lawful := by
  unfold State.completeExchange
  repeat' split
  · exact h
  · exact h
  · exact notice_joinFrame h ex _
  · simpa using h
  · simpa using notice_faultyCompletion h _
  · simpa using notice_goodCompletion h _ _
  · simpa using notice_faultyCompletion h _

theorem notice_frameStart : (frameStart s).att.lawful := by
  have given (b : Bool) : ({ s.att with videoLostHolds := b } : Attention).lawful := h
  rw [frameStart_eq]
  cases hl : s.cmp.losesVideo <;> simp [State.frameSettled, Attention.videoGiven, given, hl]

end

/-! ### What the blocks leave of the link -/

/-- An owner leaves the link alone, but for the link error latch that ATTENTION_ACK may clear (R190, R207). -/
theorem handle_link (s : State) (r : Request) : ∃ e, (handle s r).state.link = { s.link with linkError := e } := by
  by_cases hr : ∃ x, r = .attentionAck x
  · obtain ⟨x, rfl⟩ := hr
    simp only [handle, takeAttentionAck]
    repeat' split
    all_goals exact ⟨_, rfl⟩
  · exact ⟨_, congrArg (·.state.link) (handle_setLink s s.link r (not_exists.1 hr))⟩

theorem answerTo_link (s : State) (m : Message) : ∃ e, (answerTo s m).state.link = { s.link with linkError := e } := by
  unfold answerTo
  split
  · exact ⟨_, rfl⟩
  · exact ⟨_, rfl⟩
  · exact handle_link s _

theorem notice_answerTo {s : State} (h : s.att.lawful) (m : Message) : (answerTo s m).state.att.lawful := by
  unfold answerTo
  split
  · exact h
  · exact h
  · exact notice_handle h _

section
variable (s : State)

theorem completeValidation_link (n : SlotName) : (completeValidation s n).link = s.link := by
  unfold completeValidation
  simp only
  split
  · split <;> simp [State.setEntryState]
  · rfl

theorem goodCompletion_link (i : Fin 8) (r : UplinkRecord) : (s.goodCompletion i r).link = s.link := by
  have withdrawn (s : State) (pad song : Nat) : (takeWithdraw s pad song).1.link = s.link := (takeWithdraw_frame s pad song).2.2
  have requested (s : State) (pad song part : Nat) (rush : Bool) : (takeRequest s pad song part rush).1.link = s.link := by
    obtain ⟨q, a, h⟩ := takeRequest_eq s pad song part rush
    rw [h]
    rfl
  unfold State.goodCompletion State.filterRecord
  simp only
  repeat' split
  all_goals simp [requested, withdrawn]

theorem completeExchange_link (ex : Exchange) (r : Reception) : (s.completeExchange ex r).link = s.link := by
  have joined (f : UplinkFrame) : (s.joinFrame ex f).link = s.link := by
    unfold State.joinFrame takeJoin
    simp only
    repeat' split
    all_goals rfl
  unfold State.completeExchange
  repeat' split
  all_goals simp [joined, goodCompletion_link, State.faultyCompletion]

theorem frameStart_link : (frameStart s).link = s.link := by
  rw [frameStart_eq]
  rfl

end

/-! ### The link within an arrival (R187 to R192, R196) -/

/-- The link with its oldest message perhaps still to be taken: a reply is formed only while a message is held (R191,
R192), is there while being sent (R196), and the gap timer is stopped in HUNT alone (R187, R189). -/
structure ControlLink.ordered (l : ControlLink) : Prop where
  queue : l.queue.length ≤ 4
  formed : l.queue = [] → l.formed = none
  reply : l.transmitter = .reply → l.formed ≠ none
  gap : l.gapRunning = false ↔ l.receiver = .hunt

/-- The link in step, and the Attention Unit with it: the oldest message has been taken (R192). -/
structure State.inStep (s : State) : Prop where
  ordered : s.link.ordered
  taken : s.link.formed = none → s.link.queue = []
  notice : s.att.lawful

theorem linkLawful_iff {s : State} : s.linkLawful ∧ s.att.lawful ↔ s.inStep ∧ s.settled := by
  constructor
  · rintro ⟨⟨queue, formed, reply, gap, settled⟩, notice⟩
    exact ⟨⟨⟨queue, formed.2, reply, gap⟩, formed.1, notice⟩, settled⟩
  · rintro ⟨⟨⟨queue, formed, reply, gap⟩, taken, notice⟩, settled⟩
    exact ⟨⟨queue, ⟨taken, formed⟩, reply, gap, settled⟩, notice⟩

theorem ControlLink.ordered.linkError {l : ControlLink} (h : l.ordered) (e : Bool) : { l with linkError := e }.ordered :=
  ⟨h.queue, h.formed, h.reply, h.gap⟩

/-- The formed reply stands for the message taken, which stays at the queue's head until the reply has been sent. -/
theorem takeMessage_inStep {s : State} (h : s.link.ordered) (ha : s.att.lawful) (hq : s.link.queue ≠ []) (m : Message) :
    (takeMessage s m).inStep := by
  obtain ⟨e, hlink⟩ := answerTo_link s m
  have formed : (takeMessage s m).link =
      { s.link with linkError := e, formed := some (formReply m (answerTo s m)) } := by
    rw [takeMessage, State.withReply, State.setLink_link, hlink]
  refine ⟨?_, ?_, notice_answerTo ha m⟩ <;> rw [formed]
  · exact ⟨h.queue, fun hnone => absurd hnone hq, fun _ => nofun, h.gap⟩
  · exact nofun

/-- The taking of the oldest message puts the link in step. -/
theorem takeNext_inStep {s : State} (h : s.link.ordered) (ha : s.att.lawful) : (takeNext s).inStep := by
  unfold takeNext
  split
  · next m rest _ hqueue => exact takeMessage_inStep h ha (by simp [hqueue]) m
  · next hidle =>
    refine ⟨h, fun hnone => ?_, ha⟩
    cases hqueue : s.link.queue with
    | nil => rfl
    | cons m rest => exact absurd hqueue (hidle m rest hnone)

namespace State.inStep
variable {s : State} (h : s.inStep)
include h

theorem dropped : (dropMessage s).inStep := ⟨h.ordered.linkError true, h.taken, h.notice.raise _⟩

theorem receiverSet {r : Receiver} {gap : Bool} (hgap : gap = false ↔ r = .hunt) : (s.setReceiver r gap).inStep :=
  ⟨⟨h.ordered.queue, h.ordered.formed, h.ordered.reply, hgap⟩, h.taken, h.notice⟩

theorem offered (m : Message) : (offer s m).inStep := by
  unfold offer
  split
  · next hroom =>
    refine takeNext_inStep ⟨?_, ?_, h.ordered.reply, h.ordered.gap⟩ h.notice
    · simpa using hroom
    · simp
  · exact h.dropped

theorem delivered (m : Message) : (s.deliver m).inStep := by
  unfold State.deliver
  split
  · exact h.dropped.receiverSet (by simp)
  · exact h.offered m

theorem judged (bytes : List Byte) (faulted : Bool) : (judgeFrame s bytes faulted).inStep := by
  unfold judgeFrame
  simp only
  split_ifs
  · exact h.dropped
  · exact h.dropped
  · exact h.offered _

theorem received (b : Byte) (faulted : Bool) : (receiveByte s b faulted).inStep := by
  unfold receiveByte
  split
  · split
    · exact h.dropped.receiverSet (by simp)
    · exact h.receiverSet (by simp)
  · exact h.receiverSet (by simp)
  · simp only
    split_ifs
    · exact h.dropped.receiverSet (by simp)
    · exact (h.receiverSet (by simp)).judged _ _
    · exact h.receiverSet (by simp)

theorem gapExpired : (gapExpires s).inStep := by
  unfold gapExpires
  split
  · exact h
  · exact h.dropped.receiverSet (by simp)
  · exact h.receiverSet (by simp)

/-- The end of a reply removes the message answered with it, and a soft reset every other, before the next is taken. -/
theorem replyEnded : (replyEnds s).inStep := by
  have gone : s.replyGone.link.ordered :=
    ⟨s.link.queue.tail_sublist.length_le.trans h.ordered.queue, fun _ => rfl, nofun, h.ordered.gap⟩
  unfold replyEnds
  split
  · simp only
    split
    · exact takeNext_inStep (s := softResetEffect s.replyGone) ⟨Nat.zero_le _, fun _ => rfl, nofun, h.ordered.gap⟩
        (Attention.lawful_of_none rfl)
    · exact takeNext_inStep gone h.notice
  · exact h

theorem noticeEnded : (noticeEnds s).inStep := by
  unfold noticeEnds
  split
  · exact ⟨⟨h.ordered.queue, h.ordered.formed, nofun, h.ordered.gap⟩, h.taken, h.notice⟩
  · exact h

/-- What leaves the link alone keeps it in step with any Attention Unit that is lawful. -/
theorem of_link {t : State} (hlink : t.link = s.link) (ha : t.att.lawful) : t.inStep :=
  ⟨hlink ▸ h.ordered, hlink ▸ h.taken, ha⟩

/-! ### The other blocks' events -/

theorem validated (n : SlotName) : (completeValidation s n).inStep :=
  h.of_link (completeValidation_link s n) (notice_completeValidation h.notice n)

theorem blockTaken (x : BlockInput) : (blockEvent x s).inStep := h.of_link (blockEvent_link s x) (notice_blockEvent h.notice x)

theorem frameStarted : (frameStart s).inStep := h.of_link (frameStart_link s) (notice_frameStart h.notice)

theorem inputFrameTaken (f : InputFrame) : (s.setCmp (s.cmp.inputCompleted f)).inStep := h.of_link rfl h.notice

theorem busSet (p : PadBus) : (s.setPbc p).inStep := h.of_link rfl h.notice

theorem exchangeCompleted (ex : Exchange) (r : Reception) : (s.completeExchange ex r).inStep :=
  h.of_link (completeExchange_link s ex r) (notice_completeExchange h.notice ex r)

theorem uplinkReceived (f : UplinkFrame) : (uplinkFrame s f).inStep := by
  unfold uplinkFrame
  repeat' split
  · exact h
  · exact h
  · exact h.exchangeCompleted _ _

theorem replyTimedOut : (replyTimeout s).inStep := by
  unfold replyTimeout
  repeat' split
  · exact h
  · exact h.exchangeCompleted _ _
  · exact h

theorem characterGapPassed : (characterGap s).inStep := by
  unfold characterGap
  repeat' split
  · exact h
  · exact h.exchangeCompleted _ _
  · exact h

theorem uplinkByteTaken (b : Byte) : (uplinkCharacter s b).inStep := by
  obtain ⟨n, p, hdrawn, _⟩ := drawDownlink_eq s
  have drawn : s.drawDownlink.inStep := hdrawn ▸ h.of_link rfl h.notice
  unfold uplinkCharacter takeUplinkByte
  split
  · exact drawn
  · simp only
    repeat' split
    · exact drawn
    · exact drawn.exchangeCompleted _ _
    · exact drawn.busSet _
    · exact drawn.exchangeCompleted _ _
    · exact drawn.busSet _
    · exact drawn

theorem assignmentSent : (assignSent s).inStep := by
  unfold assignSent
  repeat' split
  · exact h
  · exact h.busSet _
  · exact h

theorem faulty (c : FaultyCompletion) : (faultyBy s c).inStep := by
  cases c with
  | timeout => exact h.replyTimedOut
  | characterGap => exact h.characterGapPassed
  | frame bytes => exact h.uplinkReceived _

/-- The choice begins the notice or a formed reply alone. -/
theorem chosen : (chooseNext s).inStep := by
  unfold chooseNext
  split
  · split
    · exact ⟨⟨h.ordered.queue, h.ordered.formed, nofun, h.ordered.gap⟩, h.taken, Attention.lawful_of_none rfl⟩
    · split
      · next hformed =>
        exact ⟨⟨h.ordered.queue, h.ordered.formed, fun _ => Option.isSome_iff_ne_none.1 hformed, h.ordered.gap⟩,
          h.taken, h.notice⟩
      · exact h
  · exact h

end State.inStep

/-! ### Commands and steps -/

/-- The link in step and nothing left to choose: what stands between arrivals. -/
def State.linkRests (s : State) : Prop := s.inStep ∧ s.settled

theorem poweredUp_linkRests (s : State) (low : Bool) : (s.poweredUp low).linkRests :=
  ⟨⟨⟨Nat.zero_le _, fun _ => rfl, nofun, iff_of_true rfl rfl⟩, fun _ => rfl, nofun⟩, fun _ => ⟨rfl, rfl⟩⟩

namespace State.linkRests
variable {s t : State} {f : State → State} (hf : ∀ {s : State}, s.inStep → (f s).inStep) (hs : s.linkRests)
include hf hs

/-- An arrival that keeps the link in step leaves nothing to choose, by its choice. -/
theorem arrived (h : arrival f s = .next t) : t.linkRests := by
  cases h
  split
  · exact hs
  · exact ⟨(hf hs.1).chosen, chooseNext_settled _⟩

theorem occurred {due : Bool} (h : occurrence due f s = .next t) : t.linkRests := by
  cases due with
  | true => exact arrived hf hs h
  | false =>
    cases h
    exact hs

omit hf in
theorem executed {c : Instr} (h : exec c s = .next t) : t.linkRests := by
  cases c with
  | powerUp =>
    cases h
    exact poweredUp_linkRests s _
  | resetAssert =>
    cases h
    exact ⟨hs.1.of_link rfl hs.1.notice, hs.2⟩
  | resetRelease =>
    cases h
    split
    · exact poweredUp_linkRests s _
    · exact hs
  | frameReceived byte faulted => exact hs.occurred (·.received byte faulted) h
  | wrongLeadByte byte faulted => exact hs.occurred (·.received byte faulted) h
  | payloadLengthAboveLimit byte faulted => exact hs.occurred (·.received byte faulted) h
  | characterReceived byte faulted => exact hs.arrived (·.received byte faulted) h
  | gapTimerExpiry => exact hs.arrived (·.gapExpired) h
  | unknownKind kind tag payload => exact hs.arrived (·.delivered _) h
  | replyEnd => exact hs.arrived (·.replyEnded) h
  | attentionNotice => exact hs.occurred id h
  | noticeEnd => exact hs.arrived (·.noticeEnded) h
  | validationCompletion slot => exact hs.arrived (·.validated slot) h
  | blockCompletion input => exact hs.arrived (·.blockTaken input) h
  | presenceChange input => exact hs.occurred (·.blockTaken input) h
  | songEnd input => exact hs.occurred (·.blockTaken input) h
  | syncTimeout input => exact hs.occurred (·.blockTaken input) h
  | holdLimit input => exact hs.occurred (·.blockTaken input) h
  | settleSpent input => exact hs.occurred (·.blockTaken input) h
  | cueStall input => exact hs.occurred (·.blockTaken input) h
  | resultCountdownSpent input => exact hs.occurred (·.blockTaken input) h
  | pollingRound input => exact hs.occurred (·.blockTaken input) h
  | padReplyTimeout => exact hs.arrived (·.replyTimedOut) h
  | uplinkCharacterGap => exact hs.arrived (·.characterGapPassed) h
  | uplinkCharacterReceived byte => exact hs.arrived (·.uplinkByteTaken byte) h
  | uplinkFaultyFrame bytes => exact hs.arrived (·.uplinkReceived _) h
  | padSilencing completion => exact hs.occurred (·.faulty completion) h
  | idleRecord address => exact hs.arrived (·.uplinkReceived _) h
  | request address toggle song part rush => exact hs.arrived (·.uplinkReceived _) h
  | withdraw address toggle song => exact hs.arrived (·.uplinkReceived _) h
  | join address serial => exact hs.arrived (·.uplinkReceived _) h
  | assignSent => exact hs.arrived (·.assignmentSent) h
  | videoFrameStart => exact hs.arrived (·.frameStarted) h
  | videoLoss => exact hs.occurred (·.frameStarted) h
  | videoRestore => exact hs.occurred (·.frameStarted) h
  | inputFrameCompletion frame => exact hs.arrived (·.inputFrameTaken frame) h
  | _ => exact hs.arrived (·.delivered _) h

omit hf in
theorem stepped (h : step s = .next t) : t.linkRests := by
  unfold step at h
  split at h
  · cases h
    split
    · exact hs
    · exact ⟨hs.1.busSet _, hs.2⟩
  · next c rest _ => exact executed (s := { s with pending := rest }) ⟨hs.1.of_link rfl hs.1.notice, hs.2⟩ h

end State.linkRests

/-- Settles O58: every arrival keeps the link in step, and its choice leaves nothing to choose. -/
theorem linkStaysLawful : Obligations.LinkStaysLawful := fun _ _ hs h =>
  linkLawful_iff.2 (State.linkRests.stepped (linkLawful_iff.1 hs) h)

end Sys2Proof.Machine

namespace Sys2Proof.Machine

/-! ## A raise, by what it finds of its member (R202) -/

section
variable {a : Attention} {m m' : Member}

theorem Attention.raise_of_stands (h : AttentionSet.has a.mask m = true ∨ AttentionSet.has a.latched m = true) :
    a.raise m = a := by
  rcases h with h | h <;> simp [Attention.raise, h]

theorem Attention.raise_of_clear (hmask : ¬ AttentionSet.has a.mask m = true)
    (hlatched : ¬ AttentionSet.has a.latched m = true) :
    a.raise m = { a with latched := a.latched ||| m.single, noticePending := true } := by
  simp [Attention.raise, hmask, hlatched]

/-- A raise of another member changes nothing that a raise goes by. -/
theorem Attention.has_raise_of_ne (h : m ≠ m') : AttentionSet.has (a.raise m').latched m = AttentionSet.has a.latched m := by
  simp [Attention.has_raise, h]

/-- A member whose raise changes nothing may be raised before or after another. -/
theorem Attention.raise_comm_of_stands (h : AttentionSet.has a.mask m = true ∨ AttentionSet.has a.latched m = true) :
    (a.raise m).raise m' = (a.raise m').raise m := by
  have later : AttentionSet.has (a.raise m').mask m = true ∨ AttentionSet.has (a.raise m').latched m = true :=
    h.imp (by simp) (by simp +contextual [Attention.has_raise])
  rw [Attention.raise_of_stands h, Attention.raise_of_stands later]

theorem Attention.raise_comm (a : Attention) (m m' : Member) : (a.raise m).raise m' = (a.raise m').raise m := by
  by_cases hm : AttentionSet.has a.mask m = true ∨ AttentionSet.has a.latched m = true
  · exact Attention.raise_comm_of_stands hm
  by_cases hm' : AttentionSet.has a.mask m' = true ∨ AttentionSet.has a.latched m' = true
  · exact (Attention.raise_comm_of_stands hm').symm
  by_cases hne : m = m'
  · rw [hne]
  obtain ⟨hmask, hlatched⟩ := not_or.1 hm
  obtain ⟨hmask', hlatched'⟩ := not_or.1 hm'
  rw [Attention.raise_of_clear (a := a.raise m) (by rwa [Attention.raise_mask])
      (by rwa [Attention.has_raise_of_ne (Ne.symm hne)]),
    Attention.raise_of_clear (a := a.raise m') (by rwa [Attention.raise_mask]) (by rwa [Attention.has_raise_of_ne hne]),
    Attention.raise_of_clear hmask hlatched, Attention.raise_of_clear hmask' hlatched']
  simp only [BitVec.or_assoc, BitVec.or_comm m.single]

end

/-- Settles O12: a masked or latched member's raise changes nothing, and `has_raise` says what a clear one's latches. -/
theorem raiseLatches : Obligations.RaiseLatches := by
  refine fun a m => ⟨a.raise_comm m, fun hmask => Attention.raise_of_stands (.inl hmask),
    fun hlatched => Attention.raise_of_stands (.inr hlatched), fun hmask hlatched => ?_⟩
  have raised := Attention.raise_of_clear (Bool.eq_false_iff.1 hmask) (Bool.eq_false_iff.1 hlatched)
  have hpending : (a.raise m).pending = true := by
    simpa [raised, Attention.pending, BitVec.or_eq_zero_iff] using fun _ => m.single_ne_zero
  refine ⟨by rw [raised], hpending, a.raise_mask m, a.raise_micAbsentHolds m, by rw [raised], fun m' => ?_⟩
  rw [Attention.has_raise, hmask, Bool.not_false, Bool.and_true]
  rfl

end Sys2Proof.Machine

namespace Sys2Proof.Machine

/-! ## The Attention Unit's messages (R206 to R208, R211) -/

theorem Member.bit_lt (m : Member) : m.bit < 14 := by cases m <;> decide

section
variable {s : State} {x : Half}

/-- A field naming no member beyond the fourteen is the set of its low bits (R211). -/
theorem namedSet_members (h14 : x.getLsbD 14 = false) (h15 : x.getLsbD 15 = false) : namedSet x = some (x.setWidth 14) := by
  rw [namedSet, h14, h15]
  rfl

theorem namedSet_beyond (h : x.getLsbD 14 = true ∨ x.getLsbD 15 = true) : namedSet x = none :=
  if_pos (Bool.or_eq_true_iff.2 h)

/-- Such a set is sent back as it came. -/
theorem setData_members (h14 : x.getLsbD 14 = false) (h15 : x.getLsbD 15 = false) : setData (x.setWidth 14) = le16 x := by
  have same : (x.setWidth 14).setWidth 16 = x := BitVec.eq_of_getLsbD_eq fun i hi => by
    simp only [BitVec.getLsbD_setWidth, hi, decide_true, Bool.true_and]
    have hcases : i < 14 ∨ i = 14 ∨ i = 15 := by omega
    rcases hcases with h | rfl | rfl
    · simp [h]
    · exact h14.symm
    · exact h15.symm
  rw [setData, same]

theorem has_setWidth (x : Half) (m : Member) : AttentionSet.has (x.setWidth 14) m = x.getLsbD m.bit := by
  simp [AttentionSet.has, m.bit_lt]

theorem Attention.has_kept (a : Attention) (m : Member) :
    AttentionSet.has a.kept m = (m == .micAbsent && a.micAbsentHolds || m == .videoLost && a.videoLostHolds) := by
  have hmic := Member.has_single .micAbsent m
  have hvideo := Member.has_single .videoLost m
  simp only [AttentionSet.has] at hmic hvideo
  cases hm : a.micAbsentHolds <;> cases hv : a.videoLostHolds <;>
    simp [Attention.kept, AttentionSet.has, hm, hv, hmic, hvideo, beq_eq_decide]

/-- What an acknowledgement leaves latched (R203, R207). -/
theorem Attention.has_acknowledge (a : Attention) (named : AttentionSet) (m : Member) :
    AttentionSet.has (a.acknowledge named).latched m =
      (AttentionSet.has a.latched m && !(AttentionSet.has named m && !AttentionSet.has a.kept m)) := by
  simp [Attention.acknowledge, Attention.withLatched, AttentionSet.has, m.bit_lt]

theorem takeAttentionRead_eq (s : State) : takeAttentionRead s = ⟨s, .ok,
    le16 (s.att.latched.setWidth 16) ++ le16 (s.att.mask.setWidth 16) ++
      [(if s.att.micAbsentHolds then 1 else 0) + (if s.att.videoLostHolds then 2 else 0),
        if s.att.noticePending then 1 else 0]⟩ := by
  have conditions : n8 ((if s.att.micAbsentHolds then 1 else 0) + (if s.att.videoLostHolds then 2 else 0)) =
      [(if s.att.micAbsentHolds then 1 else 0) + (if s.att.videoLostHolds then 2 else 0)] := by
    cases s.att.micAbsentHolds <;> cases s.att.videoLostHolds <;> rfl
  have notice : flag8 s.att.noticePending = [if s.att.noticePending then 1 else 0] := by
    cases s.att.noticePending <;> rfl
  simp only [takeAttentionRead, accept, conditions, notice, setData, List.append_assoc, List.singleton_append]

theorem takeAttentionMask_members (h14 : x.getLsbD 14 = false) (h15 : x.getLsbD 15 = false) :
    takeAttentionMask s x = ⟨{ s with att := { s.att with mask := x.setWidth 14 } }, .ok, le16 x⟩ := by
  rw [takeAttentionMask, namedSet_members h14 h15, ← setData_members h14 h15]
  rfl

theorem takeAttentionMask_beyond (h : x.getLsbD 14 = true ∨ x.getLsbD 15 = true) :
    takeAttentionMask s x = refuse s .badValue := by
  rw [takeAttentionMask, namedSet_beyond h]

theorem takeAttentionAck_beyond (h : x.getLsbD 14 = true ∨ x.getLsbD 15 = true) :
    takeAttentionAck s x = refuse s .badValue := by
  rw [takeAttentionAck, namedSet_beyond h]

/-- An acknowledgement naming members alone: the link error latch stays unless LINK_ERROR is named (R190, R207). -/
theorem takeAttentionAck_members (h14 : x.getLsbD 14 = false) (h15 : x.getLsbD 15 = false) :
    takeAttentionAck s x =
      ⟨{ s with
          att := s.att.acknowledge (x.setWidth 14)
          link := { s.link with linkError := s.link.linkError && !x.getLsbD 13 } }, .ok,
        setData (s.att.acknowledge (x.setWidth 14)).latched⟩ := by
  have named : AttentionSet.has (x.setWidth 14) .linkError = x.getLsbD 13 := has_setWidth x .linkError
  simp only [takeAttentionAck, namedSet_members h14 h15, named]
  cases x.getLsbD 13
  · simp only [Bool.not_false, Bool.and_true]
    rfl
  · simp only [Bool.not_true, Bool.and_false]
    rfl

/-- ATTENTION_ACK, which alone may write the link, sent over a free link: it is answered from the state before it joined the
receive queue, since it neither reads nor changes the queue. -/
theorem attentionAck_members (tag : Byte) (hlink : LinkFree s) (h14 : x.getLsbD 14 = false) (h15 : x.getLsbD 15 = false) :
    exec (.attentionAck tag x) s = .next (State.answered
      { s with
        att := s.att.acknowledge (x.setWidth 14)
        link := { s.link with linkError := s.link.linkError && !x.getLsbD 13 } }
      ⟨0x09, tag, le16 x⟩ .ok (setData (s.att.acknowledge (x.setWidth 14)).latched)) :=
  sendRequest_free s tag (.attentionAck x) _ .ok _ hlink rfl (by simp [Request.payload, le16_length])
    (takeAttentionAck_members h14 h15)

theorem attentionAck_beyond (tag : Byte) (hlink : LinkFree s) (h : x.getLsbD 14 = true ∨ x.getLsbD 15 = true) :
    exec (.attentionAck tag x) s = .next (s.answered ⟨0x09, tag, le16 x⟩ .badValue []) :=
  sendRequest_free s tag (.attentionAck x) s .badValue [] hlink rfl (by simp [Request.payload, le16_length])
    (takeAttentionAck_beyond h)

end

/-- Settles O13: the reading and the mask leave the link alone; the set an acknowledgement leaves is `has_acknowledge`'s. -/
theorem attentionMessages : Obligations.AttentionMessages := by
  refine ⟨fun s tag x hlink => ?_, fun s tag x hlink => ⟨attentionAck_beyond tag hlink, fun h14 h15 =>
    ⟨(s.att.acknowledge (x.setWidth 14)).latched, fun m => ?_, attentionAck_members tag hlink h14 h15⟩⟩⟩
  · have short : (Request.attentionMask x).payload.length ≤ 1100 := by simp [Request.payload, le16_length]
    exact ⟨sendRequest_taken s tag .attentionRead s .ok _ hlink nofun rfl (Nat.zero_le _) (takeAttentionRead_eq s) rfl,
      fun h14 h15 => sendRequest_taken s tag (.attentionMask x) _ .ok _ hlink nofun rfl short
        (takeAttentionMask_members h14 h15) rfl,
      fun beyond => sendRequest_refused s tag (.attentionMask x) .badValue hlink nofun rfl short
        (takeAttentionMask_beyond beyond)⟩
  · rw [Attention.has_acknowledge, has_setWidth, Attention.has_kept, Bool.not_or, Bool.and_assoc]

end Sys2Proof.Machine

namespace Sys2Proof.Machine

/-! ## Whole uplink frames written and read (R210, R215, R216) -/

/-- The record that a type and a body give is the one laid out in them. -/
theorem readRecord_layout (r : UplinkRecord) : readRecord (BitVec.ofNat 8 r.layout.1) r.layout.2 = r := by
  have toggle_read (b : Bool) : (if b then (1 : Byte) else 0).getLsbD 0 = b := by cases b <;> rfl
  have rush_read (b : Bool) : ((if b then (1 : Byte) else 0) != 0) = b := by cases b <;> rfl
  have song_read (x : Byte) (w : Word) (rest : List Byte) : u32 (x :: (le32 w ++ rest)) 1 = w := by simp
  cases r with
  | malformed => rfl
  | idle => rfl
  | request toggle song part rush =>
    exact (UplinkRecord.request.injEq ..).mpr ⟨toggle_read toggle, song_read _ song _, rfl, rush_read rush⟩
  | withdraw toggle song => exact (UplinkRecord.withdraw.injEq ..).mpr ⟨toggle_read toggle, song_read _ song []⟩
  | join serial => exact congrArg UplinkRecord.join (u32_le32 serial)

theorem layout_body_length (r : UplinkRecord) : r.layout.2.length < 256 := by
  cases r <;> simp [UplinkRecord.layout, flag8, le32_length]

/-- The bytes of a frame before its check: address, type, body length and body (R215). -/
def frameHead (address : Byte) (type : Nat) (body : List Byte) : List Byte :=
  [address, BitVec.ofNat 8 type, BitVec.ofNat 8 body.length] ++ body

theorem padFrame_eq (address : Byte) (type : Nat) (body : List Byte) :
    padFrame address.toNat type body = frameHead address type body ++ le16 (crc (frameHead address type body)) := by
  simp only [padFrame, n8_toNat]
  rfl

section
variable (address : Byte) (type : Nat) {body : List Byte} (hbody : body.length < 256)
include hbody

theorem bodyLength_padFrame : (u8 (padFrame address.toNat type body) 2).toNat = body.length := by
  rw [padFrame_eq]
  exact (BitVec.toNat_ofNat ..).trans (Nat.mod_eq_of_lt hbody)

theorem oneUplinkFrame_padFrame : oneUplinkFrame (padFrame address.toNat type body) = true := by
  have hlen : (padFrame address.toNat type body).length = 5 + body.length := by
    rw [padFrame_eq]
    simp [frameHead, le16_length]
    omega
  simp only [oneUplinkFrame, Bool.and_eq_true, decide_eq_true_eq, hlen]
  exact ⟨by omega, congrArg (5 + ·) (bodyLength_padFrame address type hbody).symm⟩

/-- A frame with a body that its length byte can give is read as what it was made of. -/
theorem readUplink_padFrame : readUplink (padFrame address.toNat type body) =
    .carries address (readRecord (BitVec.ofNat 8 type) body) := by
  have hone := oneUplinkFrame_padFrame address type hbody
  have hm := bodyLength_padFrame address type hbody
  have hcut : (padFrame address.toNat type body).length - 2 = (frameHead address type body).length := by
    simp [padFrame_eq, le16_length]
  have hread : uplinkBody (padFrame address.toNat type body) = body := by
    rw [uplinkBody, hm, padFrame_eq]
    exact List.take_left' rfl
  rw [readUplink_one hone, hcut, hread, padFrame_eq, List.take_left, u16_append_right _ _ _ (le_refl _), Nat.sub_self,
    u16_le16, if_neg (not_not.2 rfl)]
  rfl

end

theorem readUplink_uplinkBytes (address : Byte) (r : UplinkRecord) :
    readUplink (uplinkBytes address r) = .carries address r := by
  rw [uplinkBytes, readUplink_padFrame _ _ (layout_body_length r), readRecord_layout]

/-- The characters received of one uplink frame are whole when none is left to come. -/
theorem uplinkWhole_iff_none_left {taken rest : List Byte} (hone : oneUplinkFrame (taken ++ rest) = true) :
    uplinkWhole taken = true ↔ rest = [] := by
  have hlen := oneUplinkFrame_length hone
  simp only [uplinkWhole, Bool.and_eq_true, decide_eq_true_eq]
  constructor
  · rintro ⟨hheader, hwhole⟩
    rw [u8_append_left _ _ _ hheader, List.length_append] at hlen
    exact List.eq_nil_of_length_eq_zero (by omega)
  · rintro rfl
    rw [List.append_nil] at hlen
    omega

end Sys2Proof.Machine

namespace Sys2Proof.Machine

/-! ## The exchange in flight and its completion

A completion goes by the exchange it is given; the one the bus holds is replaced by it. -/

/-- The state with another exchange in flight. -/
def State.withExchange (s : State) (x : Option Exchange) : State := s.setPbc { s.pbc with exchange := x }

section
variable (s : State) (x : Option Exchange)

/-! ### The queue's operations leave the exchange alone -/

theorem emptySlotOf_withExchange (id : Nat) : (s.withExchange x).emptySlotOf id = (s.emptySlotOf id).withExchange x := by
  have hsame : (s.withExchange x).slotHolding id = s.slotHolding id := rfl
  unfold State.emptySlotOf
  rw [hsame]
  match s.slotHolding id with
  | none => rfl
  | some .a => rfl
  | some .b => rfl

theorem cancelEntry_withExchange (e : Entry) (reason : DropReason) :
    (s.withExchange x).cancelEntry e reason = (s.cancelEntry e reason).withExchange x := by
  have htaken := emptySlotOf_withExchange (s.setEntries (removeEntry s.rq.entries e.id)) x e.id
  exact congrArg (fun u : State => (u.tellPads e.requesters ⟨.dropped reason, e.song⟩).raise .queueChanged) htaken

theorem cue_withExchange (e : Entry) : (s.withExchange x).cue e = (s.cue e).withExchange x := by
  have hsame : (s.withExchange x).slotHolding e.id = s.slotHolding e.id := rfl
  unfold State.cue
  rw [hsame]
  match s.slotHolding e.id with
  | none => rfl
  | some .a => rfl
  | some .b => rfl

theorem autoAdvance_withExchange : (s.withExchange x).autoAdvance = s.autoAdvance.withExchange x := by
  have htr : (s.withExchange x).tr = s.tr := rfl
  have hrq : (s.withExchange x).rq = s.rq := rfl
  simp only [State.autoAdvance, htr, hrq, cue_withExchange]
  cases waiting s.rq.entries with
  | nil => simp only; split_ifs <;> rfl
  | cons e rest => simp only; split_ifs <;> rfl

theorem takeRequest_withExchange (pad song part : Nat) (rush : Bool) : takeRequest (s.withExchange x) pad song part rush =
    ((takeRequest s pad song part rush).1.withExchange x, (takeRequest s pad song part rush).2) := by
  have hrq : (s.withExchange x).rq = s.rq := rfl
  simp only [takeRequest, hrq]
  cases waitingSong s.rq.entries song with
  | some e => simp only; split_ifs <;> rfl
  | none => simp only; split_ifs <;> rfl

theorem takeWithdraw_withExchange (pad song : Nat) : takeWithdraw (s.withExchange x) pad song =
    ((takeWithdraw s pad song).1.withExchange x, (takeWithdraw s pad song).2) := by
  have hrq : (s.withExchange x).rq = s.rq := rfl
  have hset (q : List Entry) : (s.withExchange x).setEntries q = (s.setEntries q).withExchange x := rfl
  simp only [takeWithdraw, hrq, hset, cancelEntry_withExchange, autoAdvance_withExchange]
  cases (waiting s.rq.entries).find? fun e => e.song == song && e.lists pad with
  | none => rfl
  | some e => simp only; split_ifs <;> rfl

/-! ### Completions -/

theorem filterRecord_withExchange (i : Fin 8) (toggle : Bool) {take : State → State × PadOutcome}
    (htake : take (s.withExchange x) = ((take s).1.withExchange x, (take s).2)) :
    (s.withExchange x).filterRecord i toggle take = (s.filterRecord i toggle take).withExchange x := by
  have hrecord : (s.withExchange x).pbc.registry = s.pbc.registry := rfl
  simp only [State.filterRecord, hrecord, htake]
  split_ifs <;> rfl

theorem goodCompletion_withExchange (i : Fin 8) (r : UplinkRecord) :
    (s.withExchange x).goodCompletion i r = (s.goodCompletion i r).withExchange x := by
  cases r with
  | malformed => rfl
  | idle => rfl
  | join serial => rfl
  | request toggle song part rush =>
    exact filterRecord_withExchange (s.forgiven i) x i toggle
      (take := fun u => takeRequest u (padAddress i) song.toNat part.toNat rush) (takeRequest_withExchange ..)
  | withdraw toggle song =>
    exact filterRecord_withExchange (s.forgiven i) x i toggle
      (take := fun u => takeWithdraw u (padAddress i) song.toNat) (takeWithdraw_withExchange ..)

theorem faultyCompletion_withExchange (i : Fin 8) :
    (s.withExchange x).faultyCompletion i = (s.faultyCompletion i).withExchange x := by
  have hrecord : (s.withExchange x).pbc.registry = s.pbc.registry := rfl
  simp only [State.faultyCompletion, hrecord]
  cases (s.pbc.registry.get i).strike.state == .silenced <;> rfl

/-- The round goes on without the exchange completed. -/
theorem afterExchange_withExchange : (s.withExchange x).afterExchange = s.afterExchange := by
  have hending : (s.withExchange x).pbc.roundEnding = s.pbc.roundEnding := rfl
  unfold State.afterExchange
  rw [hending]
  split_ifs <;> rfl

theorem takeJoin_withExchange (serial : Word) : takeJoin (s.withExchange x) serial =
    ((takeJoin s serial).1.withExchange x, (takeJoin s serial).2) := by
  have hholder : (s.withExchange x).pbc.holderOf serial = s.pbc.holderOf serial := rfl
  have hfree : (s.withExchange x).pbc.lowestFree = s.pbc.lowestFree := rfl
  have hrecord : (s.withExchange x).pbc.registry = s.pbc.registry := rfl
  simp only [takeJoin, hholder, hfree, hrecord]
  cases s.pbc.holderOf serial with
  | some i => simp only; split_ifs <;> rfl
  | none => cases s.pbc.lowestFree <;> rfl

/-- The window's answer leaves the exchange it is given, sending its ASSIGN, or none. -/
theorem joinFrame_withExchange (ex : Exchange) (st : Stage) (f : UplinkFrame) :
    (s.withExchange x).joinFrame { ex with stage := st } f = s.joinFrame ex f := by
  unfold State.joinFrame
  cases joinSerial f with
  | none => rfl
  | some serial =>
    simp only [takeJoin_withExchange]
    rfl

/-- A completion goes neither by the stage of its exchange nor by the exchange the bus holds. -/
theorem completeExchange_withExchange (ex : Exchange) (st : Stage) (r : Reception) :
    (s.withExchange x).completeExchange { ex with stage := st } r = s.completeExchange ex r := by
  have hrecord : (s.withExchange x).pbc.registry = s.pbc.registry := rfl
  simp only [State.completeExchange, hrecord, joinFrame_withExchange, goodCompletion_withExchange,
    faultyCompletion_withExchange, afterExchange_withExchange]
  rfl

end

end Sys2Proof.Machine

namespace Sys2Proof.Machine

/-! ## Uplink characters (R216) -/

/-- The characters of the uplink frame received in a stage; none outside the reception span. -/
def Stage.heard : Stage → Option (List Byte)
  | .sending => none
  | .awaiting => some []
  | .receiving bytes => some bytes
  | .assigning => none

theorem Stage.not_sending_of_heard {st : Stage} {taken : List Byte} (h : st.heard = some taken) : st ≠ .sending := by
  rintro rfl
  cases h

theorem Stage.not_assigning_of_heard {st : Stage} {taken : List Byte} (h : st.heard = some taken) : st ≠ .assigning := by
  rintro rfl
  cases h

/-- Nothing is drawn where no POLL or INVITE is being sent. -/
theorem drawDownlink_none {s : State} (h : ∀ ex, s.pbc.exchange = some ex → ex.stage ≠ .sending) : s.drawDownlink = s := by
  have hnone : s.pbc.downlinkInFlight = false := by
    cases hex : s.pbc.exchange with
    | none => simp [PadBus.downlinkInFlight, hex]
    | some ex => simp [PadBus.downlinkInFlight, hex, h ex hex]
  simp [State.drawDownlink, hnone]

section
variable {s : State} {ex : Exchange} (hex : s.pbc.exchange = some ex)
include hex

/-- The last bit of a POLL or INVITE being sent has left by now, or has not (log entry 26). -/
theorem drawDownlink_sending (hst : ex.stage = .sending) : s.drawDownlink = if Config.downlinkSent s.draws then
    (s.setCounts s.blocks (s.draws + 1)).withExchange (some { ex with stage := .awaiting })
      else s.setCounts s.blocks (s.draws + 1) := by
  have hflight : s.pbc.downlinkInFlight = true := by simp [PadBus.downlinkInFlight, hex, hst]
  have hsent : s.pbc.downlinkSent = { s.pbc with exchange := some { ex with stage := .awaiting } } := by
    simp [PadBus.downlinkSent, hex, hst]
  simp only [State.drawDownlink, if_pos hflight, State.setCounts_pbc, hsent]
  rfl

/-- A character within the reception span is kept, and completes the exchange when it makes the frame whole. -/
theorem takeUplinkByte_heard {taken : List Byte} (hheard : ex.stage.heard = some taken) (b : Byte) :
    takeUplinkByte s b =
      if uplinkWhole (taken ++ [b]) then s.completeExchange ex (.received (readUplink (taken ++ [b])))
      else s.withExchange (some { ex with stage := .receiving (taken ++ [b]) }) := by
  unfold takeUplinkByte
  simp only [hex]
  cases hst : ex.stage with
  | sending => rw [hst] at hheard; cases hheard
  | assigning => rw [hst] at hheard; cases hheard
  | awaiting => rw [hst] at hheard; cases hheard; rfl
  | receiving bytes => rw [hst] at hheard; cases hheard; rfl

theorem takeUplinkByte_unheard (hheard : ex.stage.heard = none) (b : Byte) : takeUplinkByte s b = s := by
  unfold takeUplinkByte
  simp only [hex]
  cases hst : ex.stage with
  | sending => rfl
  | assigning => rfl
  | awaiting => rw [hst] at hheard; cases hheard
  | receiving bytes => rw [hst] at hheard; cases hheard

end

theorem takeUplinkByte_idle {s : State} (h : s.pbc.exchange = none) (b : Byte) : takeUplinkByte s b = s := by
  simp only [takeUplinkByte, h]

section
variable {s : State} (hlow : s.resetLow = false)
include hlow

theorem exec_character (b : Byte) :
    exec (.uplinkCharacterReceived b) s = .next (chooseNext (takeUplinkByte s.drawDownlink b)) :=
  arrival_awake (uplinkCharacter · b) s hlow

/-- Outside the span, with nothing being sent, a character changes nothing. -/
theorem exec_character_outside (h : ∀ ex, s.pbc.exchange = some ex → ex.stage = .assigning) (b : Byte) :
    exec (.uplinkCharacterReceived b) s = .next (chooseNext s) := by
  rw [exec_character hlow, drawDownlink_none fun ex hex => by rw [h ex hex]; nofun]
  cases hex : s.pbc.exchange with
  | none => rw [takeUplinkByte_idle hex]
  | some ex => rw [takeUplinkByte_unheard hex (by rw [h ex hex]; rfl)]

variable {ex : Exchange} (hex : s.pbc.exchange = some ex)
include hex

/-- A character ignored, the last bit not having left. -/
theorem exec_character_unsent (hst : ex.stage = .sending) (hdrawn : Config.downlinkSent s.draws = false) (b : Byte) :
    exec (.uplinkCharacterReceived b) s = .next (chooseNext { s with draws := s.draws + 1 }) := by
  rw [exec_character hlow, drawDownlink_sending hex hst, hdrawn, if_neg Bool.false_ne_true,
    takeUplinkByte_unheard (s := s.setCounts s.blocks (s.draws + 1)) hex (by rw [hst]; rfl)]
  rfl

/-- A character that begins the uplink frame, the last bit having left. -/
theorem exec_character_sent (hst : ex.stage = .sending) (hdrawn : Config.downlinkSent s.draws = true) (b : Byte) :
    exec (.uplinkCharacterReceived b) s = .next (chooseNext { s with
      draws := s.draws + 1, pbc := { s.pbc with exchange := some { ex with stage := .receiving [b] } } }) := by
  rw [exec_character hlow, drawDownlink_sending hex hst, if_pos hdrawn,
    takeUplinkByte_heard (ex := { ex with stage := .awaiting }) rfl rfl]
  rfl

variable {taken : List Byte} (hheard : ex.stage.heard = some taken) {b : Byte}
include hheard

/-- Within the span nothing is drawn, and the character is received. -/
theorem exec_character_heard : exec (.uplinkCharacterReceived b) s = .next (chooseNext
    (if uplinkWhole (taken ++ [b]) then s.completeExchange ex (.received (readUplink (taken ++ [b])))
      else s.withExchange (some { ex with stage := .receiving (taken ++ [b]) }))) := by
  have hsent : ∀ ex', s.pbc.exchange = some ex' → ex'.stage ≠ .sending := by
    intro ex' hex'
    cases hex.symm.trans hex'
    exact Stage.not_sending_of_heard hheard
  rw [exec_character hlow, drawDownlink_none hsent, takeUplinkByte_heard hex hheard]

/-- A character of a frame not yet whole is kept. -/
theorem exec_character_kept (hsettled : s.settled) (hwhole : ¬ uplinkWhole (taken ++ [b]) = true) :
    exec (.uplinkCharacterReceived b) s = .next (s.withExchange (some { ex with stage := .receiving (taken ++ [b]) })) := by
  rw [exec_character_heard hlow hex hheard, if_neg hwhole]
  exact congrArg Host.Outcome.next (chooseNext_nothing _ hsettled)

/-- The character that makes a frame whole completes the exchange with it. -/
theorem exec_character_last (hwhole : uplinkWhole (taken ++ [b]) = true) :
    exec (.uplinkCharacterReceived b) s =
      .next (chooseNext (s.completeExchange ex (.received (readUplink (taken ++ [b]))))) := by
  rw [exec_character_heard hlow hex hheard, if_pos hwhole]

end

/-! ### A frame's characters one after another -/

/-- A run takes the command at the front of the queue first. -/
theorem run_front {c : Instr} {rest : List Instr} {s t : State} (k : Nat) (h : exec c { s with pending := rest } = .next t) :
    Sys2Proof.core.run (k + 1) { s with pending := c :: rest } = Sys2Proof.core.run k t := by
  have hstep : Sys2Proof.core.step { s with pending := c :: rest } = .next t := h
  simp only [Host.Core.run, hstep]

/-- With some of a frame's characters in, the rest of them complete the exchange with the whole frame. -/
theorem run_characters {rest : List Byte} (hrest : rest ≠ []) {s : State} {ex : Exchange} {taken : List Byte}
    (hlow : s.resetLow = false) (hex : s.pbc.exchange = some ex) (hheard : ex.stage.heard = some taken)
    (hsettled : s.settled) (hone : oneUplinkFrame (taken ++ rest) = true) :
    Sys2Proof.core.run rest.length { s with pending := rest.map .uplinkCharacterReceived } =
      .next (chooseNext (State.completeExchange { s with pending := [] } ex (.received (readUplink (taken ++ rest))))) := by
  induction rest generalizing s ex taken with
  | nil => exact absurd rfl hrest
  | cons b rest ih =>
    have hjoin : taken ++ [b] ++ rest = taken ++ b :: rest := List.append_cons .. |>.symm
    have hwhole := uplinkWhole_iff_none_left (taken := taken ++ [b]) (rest := rest) (by rwa [hjoin])
    by_cases hlast : rest = []
    · subst hlast
      exact run_front 0 (exec_character_last (s := { s with pending := [] }) hlow hex hheard (hwhole.2 rfl))
    · let ex' : Exchange := { ex with stage := .receiving (taken ++ [b]) }
      have hkept := exec_character_kept (s := { s with pending := rest.map .uplinkCharacterReceived }) hlow hex hheard hsettled
        (mt hwhole.1 hlast)
      have hgathered := ih hlast (s := s.withExchange (some ex')) (ex := ex') hlow rfl rfl hsettled (by rwa [hjoin])
      rw [hjoin] at hgathered
      refine (run_front rest.length hkept).trans (hgathered.trans ?_)
      exact congrArg (fun u : State => (Host.Outcome.next (chooseNext u) : Result))
        (completeExchange_withExchange { s with pending := [] } (some ex') ex _ _)

/-- Settles O29: a record's frame is read back; characters gather to the completion that the whole frame brings. -/
theorem uplinkFramesAreRead : Obligations.UplinkFramesAreRead := by
  refine ⟨readUplink_uplinkBytes, fun s ex bytes hlow hex hst hsettled hone => ?_, fun s b hlow =>
    ⟨fun h => exec_character_outside hlow h b, fun ex hex hst =>
      ⟨fun hdrawn => exec_character_unsent hlow hex hst hdrawn b, fun hdrawn => exec_character_sent hlow hex hst hdrawn b⟩⟩⟩
  have hheard : ex.stage.heard = some [] := by rw [hst]; rfl
  refine ⟨fun b rest _ => exec_character_kept hlow hex hheard hsettled Bool.false_ne_true, ?_⟩
  have hnonempty : bytes ≠ [] := by rintro rfl; cases hone
  have hframe := frame_completes (s := { s with pending := [] }) hlow hex (Stage.not_assigning_of_heard hheard) (readUplink bytes)
  intro characters
  rw [List.length_map]
  exact (run_characters hnonempty hlow hex hheard hsettled hone).trans hframe.symm

end Sys2Proof.Machine

namespace Sys2Proof.Machine

/-! ## The step and the pins (R216, R218) -/

/-- Settles O1: on an empty queue the last bit of a POLL or INVITE is all that can leave. -/
theorem stepRunsFrontCommand : Obligations.StepRunsFrontCommand := by
  refine ⟨fun c rest s hpending => by simp only [step, hpending], fun s hpending => ?_⟩
  have hidle : step s = .next (if s.resetLow then s else s.setPbc s.pbc.downlinkSent) := by simp only [step, hpending]
  refine ⟨fun hlow => by rw [hidle, if_pos hlow], fun hnone => ?_, fun ex hlow hex hst => ?_⟩
  · have hsame : s.pbc.downlinkSent = s.pbc := by
      rcases s.pbc.downlinkSent_cases with ⟨hsame, _⟩ | ⟨ex, hex, hst, _⟩
      · exact hsame
      · exact absurd hst (hnone ex hex)
    rw [hidle, hsame]
    exact congrArg Host.Outcome.next (ite_self s)
  · rcases s.pbc.downlinkSent_cases with ⟨_, hnone⟩ | ⟨ex', hex', _, hsent⟩
    · exact absurd hst (hnone ex hex)
    · cases hex.symm.trans hex'
      rw [hidle, if_neg (Bool.eq_false_iff.1 hlow), hsent]
      rfl

/-- Settles O3: both commands leave the reset state, but for the reset line, the commands waiting and the draws. -/
theorem powerOnValues : Obligations.PowerOnValues := by
  intro s
  refine ⟨s.poweredUp s.resetLow, rfl, fun hlow => congrArg Host.Outcome.next (if_pos hlow), rfl, rfl, rfl, reset_registry,
    rfl, rfl, rfl, rfl, rfl, fun n => ?_, rfl, fun k => Quad.get_const .., rfl, rfl, rfl, rfl,
    fun k => ⟨Quad.get_const .., Quad.get_const ..⟩, rfl, rfl, rfl, rfl, rfl, rfl, rfl, rfl, fun k => Quad.get_const ..,
    rfl, rfl, rfl, rfl, rfl, rfl, rfl, rfl, rfl, rfl, rfl, rfl, rfl⟩
  cases n <;> exact ⟨rfl, rfl, rfl, fun _ => rfl, rfl⟩

end Sys2Proof.Machine

namespace Sys2Proof.Machine

/-! ## The waiting commands and the reset line: every other command is an arrival (section 0.3, R218)

Every command but the pins' three is an occurrence, due or not, whose effect leaves the queue of waiting commands alone. -/

section
variable (s : State)

/-! ### The blocks -/

@[simp] theorem setEntryState_pending (id : Nat) (st : EntryState) : (s.setEntryState id st).pending = s.pending := rfl

@[simp] theorem rebuild_pending : s.rebuild.pending = s.pending := by
  unfold State.rebuild
  split <;> rfl

@[simp] theorem newEntry_pending (song : Nat) (lane : QueueLane) (origin : Origin) (list : List Requester) (p : Nat) :
    (s.newEntry song lane origin list p).pending = s.pending := by
  simp [State.newEntry]

@[simp] theorem releasePad_pending (pad : Nat) : (s.releasePad pad).pending = s.pending := by
  obtain ⟨_, _, _, _, _, _, hpending, _⟩ := padReleased_frame s pad
  rw [releasePad_eq, autoAdvance_pending, hpending]

theorem takeRequest_pending (pad song part : Nat) (rush : Bool) :
    (takeRequest s pad song part rush).1.pending = s.pending := by
  obtain ⟨q, a, h⟩ := takeRequest_eq s pad song part rush
  rw [h]
  rfl

theorem takeWithdraw_pending (pad song : Nat) : (takeWithdraw s pad song).1.pending = s.pending := by
  unfold takeWithdraw
  split
  · rfl
  · simp only
    split <;> simp

theorem handle_pending (r : Request) : (handle s r).state.pending = s.pending := by
  cases r with
  | echo | softReset | attentionRead | transportRead | layoutRead | rate | key | layoutSet => rfl
  | _ =>
    -- the owners of the rest refuse, read, or change the state by operations that leave the waiting commands alone
    simp only [handle, takeAttentionAck, takeAttentionMask, takeResolve, takeQueueAdd, takeQueueMove, takeQueueCancel,
      takeQueueRead, takeHistoryRead, takePolicy, takePadAdmit, takePadRelease, takePadRead, takePadBus, takeSlotOpen,
      takeSlotData, takeSlotSeal, takeSlotDiscard, takeSlotRead, takeStart, takeSync, syncRunning, takePause, takeResume,
      takeStop, takeTransportSet, takeMicSet, takeMicRead, takeBind, takeScoreSet, takeLaneRead, takeBandMap,
      takeRowPlace, takePalette, takeBannerSet, takeGlyphLoad, takeGlyphDrop, takeGlyphClear, takeCompositorRead, accept,
      refuse]
    repeat' split
    all_goals simp

theorem completeValidation_pending (n : SlotName) : (completeValidation s n).pending = s.pending := by
  unfold completeValidation
  simp only
  split
  · rw [autoAdvance_pending]
    split <;> simp
  · rfl

theorem frameStart_pending : (frameStart s).pending = s.pending := by
  rw [frameStart_eq]
  rfl


/-! ### The control link -/

theorem takeMessage_pending (m : Message) : (takeMessage s m).pending = s.pending := by
  change (answerTo s m).state.pending = s.pending
  unfold answerTo
  split
  · rfl
  · rfl
  · exact handle_pending s _

theorem takeNext_pending : (takeNext s).pending = s.pending := by
  unfold takeNext
  split
  · exact takeMessage_pending s _
  · rfl

theorem offer_pending (m : Message) : (offer s m).pending = s.pending := by
  unfold offer
  split
  · exact takeNext_pending _
  · rfl

theorem deliver_pending (m : Message) : (s.deliver m).pending = s.pending := by
  unfold State.deliver
  split
  · rfl
  · exact offer_pending s m

theorem judgeFrame_pending (bytes : List Byte) (faulted : Bool) : (judgeFrame s bytes faulted).pending = s.pending := by
  unfold judgeFrame
  simp only
  split_ifs
  · rfl
  · rfl
  · exact offer_pending s _

theorem receiveByte_pending (b : Byte) (faulted : Bool) : (receiveByte s b faulted).pending = s.pending := by
  unfold receiveByte
  split
  · split <;> rfl
  · rfl
  · simp only
    split_ifs
    · rfl
    · exact judgeFrame_pending _ _ _
    · rfl

theorem gapExpires_pending : (gapExpires s).pending = s.pending := by
  unfold gapExpires
  split <;> rfl

theorem replyEnds_pending : (replyEnds s).pending = s.pending := by
  unfold replyEnds
  split
  · refine (takeNext_pending _).trans ?_
    split <;> rfl
  · rfl

theorem noticeEnds_pending : (noticeEnds s).pending = s.pending := by
  unfold noticeEnds
  split <;> rfl

/-! ### The pad bus -/

theorem drawDownlink_pending : s.drawDownlink.pending = s.pending := by
  obtain ⟨n, p, h, _⟩ := drawDownlink_eq s
  rw [h]
  rfl

theorem afterExchange_pending : s.afterExchange.pending = s.pending := by
  unfold State.afterExchange
  split
  · rfl
  · obtain ⟨p, h, _⟩ := nextExchange_eq (s.setPbc { s.pbc with exchange := none }) s
    rw [h]
    rfl

theorem filterRecord_pending (i : Fin 8) (toggle : Bool) {take : State → State × PadOutcome}
    (htake : ∀ u, (take u).1.pending = u.pending) : (s.filterRecord i toggle take).pending = s.pending := by
  unfold State.filterRecord
  split
  · exact htake s
  · rfl

theorem goodCompletion_pending (i : Fin 8) (r : UplinkRecord) : (s.goodCompletion i r).pending = s.pending := by
  cases r with
  | malformed | idle | join => rfl
  | request => exact filterRecord_pending _ i _ fun u => takeRequest_pending u ..
  | withdraw => exact filterRecord_pending _ i _ fun u => takeWithdraw_pending u ..

theorem faultyCompletion_pending (i : Fin 8) : (s.faultyCompletion i).pending = s.pending := by
  simp [State.faultyCompletion]

theorem joinFrame_pending (ex : Exchange) (f : UplinkFrame) : (s.joinFrame ex f).pending = s.pending := by
  unfold State.joinFrame takeJoin
  simp only
  repeat' split
  all_goals rfl

theorem completeExchange_pending (ex : Exchange) (r : Reception) : (s.completeExchange ex r).pending = s.pending := by
  unfold State.completeExchange
  repeat' split
  · rfl
  · rfl
  · exact joinFrame_pending ..
  · exact afterExchange_pending s
  · exact (afterExchange_pending _).trans (faultyCompletion_pending ..)
  · exact (afterExchange_pending _).trans (goodCompletion_pending ..)
  · exact (afterExchange_pending _).trans (faultyCompletion_pending ..)

theorem uplinkFrame_pending (f : UplinkFrame) : (uplinkFrame s f).pending = s.pending := by
  unfold uplinkFrame
  repeat' split
  · rfl
  · rfl
  · exact completeExchange_pending ..

theorem replyTimeout_pending : (replyTimeout s).pending = s.pending := by
  unfold replyTimeout
  repeat' split
  · rfl
  · exact completeExchange_pending ..
  · rfl

theorem characterGap_pending : (characterGap s).pending = s.pending := by
  unfold characterGap
  repeat' split
  · rfl
  · exact completeExchange_pending ..
  · rfl

theorem takeUplinkByte_pending (b : Byte) : (takeUplinkByte s b).pending = s.pending := by
  cases hex : s.pbc.exchange with
  | none => rw [takeUplinkByte_idle hex]
  | some ex =>
    cases hheard : ex.stage.heard with
    | none => rw [takeUplinkByte_unheard hex hheard]
    | some taken =>
      rw [takeUplinkByte_heard hex hheard]
      split
      · exact completeExchange_pending ..
      · rfl

theorem uplinkCharacter_pending (b : Byte) : (uplinkCharacter s b).pending = s.pending :=
  (takeUplinkByte_pending _ b).trans (drawDownlink_pending s)

theorem assignSent_pending : (assignSent s).pending = s.pending := by
  unfold assignSent
  repeat' split
  all_goals rfl

theorem faultyBy_pending (c : FaultyCompletion) : (faultyBy s c).pending = s.pending := by
  cases c with
  | timeout => exact replyTimeout_pending s
  | characterGap => exact characterGap_pending s
  | frame bytes => exact uplinkFrame_pending s _

end

/-! ### Commands -/

/-- A command that names no event of a pin is an arrival or an occurrence, whose effect no command waiting enters. -/
theorem exec_occurs {c : Instr} (hup : c ≠ .powerUp) (hassert : c ≠ .resetAssert) (hrelease : c ≠ .resetRelease) (s : State) :
    ∃ due f, (∀ u, State.pending (f u) = u.pending) ∧ exec c s = occurrence due f s := by
  cases c with
  | powerUp => exact absurd rfl hup
  | resetAssert => exact absurd rfl hassert
  | resetRelease => exact absurd rfl hrelease
  | frameReceived byte faulted => exact ⟨_, _, (receiveByte_pending · byte faulted), rfl⟩
  | wrongLeadByte byte faulted => exact ⟨_, _, (receiveByte_pending · byte faulted), rfl⟩
  | payloadLengthAboveLimit byte faulted => exact ⟨_, _, (receiveByte_pending · byte faulted), rfl⟩
  | characterReceived byte faulted => exact ⟨true, _, (receiveByte_pending · byte faulted), rfl⟩
  | gapTimerExpiry => exact ⟨true, _, gapExpires_pending, rfl⟩
  | replyEnd => exact ⟨true, _, replyEnds_pending, rfl⟩
  | attentionNotice => exact ⟨_, id, fun _ => rfl, rfl⟩
  | noticeEnd => exact ⟨true, _, noticeEnds_pending, rfl⟩
  | validationCompletion slot => exact ⟨true, _, (completeValidation_pending · slot), rfl⟩
  | blockCompletion input => exact ⟨true, _, (blockEvent_pending · input), rfl⟩
  | presenceChange input => exact ⟨_, _, (blockEvent_pending · input), rfl⟩
  | songEnd input => exact ⟨_, _, (blockEvent_pending · input), rfl⟩
  | syncTimeout input => exact ⟨_, _, (blockEvent_pending · input), rfl⟩
  | holdLimit input => exact ⟨_, _, (blockEvent_pending · input), rfl⟩
  | settleSpent input => exact ⟨_, _, (blockEvent_pending · input), rfl⟩
  | cueStall input => exact ⟨_, _, (blockEvent_pending · input), rfl⟩
  | resultCountdownSpent input => exact ⟨_, _, (blockEvent_pending · input), rfl⟩
  | pollingRound input => exact ⟨_, _, (blockEvent_pending · input), rfl⟩
  | padReplyTimeout => exact ⟨true, _, replyTimeout_pending, rfl⟩
  | uplinkCharacterGap => exact ⟨true, _, characterGap_pending, rfl⟩
  | uplinkCharacterReceived byte => exact ⟨true, _, (uplinkCharacter_pending · byte), rfl⟩
  | padSilencing completion => exact ⟨_, _, (faultyBy_pending · completion), rfl⟩
  | uplinkFaultyFrame | idleRecord | request | withdraw | join => exact ⟨true, _, (uplinkFrame_pending · _), rfl⟩
  | assignSent => exact ⟨true, _, assignSent_pending, rfl⟩
  | videoFrameStart => exact ⟨true, _, frameStart_pending, rfl⟩
  | videoLoss => exact ⟨_, _, frameStart_pending, rfl⟩
  | videoRestore => exact ⟨_, _, frameStart_pending, rfl⟩
  | inputFrameCompletion frame => exact ⟨true, fun s => s.setCmp (s.cmp.inputCompleted frame), fun _ => rfl, rfl⟩
  | _ => exact ⟨true, _, (deliver_pending · _), rfl⟩

theorem arrival_completes {f : State → State} {s : State} (hf : (f s).pending = s.pending) :
    ∃ t, arrival f s = .next t ∧ t.pending = s.pending := by
  refine ⟨_, rfl, ?_⟩
  split
  · rfl
  · rw [chooseNext_pending, hf]

theorem occurrence_completes {due : Bool} {f : State → State} {s : State} (hf : (f s).pending = s.pending) :
    ∃ t, occurrence due f s = .next t ∧ t.pending = s.pending := by
  cases due with
  | true => exact arrival_completes hf
  | false => exact ⟨s, rfl, rfl⟩

/-- Nothing arrives while the reset line is held low (log entry 4). -/
theorem occurrence_held {due : Bool} {f : State → State} {s : State} (hlow : s.resetLow = true) :
    occurrence due f s = .next s := by
  cases due with
  | true => exact arrival_held f s hlow
  | false => rfl

/-- Settles O2: the pins' events keep the commands waiting, and every other command is an occurrence. -/
theorem everyCommandCompletes : Obligations.EveryCommandCompletes := by
  intro c s
  by_cases hup : c = .powerUp
  · exact hup ▸ ⟨_, rfl, rfl⟩
  by_cases hassert : c = .resetAssert
  · exact hassert ▸ ⟨_, rfl, rfl⟩
  by_cases hrelease : c = .resetRelease
  · refine hrelease ▸ ⟨_, rfl, ?_⟩
    split <;> rfl
  obtain ⟨due, f, hf, hexec⟩ := exec_occurs hup hassert hrelease s
  rw [hexec]
  exact occurrence_completes (hf s)

/-! ## The outputs while the reset line is held low (R216, R218) -/

theorem padDriver_iff {s : State} (hhigh : s.resetLow = false) :
    s.padDriver = true ↔ ∃ ex, s.pbc.exchange = some ex ∧ (ex.stage = .sending ∨ ex.stage = .assigning) := by
  cases hex : s.pbc.exchange with
  | none => simp [State.padDriver, hex]
  | some ex => simp [State.padDriver, hhigh, hex]

/-- Settles O4: with the line low no occurrence is taken, and asserting it again changes nothing. -/
theorem resetLineMutesOutputs : Obligations.ResetLineMutesOutputs := by
  refine fun s => ⟨rfl, rfl, rfl, fun _ _ => rfl, padDriver_iff, fun hlow c hup hrelease => ?_⟩
  by_cases hassert : c = .resetAssert
  · subst hassert
    exact congrArg (fun low => Host.Outcome.next { s with resetLow := low }) hlow.symm
  · obtain ⟨due, f, _, hexec⟩ := exec_occurs hup hassert hrelease s
    rw [hexec, occurrence_held hlow]

end Sys2Proof.Machine

namespace Sys2Proof.Machine

/-! ## The receiver's characters (R187 to R189) -/

section
variable {s : State} (b : Byte) (faulted : Bool)

/-! ### In HUNT and DISCARD (R187) -/

theorem receiveByte_lead (h : s.link.receiver = .hunt) : receiveByte s 0x5A false = s.setReceiver (.frame [] false) true := by
  simp [receiveByte, h, wrongLead]

theorem receiveByte_wrongLead (h : s.link.receiver = .hunt) (hwrong : wrongLead b faulted = true) :
    receiveByte s b faulted = (dropMessage s).setReceiver .discard true := by
  simp only [receiveByte, h, if_pos hwrong]

theorem receiveByte_discard (h : s.link.receiver = .discard) : receiveByte s b faulted = s.setReceiver .discard true := by
  simp only [receiveByte, h]

/-! ### In FRAME (R188) -/

variable {bytes : List Byte} {f : Bool} (h : s.link.receiver = .frame bytes f)
include h

theorem declaresTooMuch_iff :
    declaresTooMuch s b = true ↔ (bytes ++ [b]).length = 2 ∧ 1100 < declaredLength (bytes ++ [b]) := by
  simp only [declaresTooMuch, h, decide_eq_true_iff]

theorem endsFrame_iff : endsFrame s b = true ↔
    2 ≤ (bytes ++ [b]).length ∧ (bytes ++ [b]).length = declaredLength (bytes ++ [b]) + 6 := by
  simp only [endsFrame, h, decide_eq_true_iff]

theorem receiveByte_tooMuch (hmuch : declaresTooMuch s b = true) :
    receiveByte s b faulted = (dropMessage s).setReceiver .discard true := by
  simp only [receiveByte, h, if_pos ((declaresTooMuch_iff b h).1 hmuch)]

theorem receiveByte_ends (hends : endsFrame s b = true) :
    receiveByte s b faulted = judgeFrame (s.setReceiver .hunt false) (bytes ++ [b]) (f || faulted) := by
  obtain ⟨hlong, hlast⟩ := (endsFrame_iff b h).1 hends
  simp only [receiveByte, h]
  rw [if_neg (by omega), if_pos ⟨hlong, hlast⟩]

theorem receiveByte_gathered (hmuch : declaresTooMuch s b = false) (hends : endsFrame s b = false) :
    receiveByte s b faulted = s.setReceiver (.frame (bytes ++ [b]) (f || faulted)) true := by
  simp only [receiveByte, h]
  rw [if_neg (mt (declaresTooMuch_iff b h).2 (Bool.eq_false_iff.1 hmuch)),
    if_neg (mt (endsFrame_iff b h).2 (Bool.eq_false_iff.1 hends))]

end

/-- Two length bytes declare the first of them and 256 times the second (R188, R211). -/
theorem declaredLength_pair (low high : Byte) : declaredLength [low, high] = low.toNat + 256 * high.toNat := by
  change (high ++ low).toNat = _
  rw [BitVec.toNat_append, Nat.shiftLeft_eq, Nat.mul_comm, ← Nat.two_pow_add_eq_or_of_lt low.isLt, Nat.add_comm]

theorem exec_characterReceived {s : State} (hlow : s.resetLow = false) (b : Byte) (faulted : Bool) :
    exec (.characterReceived b faulted) s = .next (chooseNext (receiveByte s b faulted)) :=
  arrival_awake (receiveByte · b faulted) s hlow

/-- Settles O5, by the receiver's state. -/
theorem characterIsTaken : Obligations.CharacterIsTaken := by
  intro s b faulted hlow
  rw [exec_characterReceived hlow]
  refine ⟨fun hhunt hb hf => ?_, fun bytes f hframe hmuch hends => ?_, fun hdiscard => ?_⟩
  · rw [hb, hf, receiveByte_lead hhunt]
    rfl
  · rw [receiveByte_gathered b faulted hframe hmuch hends]
    rfl
  · rw [receiveByte_discard b faulted hdiscard]
    rfl

/-! ## Drops at the link (R187 to R190) -/

theorem gapExpires_frame {s : State} {bytes : List Byte} {f : Bool} (h : s.link.receiver = .frame bytes f) :
    gapExpires s = (dropMessage s).setReceiver .hunt false := by
  simp only [gapExpires, h]

theorem gapExpires_discard {s : State} (h : s.link.receiver = .discard) : gapExpires s = s.setReceiver .hunt false := by
  simp only [gapExpires, h]

/-- Settles O6: each drop's occurrence is due, and the receiver's state says where the drop leads. -/
theorem linkDrops : Obligations.LinkDrops := by
  refine fun s b faulted hlow => ⟨fun hhunt hwrong => ?_, fun low f hframe hlong => ?_, fun bytes f hframe => ?_,
    fun hdiscard => ?_⟩
  · have hbyte : wrongLead b faulted = true := by simpa [wrongLead] using hwrong
    have hdue : s.wrongLeadDue b faulted = true := by simp [State.wrongLeadDue, hhunt, hbyte]
    change occurrence _ (receiveByte · b faulted) s = _
    rw [occurrence_due _ _ _ hdue, arrival_awake _ _ hlow, receiveByte_wrongLead b faulted hhunt hbyte]
    rfl
  · have hdue : declaresTooMuch s b = true :=
      (declaresTooMuch_iff b hframe).2 ⟨rfl, (declaredLength_pair low b).symm ▸ hlong⟩
    change occurrence _ (receiveByte · b faulted) s = _
    rw [occurrence_due _ _ _ hdue, arrival_awake _ _ hlow, receiveByte_tooMuch b faulted hframe hdue]
    rfl
  · change arrival gapExpires s = _
    rw [arrival_awake _ _ hlow, gapExpires_frame hframe]
    rfl
  · change arrival gapExpires s = _
    rw [arrival_awake _ _ hlow, gapExpires_discard hdiscard]
    rfl

end Sys2Proof.Machine

namespace Sys2Proof.Machine

/-! ## Whole control-link frames (R188, R210, R211) -/

/-- The bytes of a message's frame that its check covers: length, kind, tag and payload (R210, R211). -/
def Message.covered (m : Message) : List Byte := le16 (BitVec.ofNat 16 m.payload.length) ++ [m.kind, m.tag] ++ m.payload

theorem linkFrame_eq (m : Message) :
    linkFrame m.kind m.tag m.payload = 0x5A :: (m.covered ++ le16 (crc m.covered)) := rfl

theorem Message.covered_length (m : Message) : m.covered.length = 4 + m.payload.length := by
  simp only [Message.covered, List.length_append, le16_length, List.length_cons, List.length_nil]

section
variable {m : Message} (hm : m.payload.length ≤ 1100)
include hm

theorem declaredLength_covered (q : List Byte) : declaredLength (m.covered ++ q) = m.payload.length := by
  simp only [declaredLength, Message.covered, List.append_assoc, u16_le16_append]
  exact (BitVec.toNat_ofNat ..).trans (Nat.mod_eq_of_lt (by omega))

/-- A whole frame is the message its bytes were made of, when neither a fault nor its check drops it. -/
theorem judgeFrame_covered (s : State) (low high : Byte) (f : Bool) : judgeFrame s (m.covered ++ [low, high]) f =
    if f then dropMessage s else if crc m.covered ≠ high ++ low then dropMessage s else offer s m := by
  have htake : (m.covered ++ [low, high]).take (4 + m.payload.length) = m.covered := List.take_left' m.covered_length
  have hcheck : u16 (m.covered ++ [low, high]) (4 + m.payload.length) = high ++ low := by
    rw [u16_append_right _ _ _ m.covered_length.le, m.covered_length, Nat.sub_self]
    rfl
  have hpayload : ((m.covered ++ [low, high]).drop 4).take m.payload.length = m.payload := List.take_left' rfl
  simp only [judgeFrame, declaredLength_covered hm, htake, hcheck, hpayload]
  rfl

/-- A frame's own check lets it pass. -/
theorem judgeFrame_checked (s : State) : judgeFrame s (m.covered ++ le16 (crc m.covered)) false = offer s m := by
  have hcheck : ((crc m.covered >>> 8).setWidth 8 ++ (crc m.covered).setWidth 8 : Half) = crc m.covered := join16 _
  refine (judgeFrame_covered hm s _ _ false).trans ?_
  rw [if_neg Bool.false_ne_true, hcheck, if_neg (not_not.2 rfl)]

end

theorem frameReceived_judged {s : State} (hlow : s.resetLow = false) {b : Byte} {bytes : List Byte} {f : Bool}
    (hframe : s.link.receiver = .frame bytes f) (hends : endsFrame s b = true) (faulted : Bool) :
    exec (.frameReceived b faulted) s =
      .next (chooseNext (judgeFrame (s.setReceiver .hunt false) (bytes ++ [b]) (f || faulted))) := by
  change occurrence _ (receiveByte · b faulted) s = _
  rw [occurrence_due _ _ _ hends, arrival_awake _ _ hlow, receiveByte_ends b faulted hframe hends]

/-- Settles O7: the frame is the message's covered bytes and two of check; the queue's length decides the offer. -/
theorem framesReachTheQueue : Obligations.FramesReachTheQueue := by
  refine ⟨fun s kind tag low high payload f faulted hlow hlen hframe => ?_, fun s m => ⟨fun hfull => ?_, fun hroom hunsent => ?_⟩⟩
  · let m : Message := ⟨kind, tag, payload⟩
    have hjoin : m.covered ++ [low] ++ [high] = m.covered ++ [low, high] := List.append_assoc ..
    have hends : endsFrame s high = true := by
      refine (endsFrame_iff high hframe).2 ?_
      change 2 ≤ (m.covered ++ [low] ++ [high]).length ∧
        (m.covered ++ [low] ++ [high]).length = declaredLength (m.covered ++ [low] ++ [high]) + 6
      rw [hjoin, declaredLength_covered hlen, List.length_append, m.covered_length]
      exact ⟨by omega, by simp only [List.length_cons, List.length_nil]; omega⟩
    have hjudged := judgeFrame_covered (m := m) hlen (s.setReceiver .hunt false) low high (f || faulted)
    rw [← hjoin] at hjudged
    rw [frameReceived_judged hlow hframe hends faulted]
    refine (congrArg (Host.Outcome.next ∘ chooseNext) hjudged).trans ?_
    simp only [Function.comp_apply, ne_comm (a := crc m.covered)]
    rfl
  · exact if_neg (Nat.not_lt.2 hfull)
  · rcases offer_cases s m with ⟨hfull, _⟩ | ⟨_, _, hwaits⟩ | ⟨_, hsent, _⟩
    · exact absurd hfull (Nat.not_le.2 hroom)
    · exact hwaits
    · exact absurd hsent hunsent

/-! ## A frame's characters one after another (R187, R188) -/

section
variable {m : Message} (hm : m.payload.length ≤ 1100) {s : State} {taken rest : List Byte} {b : Byte}
  (hframe : s.link.receiver = .frame taken false) (hjoin : taken ++ b :: rest = m.covered ++ le16 (crc m.covered))
include hm hjoin

/-- Two characters of a message's frame declare its payload's length. -/
theorem declaredLength_part (htwo : 2 ≤ (taken ++ [b]).length) : declaredLength (taken ++ [b]) = m.payload.length := by
  rw [← declaredLength_covered hm (le16 (crc m.covered)), ← hjoin, List.append_cons taken b rest]
  simp only [declaredLength, u16_append_left _ rest 0 htwo]

include hframe

theorem declaresTooMuch_part : declaresTooMuch s b = false := by
  rw [Bool.eq_false_iff, Ne, declaresTooMuch_iff b hframe]
  rintro ⟨htwo, hlong⟩
  rw [declaredLength_part hm hjoin htwo.ge] at hlong
  omega

/-- The frame ends with the character after which none is left to come. -/
theorem endsFrame_part : endsFrame s b = true ↔ rest = [] := by
  have hlen : (taken ++ [b]).length + rest.length = m.payload.length + 6 := by
    have := congrArg List.length hjoin
    simp only [List.length_append, List.length_cons, List.length_nil, m.covered_length, le16_length] at this ⊢
    omega
  rw [endsFrame_iff b hframe, ← List.length_eq_zero_iff]
  constructor
  · rintro ⟨htwo, hlast⟩
    rw [declaredLength_part hm hjoin htwo] at hlast
    omega
  · intro hnone
    have htwo : 2 ≤ (taken ++ [b]).length := by omega
    rw [declaredLength_part hm hjoin htwo]
    omega

/-- A character that is not the frame's last is kept. -/
theorem frameCharacter_kept (hlow : s.resetLow = false) (hsettled : s.settled) (hlast : rest ≠ []) :
    exec (.characterReceived b false) s = .next (s.setReceiver (.frame (taken ++ [b]) false) true) := by
  have hgoes : endsFrame s b = false := Bool.eq_false_iff.2 (mt (endsFrame_part hm hframe hjoin).1 hlast)
  rw [exec_characterReceived hlow, receiveByte_gathered b false hframe (declaresTooMuch_part hm hframe hjoin) hgoes]
  exact congrArg Host.Outcome.next (chooseNext_nothing _ hsettled)

/-- The last offers the frame's message. -/
theorem frameCharacter_last (hlow : s.resetLow = false) (hlast : rest = []) :
    exec (.characterReceived b false) s = .next (chooseNext (offer (s.setReceiver .hunt false) m)) := by
  have hends := (endsFrame_part hm hframe hjoin).2 hlast
  subst hlast
  rw [exec_characterReceived hlow, receiveByte_ends b false hframe hends, hjoin]
  exact congrArg (Host.Outcome.next ∘ chooseNext) (judgeFrame_checked hm _)

end

/-- The lead byte begins a frame. -/
theorem frameCharacter_lead {s : State} (hlow : s.resetLow = false) (hhunt : s.link.receiver = .hunt) (hsettled : s.settled) :
    exec (.characterReceived 0x5A false) s = .next (s.setReceiver (.frame [] false) true) := by
  rw [exec_characterReceived hlow, receiveByte_lead hhunt]
  exact congrArg Host.Outcome.next (chooseNext_nothing _ hsettled)

/-- With some of a frame's characters in, the rest of them offer its message from HUNT. -/
theorem run_frame {m : Message} (hm : m.payload.length ≤ 1100) {rest : List Byte} (hrest : rest ≠ []) {s : State}
    {taken : List Byte} (hlow : s.resetLow = false) (hsettled : s.settled) (hframe : s.link.receiver = .frame taken false)
    (hjoin : taken ++ rest = m.covered ++ le16 (crc m.covered)) :
    Sys2Proof.core.run rest.length { s with pending := rest.map (Instr.characterReceived · false) } =
      .next (chooseNext (offer (State.setReceiver { s with pending := [] } .hunt false) m)) := by
  induction rest generalizing s taken with
  | nil => exact absurd rfl hrest
  | cons b rest ih =>
    by_cases hlast : rest = []
    · subst hlast
      exact run_front 0 (frameCharacter_last (s := { s with pending := [] }) hm hframe hjoin hlow rfl)
    · have hkept := frameCharacter_kept (s := { s with pending := rest.map (Instr.characterReceived · false) }) hm hframe hjoin
        hlow hsettled hlast
      have hoffered := ih hlast (s := s.setReceiver (.frame (taken ++ [b]) false) true) hlow hsettled rfl
        ((List.append_cons ..).symm.trans hjoin)
      exact (run_front rest.length hkept).trans hoffered

theorem setReceiver_self {s : State} {r : Receiver} {gap : Bool} (hr : s.link.receiver = r) (hgap : s.link.gapRunning = gap) :
    s.setReceiver r gap = s := by
  subst hr hgap
  rfl

/-- Settles O9: the lead byte begins the frame, and its other characters offer the message. -/
theorem frameCharactersAreTheMessage : Obligations.FrameCharactersAreTheMessage := by
  intro s m hlow hhunt hgap hsettled hm characters
  let rest := m.covered ++ le16 (crc m.covered)
  have hnonempty : rest ≠ [] := List.append_ne_nil_of_right_ne_nil _ nofun
  have hlead := frameCharacter_lead (s := { s with pending := rest.map (Instr.characterReceived · false) }) hlow hhunt hsettled
  have hdelivered : State.deliver { s with pending := [] } m = offer { s with pending := [] } m := if_neg (Nat.not_lt.2 hm)
  have hsame : State.setReceiver { s with pending := [] } .hunt false = { s with pending := [] } := setReceiver_self hhunt hgap
  rw [List.length_map, arrival_awake (s := { s with pending := [] }) _ hlow, hdelivered, ← hsame]
  exact (run_front rest.length hlead).trans (run_frame hm hnonempty (s := s.setReceiver (.frame [] false) true) hlow hsettled rfl rfl)

end Sys2Proof.Machine

namespace Sys2Proof.Machine

/-! ## Messages that the link answers itself (R192, R193, R197, R198) -/

/-- A kind outside the kind table is none that a message is read by (R192, R212). -/
theorem readMessage_unknown {kind : Byte} (h : kindTable.contains kind = false) (p : List Byte) :
    readMessage kind p = .badKind := by
  have hnone : kind.toNat ∉ kindTable.map BitVec.toNat := by
    intro hmem
    obtain ⟨k, hk, hsame⟩ := List.mem_map.1 hmem
    rw [BitVec.eq_of_toNat_eq hsame] at hk
    exact absurd (List.contains_iff_mem.2 hk) (Bool.eq_false_iff.1 h)
  unfold readMessage
  simp only
  split
  case h_46 => rfl
  all_goals
    next hkind =>
      rw [hkind] at hnone
      exact absurd (by decide) hnone

theorem answerTo_badKind {s : State} {m : Message} (h : readMessage m.kind m.payload = .badKind) :
    answerTo s m = refuse s .badKind := by
  simp only [answerTo, h]

theorem answerTo_badLength {s : State} {m : Message} (h : readMessage m.kind m.payload = .badLength) :
    answerTo s m = refuse s .badLength := by
  simp only [answerTo, h]

/-- A message refused over a free link changes nothing but the reply. -/
theorem deliver_refused {s : State} {m : Message} {code : ResultCode} (h : LinkFree s) (hl : m.payload.length ≤ 1100)
    (ha : answerTo (s.holding m) m = refuse (s.holding m) code) :
    arrival (·.deliver m) s = .next (s.answered m code []) := by
  rw [arrival_awake _ _ h.awake, deliver_free s m h hl, takeMessage, ha]
  rfl

/-- Settles O8: unknown kinds and over-long echoes are refused unread; the owner of ECHO and SOFT_RESET accepts them. -/
theorem linkMessagesAnswered : Obligations.LinkMessagesAnswered := by
  refine ⟨fun s kind tag payload hlink hkind hlen => ⟨?_, fun hbeyond => if_pos hbeyond, fun hpad hlow => ?_⟩,
    fun s tag bytes hlink => ⟨fun hfits => ?_, fun hlong => ?_, ?_⟩⟩
  · exact deliver_refused hlink hlen (answerTo_badKind (readMessage_unknown hkind payload))
  · exact if_neg (not_or.2 ⟨hpad, BitVec.not_le.2 hlow⟩)
  · exact sendRequest_taken s tag (.echo bytes) s .ok bytes hlink nofun (decide_eq_true hfits)
      (hfits.trans (by decide)) rfl rfl
  · have hread : readMessage 0x01 bytes = .badLength := if_neg (by rw [decide_eq_true_iff]; omega)
    have hlen : bytes.length ≤ 1100 := by omega
    exact deliver_refused (m := ⟨0x01, tag, bytes⟩) hlink hlen (answerTo_badLength hread)
  · exact sendRequest_taken s tag .softReset s .ok [] hlink nofun rfl (Nat.zero_le _) rfl rfl

end Sys2Proof.Machine

namespace Sys2Proof.Machine

/-! ## What the transmitter sends next (R196, R205) -/

/-- The notice sent, and the transmitter IDLE (R196). -/
def State.noticeGone (s : State) : State := s.setLink { s.link with transmitter := .idle }

section
variable {s : State} (hlow : s.resetLow = false)
include hlow

/-- The end of a notice leaves the transmitter to choose. -/
theorem noticeEnd_chooses {n : Notice} (hnotice : s.link.transmitter = .notice n) :
    exec .noticeEnd s = .next (chooseNext s.noticeGone) := by
  change arrival noticeEnds s = _
  rw [arrival_awake _ _ hlow]
  simp only [noticeEnds, hnotice, State.noticeGone]

/-- The end of a reply that resets nothing takes the oldest of the messages still waiting. -/
theorem replyEnd_takesNext (hreply : s.link.transmitter = .reply) {r : Reply} (hformed : s.link.formed = some r)
    (hr : r.kind ≠ 0x82) : exec .replyEnd s = .next (chooseNext (takeNext s.replyGone)) := by
  have hkeeps : r.endsInReset = false := by rw [Reply.endsInReset, beq_false_of_ne hr, Bool.false_and]
  change arrival replyEnds s = _
  rw [arrival_awake _ _ hlow]
  simp [replyEnds, hreply, hformed, hkeeps, State.replyGone]

end

/-- Settles O10: a notice and a reply end in the transmitter's choice, the reply's end after the next message is taken. -/
theorem transmitterSendsInTurn : Obligations.TransmitterSendsInTurn := by
  refine ⟨fun s hlow => ⟨fun hidle hpending => ?_, fun n hnotice hpending => ?_, fun n hnotice hnone hformed => ?_,
    fun n hnotice hnone hformed => ?_⟩, fun s r m rest hlow hreply hformed hr hqueue => ?_⟩
  · change occurrence _ id s = _
    rw [occurrence_due _ _ _ hpending, arrival_awake _ _ hlow, id, chooseNext_notice s hidle hpending]
    rfl
  · rw [noticeEnd_chooses hlow hnotice, chooseNext_notice s.noticeGone rfl hpending]
    rfl
  · rw [noticeEnd_chooses hlow hnotice, chooseNext_reply s.noticeGone rfl hnone (Option.isSome_iff_ne_none.2 hformed)]
    rfl
  · rw [noticeEnd_chooses hlow hnotice, chooseNext_nothing s.noticeGone fun _ => ⟨hnone, hformed⟩]
    rfl
  · intro ended
    have hended : s.replyGone = ended := by
      rw [State.replyGone, hqueue]
      rfl
    rw [replyEnd_takesNext hlow hreply hformed hr, hended]
    refine ⟨fun hlast => ?_, fun next more hnext a ha => ?_⟩
    · subst hlast
      rfl
    · subst hnext ha
      rfl

end Sys2Proof.Machine
